-- ==== Sys2Proof/Word.lean ====
section
/-!
DEFINITION. The word types of the CLV824 and the fixed-length table used wherever the manual has a
fixed number of like things (lanes, channels, probes, trigger sets, pages).
-/

namespace Sys2Proof

/-- A word is 32 bits (00_scope.md 4.1). -/
abbrev Word := BitVec 32

/-- A byte of board memory. -/
abbrev Byte := BitVec 8

/-- A table of exactly `n` entries: raw data with the proof of its length. -/
structure Tab (n : Nat) (α : Type) where
  items : List α
  len : items.length = n
  deriving DecidableEq, Repr

namespace Tab

variable {n : Nat} {α β : Type}

/-- The entry at an index. -/
def get (t : Tab n α) (i : Fin n) : α := t.items.get (i.cast t.len.symm)

/-- The table with one entry replaced. -/
def set (t : Tab n α) (i : Fin n) (a : α) : Tab n α :=
  ⟨t.items.set i.val a, by rw [List.length_set]; exact t.len⟩

/-- The table with one entry changed by a function. -/
def modify (t : Tab n α) (i : Fin n) (f : α → α) : Tab n α := t.set i (f (t.get i))

/-- Every entry the same. -/
def fill (n : Nat) (a : α) : Tab n α := ⟨List.replicate n a, List.length_replicate⟩

/-- Every entry changed by one function. -/
def map (f : α → β) (t : Tab n α) : Tab n β :=
  ⟨t.items.map f, by rw [List.length_map]; exact t.len⟩

/-- `f 0, f 1, …` of length `n`. -/
def listOf : (n : Nat) → (Nat → α) → List α
  | 0, _ => []
  | k + 1, f => f 0 :: listOf k (fun i => f (i + 1))

theorem length_listOf (n : Nat) (f : Nat → α) : (listOf n f).length = n := by
  induction n generalizing f with
  | zero => rfl
  | succ k ih => simp [listOf, ih]

/-- The table whose entry `i` is `f i`. -/
def ofNat (n : Nat) (f : Nat → α) : Tab n α := ⟨listOf n f, length_listOf n f⟩

/-- Two tables joined entry by entry. -/
def zipWith {γ : Type} (f : α → β → γ) (t : Tab n α) (u : Tab n β) : Tab n γ :=
  ⟨List.zipWith f t.items u.items, by rw [List.length_zipWith, t.len, u.len, Nat.min_self]⟩

end Tab

/-- All indices below `n`, lowest first. -/
def indices : (n : Nat) → List (Fin n)
  | 0 => []
  | k + 1 => 0 :: (indices k).map Fin.succ

end Sys2Proof
end

