-- ==== Sys2Proof/Syntax.lean ====
section
/-!
DEFINITION. The commands of the block: one constructor per row of spec/opcode_table.json, with the
operands that reach the part from outside (a written value, a frame, an answer, the words the bus
returns). A command with no operand takes what it acts on from the state (log 3).
-/

namespace Sys2Proof

/-- Lane L1-L4, as 0-3. -/
abbrev Lane := Fin 4
/-- Channel S0-S15 (R1). -/
abbrev Chan := Fin 16
/-- Page index 0-63 of the exchange region (R148). -/
abbrev Page := Fin 64
/-- Trigger set TS0-TS7. -/
abbrev SetId := Fin 8
/-- Field line F0-F3. -/
abbrev Line := Fin 4
/-- Probe T0-T5. -/
abbrev Probe := Fin 6

/-- The two slots a lane has for vehicle contexts (05, 5.1). -/
inductive Slot where
  | openSlot
  | closingSlot
  deriving DecidableEq, Repr

/-- The registers whose writes are a REGISTER_WRITE (R146). -/
inductive WindowReg where
  | ident
  | xbase
  | serial
  deriving DecidableEq, Repr

/-- A sample frame on the sample link (01, 1.5): sequence number, sixteen signed samples, and one
over-range flag per channel. -/
structure Frame where
  seq : BitVec 8
  samples : Tab 16 (BitVec 16)
  overRange : Tab 16 Bool
  deriving DecidableEq, Repr

/-- An answer on the probe line (01, 1.4). `checkOk` says whether the check value agrees with the
other fields; the manual does not give the check's function (log 22). -/
structure Answer where
  addr : Probe
  reading : BitVec 16
  error : Bool
  checkOk : Bool
  deriving DecidableEq, Repr

/-- The commands, one per row of spec/opcode_table.json, in the table's order. -/
inductive Instr where
  /-- HRST or power-on (R167). -/
  | hardReset
  /-- A CONTROL write with ENABLE 1; its RESTART and ATTN_EN bits (R146, R167). -/
  | enable (restart attn : Bool)
  /-- A CONTROL write with ENABLE 0; its RESTART and ATTN_EN bits (R146, R173). -/
  | disable (restart attn : Bool)
  /-- A CONTROL write with ENABLE 1 and RESTART 1 (R146, R172). -/
  | softRestart (attn : Bool)
  /-- A CONTROL write of ATTN_EN that leaves ENABLE as it stands (R147). -/
  | attnEn (value : Bool)
  /-- A write to IDENT, XBASE or SERIAL (R146). -/
  | registerWrite (reg : WindowReg) (value : Word)
  /-- A write to HANDOVER (R151). -/
  | handover (value : Word)
  /-- A write to STATUS (R147). -/
  | statusClear (value : Word)
  /-- A write to STATUS with 1 at BUS_FAULT (R164). -/
  | busFaultClear (value : Word)
  | pfiAsserted
  | pfiReleased
  | loopOnset (lane : Lane)
  | loopEnd (lane : Lane)
  | stuckExpiry (lane : Lane)
  | sampleFrame (frame : Frame)
  | linkLoss
  | pollRound
  | probeAnswer (answer : Answer)
  | answerTimeout
  /-- The level now at a field line (R126). -/
  | fieldEdge (line : Line) (level : Bool)
  | closeDeadline (lane : Lane)
  | idleDeadline (lane : Lane) (slot : Slot)
  | drainTimeout
  | quietEntry
  | settleEnd
  | timerExpiry (tset : SetId)
  | pulseStart (line : Line)
  | pulseEnd (line : Line)
  /-- The waiting trigger event at this place in the waiting list is taken (R129, R133). -/
  | cascade (which : Nat)
  | sweep
  | flushTimeout
  /-- The granted access completes; `data` are the words a read returns (log 3). -/
  | accessComplete (data : List Word)
  | busError
  | takeResultPage
  | takeOrderPage
  | pendingHandover
  | loadClassTableDone
  | loadTemperatureCurveDone
  | nop
  | setExchange
  | start
  | stop
  | halt
  | setClock
  | setQuiet
  | reportStatus
  | setSiteGeometry
  | setChannelMask
  | setDetection
  | capture
  | cancelCapture
  | setWeighing
  | setProbes
  | loadTemperatureCurve
  | selectBuiltInCurve
  | setTemperature
  | loadClassTable
  | selectBuiltInClassTable
  | setAssembly
  | setChannelFactors
  | setDrift
  | freezeDrift
  | resumeDrift
  | resetDrift
  | restoreDrift
  | reportCalibration
  | lockCalibration
  | setTrigger
  | setFieldLines
  | controlTriggers
  deriving DecidableEq, Repr

end Sys2Proof
end

