-- ==== Sys2Proof/Machine/Bits.lean ====
section
/-!
DEFINITION. Rounding, clamping, saturating counters, the 48-bit tick arithmetic, bit fields and byte
order: the helpers every other file computes with.
-/

namespace Sys2Proof.Machine

/-- Rounding half up of `num / den` (00_scope.md 4.3): one half is added to the exact quotient and
the fraction dropped. `den` is positive wherever the rules use it. -/
def roundDiv (num den : Nat) : Nat := (2 * num + den) / (2 * den)

/-- Rounding to the nearest whole number, an exact half toward +∞ (R75); `den` is positive. -/
def roundDivInt (num : Int) (den : Nat) : Int := (2 * num + (den : Int)) / (2 * (den : Int))

/-- Clamping to `lo..hi` (00_scope.md 4.3). -/
def clamp (lo hi v : Nat) : Nat := if v < lo then lo else if hi < v then hi else v

/-- Clamping of a signed value to `lo..hi`. -/
def clampInt (lo hi v : Int) : Int := if v < lo then lo else if hi < v then hi else v

/-- The top of the 32-bit counters. -/
def counterMax : Nat := 4294967295

/-- A 32-bit counter raised by one, saturating. -/
def satInc (n : Nat) : Nat := if n < counterMax then n + 1 else counterMax

/-- A 32-bit counter raised by `k`, saturating. -/
def satAdd (n k : Nat) : Nat := min (n + k) counterMax

/-- A generation of 16 bits raised by one, 65,535 followed by 1 (R104, R111, R35). -/
def nextGen (g : Nat) : Nat := if g < 65535 then g + 1 else 1

/-- The absolute difference of two whole numbers. -/
def absDiff (a b : Nat) : Nat := if a ≤ b then b - a else a - b

/-! ### Ticks: 48 bits, wrapping (R179) -/

/-- 2⁴⁸, the site clock's modulus (R179). -/
def tickMod : Nat := 281474976710656

/-- 2⁴⁷, half of it. -/
def tickHalf : Nat := 140737488355328

/-- A tick `d` ticks later. -/
def tickAdd (t d : Nat) : Nat := (t + d) % tickMod

/-- Ticks from `earlier` up to `later`, taken modulo 2⁴⁸ (DESIGN CHOICE, log 5). -/
def tickSince (later earlier : Nat) : Nat := (later + (tickMod - earlier % tickMod)) % tickMod

/-- Whether the site clock has reached a due tick: the due tick lies at most half the clock's range
behind (DESIGN CHOICE, log 5: the manual does not say how ticks compare across the wrap). -/
def reached (clock due : Nat) : Bool := tickSince clock due < tickHalf

/-- Signed distance of a tick from `now`. -/
def tickOffset (now t : Nat) : Int :=
  if tickSince t now < tickHalf then (tickSince t now : Int) else (tickSince t now : Int) - (tickMod : Int)

/-- A tick at a signed distance from another. -/
def tickShift (t : Nat) (off : Int) : Nat := (((t : Int) + off) % (tickMod : Int)).toNat

/-! ### Bit fields (10_record_and_order_layouts.md) -/

/-- The `width` bits of a word from bit `lo` up. -/
def field (w : Word) (lo width : Nat) : Nat := (w.toNat >>> lo) % 2 ^ width

/-- One bit of a word. -/
def bitAt (w : Word) (i : Nat) : Bool := w.getLsbD i

/-- A value placed at bit `lo`. -/
def put (lo v : Nat) : Nat := v <<< lo

/-- A flag as a bit. -/
def b2n (b : Bool) : Nat := if b then 1 else 0

/-- A 16-bit field read as a signed number. -/
def signed16 (n : Nat) : Int := if n < 32768 then (n : Int) else (n : Int) - 65536

/-- The low 16 bits of a signed number in two's complement. -/
def low16 (i : Int) : Nat := (i % 65536).toNat

/-- The low 32 bits of a number, as a word. -/
def toWord (n : Nat) : Word := BitVec.ofNat 32 n

/-- The low 32 bits of a tick (R181). -/
def tickLow (t : Nat) : Nat := t % 4294967296

/-- The upper 16 bits of a tick (R181). -/
def tickHigh (t : Nat) : Nat := t / 4294967296 % 65536

/-- The offset sample of a signed 16-bit sample, in 0..65,535 (02, 2.2): the sample plus 32,768. -/
def offsetSample (s : BitVec 16) : Nat := (signed16 s.toNat + 32768).toNat

end Sys2Proof.Machine
end

