-- ==== Sys2Proof/Machine/Types.lean ====
section
/-!
DEFINITION. The data of each block, as the chapter that owns the block names it.
-/

namespace Sys2Proof.Machine

/-- Row A (upstream) and row B (01, 1.1). -/
inductive Row where
  | a
  | b
  deriving DecidableEq, Repr

/-- One thing for each row. -/
structure PerRow (α : Type) where
  a : α
  b : α
  deriving DecidableEq, Repr

/-- The run states (09). -/
inductive RunState where
  | disabled
  | ready
  | running
  | quiet
  | waking
  | draining
  | powerFail
  deriving DecidableEq, Repr

/-- The grades, best to worst (R61). -/
inductive Grade where
  | good
  | fair
  | poor
  | unweighed
  deriving DecidableEq, Repr

/-! ### Chapter 1: site, loops, probe line, sample link -/

/-- The three distances of a lane, in mm (01, 1.2). -/
structure LaneGeom where
  d : Nat
  dOA : Nat
  lp : Nat
  deriving DecidableEq, Repr

/-- The site picture (R3, R4). -/
structure Site where
  laneCount : Nat
  geom : Tab 4 LaneGeom
  mask : Tab 16 Bool
  deriving DecidableEq, Repr

/-- The levels at the input pins. -/
structure Pins where
  lp : Tab 4 Bool
  field : Tab 4 Bool
  pfi : Bool
  deriving DecidableEq, Repr

/-- A loop unit's state (R7, R8), with its onset tick and occupancy timer. -/
inductive LoopState where
  | vacant
  | occupied (onset timer : Nat)
  | stuck (onset : Nat)
  deriving DecidableEq, Repr

/-- The sequence finding of an accepted frame (R13). -/
inductive Finding where
  | first
  | inSequence
  | gap (missing : Nat)
  | broken
  deriving DecidableEq, Repr

/-- The Sample Link Receiver (01, 1.5). -/
structure Link where
  ref : Option (BitVec 8 × Nat)
  silence : Option Nat
  fault : Bool
  gaps : Nat
  deriving DecidableEq, Repr

/-- An outstanding exchange on the probe line (R10): ticks left on the answer timer, and whether its
outcome is to be discarded because the probe was unconfigured (R65). -/
structure Polled where
  probe : Probe
  left : Nat
  discard : Bool
  deriving DecidableEq, Repr

/-- What the probe line delivers (R10). -/
inductive ProbeOutcome where
  | reading (t : Int)
  | probeError
  | noAnswer
  deriving DecidableEq, Repr

/-! ### Chapter 2: hits, history, capture -/

/-- The detection parameters (02, 2.7). -/
structure DetPar where
  onThr : Nat
  offThr : Nat
  onCount : Nat
  offCount : Nat
  maxLen : Nat
  deriving DecidableEq, Repr

/-- The measures of an open hit over its joined frames (R24-R26). -/
structure OpenHit where
  start : Nat
  last : Nat
  sum : Int
  wsum : Int
  clipped : Bool
  gap : Bool
  settling : Bool
  deriving DecidableEq, Repr

/-- The channel states (02, 2.1) with what each holds; baselines in 1/256 count. -/
inductive ChanState where
  | off
  | learning (count base : Nat)
  | idle (base : Nat)
  | candidate (base : Nat) (hit : OpenHit) (count : Nat)
  | hit (base : Nat) (hit : OpenHit)
  | tail (base : Nat) (hit : OpenHit) (pendSum pendW : Int) (count : Nat)
  | long (base count : Nat)
  | faulted (base : Nat)
  deriving DecidableEq, Repr

/-- A closed hit (02, 2.4). -/
structure Hit where
  chan : Chan
  start : Nat
  last : Nat
  area : Nat
  centroid : Nat
  clipped : Bool
  gap : Bool
  long : Bool
  settling : Bool
  deriving DecidableEq, Repr

/-- The Hit Detector. -/
structure Detector where
  par : DetPar
  chans : Tab 16 ChanState
  hits : PerRow (List Hit)
  aborted : Nat
  lost : Nat
  deriving DecidableEq, Repr

/-- A frame of the raw history, with its arrival number (R33). -/
structure HistFrame where
  num : Nat
  tick : Nat
  samples : Tab 16 (BitVec 16)
  overRange : Tab 16 Bool
  finding : Finding
  deriving DecidableEq, Repr

/-- The raw history, newest frame first, and the next arrival number (R33). -/
structure History where
  frames : List HistFrame
  next : Nat
  deriving DecidableEq, Repr

/-- An arm request (R34). -/
structure ArmRequest where
  lane : Lane
  pre : Nat
  maxFrames : Nat
  deriving DecidableEq, Repr

/-- The end reasons of a trace page (02, 2.10). -/
inductive EndReason where
  | none
  | close
  | limit
  | truncated
  | cancelled
  | halted
  | restart
  | powerFail
  | busFault
  deriving DecidableEq, Repr

/-- What the trace writer is doing with its page: the entry FILLING, nothing, word `k` of a frame, word
`k` of the header, the entry CLOSED. -/
inductive TracePhase where
  | takeEntry
  | rest
  | frame (f : HistFrame) (k : Nat)
  | header (k : Nat)
  | closeEntry
  deriving DecidableEq, Repr

/-- The trace page being filled (R35-R37). `reason` is the end reason its header will carry. -/
structure TracePage where
  page : Page
  seq : Nat
  frames : Nat
  pre : Nat
  ticks : Option (Nat × Nat)
  discontinuous : Bool
  overRange : BitVec 4
  reason : EndReason
  phase : TracePhase
  deriving DecidableEq, Repr

/-- A capture in progress (R35-R38). `stop` is the first arrival number no longer copied, once an end
point is set; `faultEnd` is the end reason first taken during a bus fault; `broken` says that BUS_FAULT was
cleared during this capture, which step 2 of the resumption then ends (R38, R164). -/
structure CaptureRun where
  lane : Lane
  serial : Nat
  number : Nat
  pos : Nat
  opened : Nat
  written : Nat
  maxFrames : Nat
  stop : Option (Nat × EndReason)
  faultEnd : Option EndReason
  broken : Bool
  noted : BitVec 6
  page : Option TracePage
  deriving DecidableEq, Repr

inductive CaptureState where
  | idle
  | armed (req : ArmRequest)
  | capturing (run : CaptureRun)
  deriving DecidableEq, Repr

/-- The capture unit, with the capture number last given (R35). -/
structure CaptureUnit where
  st : CaptureState
  number : Nat
  deriving DecidableEq, Repr

/-! ### Chapter 3: row axles and axles -/

/-- A wheel of a row axle: channel and integral (03, 3.1). -/
structure Wheel where
  chan : Chan
  area : Nat
  deriving DecidableEq, Repr

/-- A row axle (03, 3.1). Its lane set is `lane`, or `lane` and the next one for a straddle. -/
structure RowAxle where
  row : Row
  lane : Lane
  straddle : Bool
  centroid : Nat
  near : Option Wheel
  far : Option Wheel
  clipped : Bool
  gap : Bool
  long : Bool
  settling : Bool
  oneWheel : Bool
  deriving DecidableEq, Repr

/-- An entry of the row-A row-axle list: the row axle and the number of its axle (log 14). -/
structure WaitingAxle where
  id : Nat
  part : RowAxle
  deriving DecidableEq, Repr

/-- The weighing parameters (03, 3.8). -/
structure WeighPar where
  vmin : Nat
  vmax : Nat
  bandLow : Nat
  bandHigh : Nat
  tolerance : Nat
  window : Nat
  deriving DecidableEq, Repr

/-- The Axle Assembler (03, 3.1). -/
structure AxleAssembler where
  rowA : List WaitingAxle
  rowB : List RowAxle
  par : WeighPar
  deriving DecidableEq, Repr

/-- The states of an axle (03, 3.1). -/
inductive AxleStage where
  | waiting
  | matched
  | singleRow
  | closedOut
  deriving DecidableEq, Repr

/-- The loads of an axle in kg (R56): each wheel in each row, the combined wheels, the row totals, the
axle load. -/
structure Loads where
  aNear : Nat
  aFar : Nat
  bNear : Nat
  bFar : Nat
  near : Nat
  far : Nat
  totalA : Nat
  totalB : Nat
  load : Nat
  deriving DecidableEq, Repr

/-- The eighteen axle flags, numbered as in the axle entry of the vehicle record (10, 10.4). -/
abbrev AxleFlags := BitVec 18

/-- An axle (03, 3.1), with its provisional row-A time (R91). -/
structure Axle where
  id : Nat
  partA : Option RowAxle
  partB : Option RowAxle
  stage : AxleStage
  own : Option Nat
  borrowed : Option Nat
  loads : Loads
  flags : AxleFlags
  grade : Option Grade
  prov : Int
  deriving DecidableEq, Repr

/-! ### Chapter 4: temperature -/

/-- A probe's state with what it holds (04, 4.2). -/
inductive ProbeState where
  | absent
  | starting (coll : List Int) (miss : Nat)
  | good (w1 w2 w3 : Int) (f miss rej : Nat)
  | failed (goodRun : Nat)
  deriving DecidableEq, Repr

/-- A row temperature (04, 4.3): state, value in tenths and, in HELD and STALE, the hold count. -/
inductive RowTemp where
  | none
  | live (t : Int)
  | secondary (t : Int)
  | held (t : Int) (hold : Nat)
  | stale (t : Int) (hold : Nat)
  deriving DecidableEq, Repr

/-- The primary and secondary probe of a row (R83). -/
structure RowProbes where
  primary : Option Probe
  secondary : Option Probe
  deriving DecidableEq, Repr

/-- A compensation curve (04, 4.4): breakpoints as temperature and factor. -/
structure Curve where
  points : List (Int × Nat)
  loaded : Bool
  deriving DecidableEq, Repr

/-- What the running summary gathers for a probe (R80). -/
structure ProbeSum where
  good : Nat
  sumF : Nat
  range : Option (Int × Int)
  deriving DecidableEq, Repr

/-- What the running summary gathers for a row (R80). -/
structure RowSum where
  held : Nat
  stale : Nat
  deriving DecidableEq, Repr

/-- The running summary (04, 4.7). -/
structure Summary where
  start : Nat
  next : Nat
  short : Bool
  probes : Tab 6 ProbeSum
  rows : PerRow RowSum
  deriving DecidableEq, Repr

/-- The Temperature Unit. `round` is the rest of the list of a poll round in progress; `secondUsed`
says that the second boundary at the present tick has been used (R65, log 12). -/
structure TempUnit where
  probes : Tab 6 ProbeState
  assign : PerRow RowProbes
  rows : PerRow RowTemp
  curve : Curve
  shadow : Option (List Word)
  bounds : List Int
  holdLimit : Nat
  stepLimit : Nat
  interval : Nat
  summary : Summary
  round : Option (List Probe)
  line : Option Polled
  secondUsed : Bool
  deriving DecidableEq, Repr

/-! ### Chapter 5: vehicles and classes -/

/-- A vehicle context (05, 5.1). Its lane and slot are where it stands. -/
structure Context where
  serial : Nat
  onset : Option Nat
  loopEnd : Option Nat
  axles : List Axle
  total : Nat
  lastSpeed : Option Nat
  closeDeadline : Option Nat
  idleDeadline : Option Nat
  lastJoin : Nat
  noLoop : Bool
  stuckLoop : Bool
  splitBefore : Bool
  deriving DecidableEq, Repr

/-- The two slots of a lane. -/
structure LaneSlots where
  opened : Option Context
  closing : Option Context
  deriving DecidableEq, Repr

/-- A class entry (05, 5.6). -/
structure ClassEntry where
  code : Nat
  axMin : Nat
  axMax : Nat
  windows : List (Nat × Nat)
  gross : Option (Nat × Nat)
  firstMin : Option Nat
  reference : Option (Nat × Nat)
  deriving DecidableEq, Repr

/-- The Classifier (R103): active table and generation, last loaded generation, and the inline words
gathered for a shadow table in the making. -/
structure Classifier where
  active : List ClassEntry
  gen : Nat
  lastGen : Nat
  shadow : Option (List Word)
  deriving DecidableEq, Repr

/-- The Vehicle Assembler. `nextId` numbers axles (the model's own, log 14). -/
structure Assembler where
  lanes : Tab 4 LaneSlots
  serial : Nat
  splitDist : Nat
  vehicles : Nat
  axles : Nat
  nextId : Nat
  deriving DecidableEq, Repr

/-! ### Chapter 6: calibration and drift -/

/-- A drift table cell (06, 6.3). -/
structure Cell where
  kd : Nat
  count : Nat
  sum : Nat
  target : Option Nat
  updates : Nat
  lastTick : Nat
  limit : Bool
  deriving DecidableEq, Repr

/-- The Calibration Store and Drift Unit (06). -/
structure Calibration where
  factors : Tab 16 Nat
  gen : Nat
  cells : Tab 4 (Tab 8 Cell)
  window : Nat
  maxStep : Nat
  lower : Nat
  upper : Nat
  enables : Tab 4 Bool
  frozen : Bool
  lock : Bool
  rejected : Nat
  deriving DecidableEq, Repr

/-! ### Chapter 7: triggers -/

/-- Conditions of a VEHICLE factor; an absent condition is `none` (R130). -/
structure VehicleCond where
  lanes : Option (BitVec 4)
  classes : Option (Nat × Nat)
  grossMin : Nat
  heaviestMin : Nat
  grades : Option (Nat × Nat)
  flags : Option (BitVec 4)
  deriving DecidableEq, Repr

/-- The activation factors with their conditions (R130, R131). A direction or limit is the pair of
choices its two-bit code holds (10, 10.6). -/
inductive Factor where
  | none
  | vehicle (cond : VehicleCond)
  | loopOnset (lanes : BitVec 4)
  | timer
  | fieldEdge (line : Line) (rising falling : Bool)
  | temperature (row : Row) (theta : Int) (up down degraded : Bool)
  | driftLimit (lanes : Option (BitVec 4)) (lower upper : Bool)
  | backlog
  | recordLost (vehicle other : Bool)
  deriving DecidableEq, Repr

inductive PulseTiming where
  | fixed (delay : Nat)
  | distance (dOut : Nat)
  deriving DecidableEq, Repr

structure PulseAction where
  line : Line
  width : Nat
  timing : PulseTiming
  deriving DecidableEq, Repr

/-- The operations of a timer action; `other` is the code 0 the layout does not assign (log 13). -/
inductive TimerOp where
  | start
  | stop
  | restart
  | other
  deriving DecidableEq, Repr

structure TimerAction where
  target : SetId
  op : TimerOp
  deriving DecidableEq, Repr

/-- A capture action; `lane` is a fixed lane, or none for the vehicle's lane. -/
structure CaptureAction where
  lane : Option Lane
  pre : Nat
  maxFrames : Nat
  deriving DecidableEq, Repr

/-- A trigger set's definition (07, 7.2). -/
structure TriggerDef where
  once : Bool
  factor : Factor
  pulse : Option PulseAction
  timerAct : Option TimerAction
  captureAct : Option CaptureAction
  report : Bool
  enableMask : BitVec 8
  disableMask : BitVec 8
  activateMask : BitVec 8
  period : Nat
  repeats : Bool
  deriving DecidableEq, Repr

/-- An interval timer (R136, R137); `held` keeps the remaining time through POWER_FAIL. -/
inductive TimerState where
  | stopped
  | running (due : Nat)
  | held (left : Int)
  deriving DecidableEq, Repr

/-- The side of a temperature threshold (R132). -/
inductive Side where
  | unknown
  | low
  | high
  deriving DecidableEq, Repr

structure TriggerSet where
  enabled : Bool
  dfn : TriggerDef
  timer : TimerState
  side : Side
  degraded : Bool
  deriving DecidableEq, Repr

/-- A scheduled pulse (07, 7.6). -/
structure Pulse where
  start : Nat
  stop : Nat
  tset : SetId
  running : Bool
  deriving DecidableEq, Repr

/-- A field line: an input with the level last sampled, or an output with its schedule (07, 7.1). -/
inductive FieldLine where
  | input (sampled : Bool)
  | output (pulses : List Pulse)
  deriving DecidableEq, Repr

/-- What the VEHICLE event carries (R106). `rowB` is the first axle's row-B time, in 1/16 tick. -/
structure VehicleEvent where
  serial : Nat
  lane : Lane
  cls : Nat
  gross : Nat
  heaviest : Nat
  grade : Grade
  meanSpeed : Nat
  flags : BitVec 10
  rowB : Option Nat
  deriving DecidableEq, Repr

/-- The events of the Trigger Unit (R129). A row update carries the sets it gave an occurrence (R132). -/
inductive TrigEvent where
  | vehicle (v : VehicleEvent)
  | loopOnset (lane : Lane) (tick : Nat)
  | timer (tset : SetId)
  | fieldEdge (line : Line) (rising : Bool) (tick : Nat)
  | temperature (row : Row) (temp : RowTemp) (occ : BitVec 8)
  | driftLimit (lane : Lane) (band : Nat) (upper : Bool) (kd : Nat)
  | backlog (count : Nat)
  | recordLost (vehicle : Bool)
  | control
  deriving DecidableEq, Repr

/-- The Trigger Unit. `edgeTaken` says of each line that it has given an edge at the present tick, which stands
once the tick is over (R126, log 46). -/
structure TriggerUnit where
  sets : Tab 8 TriggerSet
  lines : Tab 4 FieldLine
  edgeTaken : Tab 4 Bool
  waiting : List TrigEvent
  dropped : Nat
  discarded : Nat
  deriving DecidableEq, Repr

/-! ### Chapter 8: exchange -/

/-- The kinds of record the queue distinguishes (08, 8.4): vehicle, other, and the trigger records
among the other kind. -/
inductive RecKind where
  | vehicle
  | other
  | trigger
  deriving DecidableEq, Repr

/-- A queued record: its serial counted without wrapping (R153), its kind and its words. -/
structure Rec where
  serial : Nat
  kind : RecKind
  words : List Word
  deriving DecidableEq, Repr

/-- What the Record Writer is doing with its page: the entry FILLING, header word `k`, nothing, word
`k` of the record at the head of the queue, the entry CLOSED. -/
inductive WritePhase where
  | takeEntry
  | header (k : Nat)
  | rest
  | record (k : Nat)
  | closeEntry
  deriving DecidableEq, Repr

/-- The FILLING result page (R155-R157). Flags are numbered from 0: FLUSHED, FULL, DAMAGED, RESTART,
POWER_FAIL, DRAIN. -/
structure ResultPage where
  page : Page
  taken : Nat
  header : List Word
  used : Nat
  count : Nat
  first : Option Nat
  flush : Option (Nat × Nat)
  closeWith : Option (BitVec 6)
  noted : BitVec 6
  phase : WritePhase
  deriving DecidableEq, Repr

/-- The Record Writer (08, 8.4, 8.5). `pinned` says that the writing of the record at the head has
begun or has failed (R154). -/
structure RecordWriter where
  queue : List Rec
  pinned : Bool
  created : Nat
  lostVehicle : Nat
  lostOther : Nat
  headerVehicle : Nat
  headerOther : Nat
  pages : Nat
  page : Option ResultPage
  deriving DecidableEq, Repr

/-- The states of a device page table entry (08, 8.3). -/
inductive PageState where
  | notMine
  | queuedResult
  | queuedTrace
  | queuedOrder
  | filling
  | taken
  deriving DecidableEq, Repr

/-- A directory entry (R148; 10, 10.3). -/
structure DirEntry where
  state : Nat
  role : Nat
  flags : BitVec 6
  used : Nat
  closure : Word
  first : Word
  count : Word
  deriving DecidableEq, Repr

/-- The order kinds (10, 10.6). -/
inductive OrderKind where
  | nop | setExchange | start | stop | halt | setClock | setQuiet | reportStatus
  | setSiteGeometry | setChannelMask | setDetection | capture | cancelCapture | setWeighing
  | setProbes | loadTemperatureCurve | selectBuiltInCurve | setTemperature
  | loadClassTable | selectBuiltInClassTable | setAssembly
  | setChannelFactors | setDrift | freezeDrift | resumeDrift | resetDrift | restoreDrift
  | reportCalibration | lockCalibration | setTrigger | setFieldLines | controlTriggers
  deriving DecidableEq, Repr

/-- The outcomes of an order (R159). -/
inductive OrderOutcome where
  | done | clamped | invalid | wrongState | locked | busy | notConfigured | unknownKind
  | malformed | abandoned
  deriving DecidableEq, Repr

/-- What the order reader is doing with its page. `ready` is an order in hand: its kind, length and
the parameter words read; `loading` reads inline data; `loaded` has all of it; `holding` is a STOP whose
drain runs; `outcome` writes one outcome word (`final` when it ends the page); `halted` follows a bus
error. -/
inductive ReadPhase where
  | firstHeader
  | refuse
  | takeEntry (header : Word)
  | header
  | params (kind : OrderKind) (len want : Nat) (got : List Word)
  | ready (kind : OrderKind) (len : Nat) (params : List Word)
  | loading (kind : OrderKind) (len : Nat) (params : List Word)
  | loaded (kind : OrderKind) (len : Nat) (params : List Word)
  | holding (len : Nat)
  | outcome (len : Nat) (o : OrderOutcome) (detail : Nat) (final : Bool)
  | answer
  | halted
  deriving DecidableEq, Repr

/-- The TAKEN order page (R158-R161). `flags` are those its answer will carry; `abandon` says that
the page is being abandoned. -/
structure OrderPage where
  page : Page
  entry : DirEntry
  off : Nat
  outcomes : Nat
  abandon : Bool
  flags : BitVec 6
  phase : ReadPhase
  deriving DecidableEq, Repr

/-- What the sweeper has at the arbiter, for a handover or for a sweep: an entry to read, or an entry to
write REFUSED (R151, R152). -/
inductive EntryWork where
  | readEntry (page : Page) (handover : Bool)
  | refuse (page : Page) (entry : DirEntry) (handover : Bool)
  deriving DecidableEq, Repr

/-- The four requesters, highest first (R162). -/
inductive Requester where
  | recordWriter
  | traceWriter
  | orderReader
  | sweeper
  deriving DecidableEq, Repr

/-- An access of the initiator port (R162): words read or words written at a byte address. -/
inductive Access where
  | read (addr words : Nat)
  | write (addr : Nat) (data : List Word)
  deriving DecidableEq, Repr

/-- The Exchange Unit. -/
structure Exchange where
  table : Tab 64 PageState
  resultList : List Page
  traceList : List Page
  orderList : List (Page × DirEntry)
  taken : Option OrderPage
  handovers : List Page
  work : Option EntryWork
  sweepAt : Option Nat
  sweepTimer : Option (Nat × Nat)
  resuming : Bool
  grant : Option Requester
  closures : Nat
  stray : Nat
  sweepMs : Nat
  flushMs : Nat
  deriving DecidableEq, Repr

/-- The register window's own state (08, 8.1). -/
structure Regs where
  enable : Bool
  attnEn : Bool
  xbase : Word
  handover : Word
  serial : Word
  busFault : Bool
  powerFail : Bool
  pageClosed : Bool
  orderAnswered : Bool
  noPage : Bool
  deriving DecidableEq, Repr

/-! ### Chapter 9: run control -/

/-- The power-fail sequence in progress (R177): records placed since it began, and whether its
closing of the result page has been asked for. -/
structure PowerSeq where
  placed : Nat
  closing : Bool
  deriving DecidableEq, Repr

/-- The Run Controller's own state beside the run state (09). Timers hold elapsed ticks; the settle
counter also holds the count that ends it (R175). -/
structure Control where
  quietEnable : Bool
  idleDelay : Nat
  settleCount : Nat
  quietTimer : Option Nat
  settle : Option (Nat × Nat)
  drain : Option Nat
  power : Option PowerSeq
  deriving DecidableEq, Repr

end Sys2Proof.Machine
end

