-- ==== Sys2Proof/Machine/Defaults.lean ====
section
/-!
DEFINITION. The hard-reset value of each block, the built-in curve (04, 4.4) and the built-in class
table (R103).
-/

namespace Sys2Proof.Machine

def Site.reset : Site :=
  { laneCount := 0, geom := Tab.fill 4 { d := 3000, dOA := 4500, lp := 2000 }, mask := Tab.fill 16 true }

/-- The pins' levels at power-on are the board's; the model starts them off (DESIGN CHOICE, log 21). -/
def Pins.reset : Pins := { lp := Tab.fill 4 false, field := Tab.fill 4 false, pfi := false }

def Link.reset : Link := { ref := none, silence := none, fault := false, gaps := 0 }

def DetPar.reset : DetPar := { onThr := 400, offThr := 200, onCount := 3, offCount := 4, maxLen := 16384 }

def Detector.reset : Detector :=
  { par := DetPar.reset, chans := Tab.fill 16 .off, hits := { a := [], b := [] }, aborted := 0, lost := 0 }

def History.reset : History := { frames := [], next := 0 }

def CaptureUnit.reset : CaptureUnit := { st := .idle, number := 0 }

def WeighPar.reset : WeighPar :=
  { vmin := 1389, vmax := 55556, bandLow := 8333, bandHigh := 36111, tolerance := 15, window := 64 }

def AxleAssembler.reset : AxleAssembler := { rowA := [], rowB := [], par := WeighPar.reset }

/-- The built-in compensation curve (04, 4.4). -/
def builtInCurve : Curve :=
  { points := [(-300, 17039), (0, 16630), (200, 16384), (400, 16056), (700, 15647)], loaded := false }

def ProbeSum.empty : ProbeSum := { good := 0, sumF := 0, range := none }

def RowSum.empty : RowSum := { held := 0, stale := 0 }

/-- A running summary with nothing gathered (R81, R82). -/
def Summary.empty (start next : Nat) (short : Bool) : Summary :=
  { start := start, next := next, short := short, probes := Tab.fill 6 ProbeSum.empty,
    rows := { a := RowSum.empty, b := RowSum.empty } }

/-- The Temperature Unit at hard reset (R84). The running summary begins at the change to READY; till then its start and
boundary are 0 and it is not marked SHORT (DESIGN CHOICE, log 21). -/
def TempUnit.reset : TempUnit :=
  { probes := Tab.fill 6 .absent
    assign := { a := { primary := none, secondary := none }, b := { primary := none, secondary := none } }
    rows := { a := .none, b := .none }
    curve := builtInCurve
    shadow := none
    bounds := [-100, 0, 100, 200, 300, 400, 500]
    holdLimit := 1800
    stepLimit := 10
    interval := 900
    summary := Summary.empty 0 0 false
    round := none
    line := none
    secondUsed := false }

/-- The built-in class table, generation 0 (R103). -/
def builtInClasses : List ClassEntry :=
  [ { code := 1, axMin := 2, axMax := 2, windows := [(1800, 3400)], gross := some (0, 3500), firstMin := none, reference := none },
    { code := 2, axMin := 3, axMax := 4, windows := [(1800, 3400)], gross := some (0, 7000), firstMin := none, reference := none },
    { code := 3, axMin := 2, axMax := 2, windows := [(3000, 7000)], gross := none, firstMin := none, reference := none },
    { code := 4, axMin := 3, axMax := 3, windows := [(3000, 7000), (1000, 1800)], gross := none, firstMin := none, reference := none },
    { code := 5, axMin := 4, axMax := 4, windows := [(2800, 4200), (0, 65535), (0, 65535)], gross := none, firstMin := none,
      reference := none },
    { code := 6, axMin := 5, axMax := 5, windows := [(3000, 4200), (1100, 1500), (4500, 9000), (1100, 1500)], gross := none,
      firstMin := none, reference := some (1, 5800) },
    { code := 7, axMin := 6, axMax := 12, windows := [], gross := none, firstMin := none, reference := none },
    { code := 8, axMin := 3, axMax := 12, windows := [], gross := some (12000, 4194240), firstMin := none, reference := none } ]

def Classifier.reset : Classifier := { active := builtInClasses, gen := 0, lastGen := 0, shadow := none }

def Assembler.reset : Assembler :=
  { lanes := Tab.fill 4 { opened := none, closing := none }, serial := 0, splitDist := 13000, vehicles := 0, axles := 0, nextId := 0 }

def Cell.reset : Cell :=
  { kd := 16384, count := 0, sum := 0, target := none, updates := 0, lastTick := 0, limit := false }

def Calibration.reset : Calibration :=
  { factors := Tab.fill 16 46000, gen := 0, cells := Tab.fill 4 (Tab.fill 8 Cell.reset), window := 64, maxStep := 164,
    lower := 13107, upper := 19661, enables := Tab.fill 4 true, frozen := false, lock := false, rejected := 0 }

/-- A cleared definition (R145). -/
def TriggerDef.reset : TriggerDef :=
  { once := false, factor := .none, pulse := none, timerAct := none, captureAct := none, report := false, enableMask := 0,
    disableMask := 0, activateMask := 0, period := 82, repeats := false }

def TriggerSet.reset : TriggerSet :=
  { enabled := false, dfn := TriggerDef.reset, timer := .stopped, side := .unknown, degraded := false }

/-- After hard reset all four lines are inputs (R127); the level last sampled is taken up when the
first READY begins (R126), and reads low until then (DESIGN CHOICE, log 21). -/
def TriggerUnit.reset : TriggerUnit :=
  { sets := Tab.fill 8 TriggerSet.reset, lines := Tab.fill 4 (.input false), edgeTaken := Tab.fill 4 false, waiting := [],
    dropped := 0, discarded := 0 }

def RecordWriter.reset : RecordWriter :=
  { queue := [], pinned := false, created := 0, lostVehicle := 0, lostOther := 0, headerVehicle := 0, headerOther := 0,
    pages := 0, page := none }

def Exchange.reset : Exchange :=
  { table := Tab.fill 64 .notMine, resultList := [], traceList := [], orderList := [], taken := none, handovers := [],
    work := none, sweepAt := none, sweepTimer := none, resuming := false, grant := none, closures := 0, stray := 0,
    sweepMs := 250, flushMs := 1000 }

def Regs.reset : Regs :=
  { enable := false, attnEn := false, xbase := 0, handover := 0, serial := 0, busFault := false, powerFail := false,
    pageClosed := false, orderAnswered := false, noPage := false }

def Control.reset : Control :=
  { quietEnable := false, idleDelay := 60, settleCount := 256, quietTimer := none, settle := none, drain := none, power := none }

end Sys2Proof.Machine
end

