-- ==== Sys2Proof/Machine/State.lean ====
section
/-!
DEFINITION. The state of the machine, its reset value, and the reasons a step can stop.
-/

namespace Sys2Proof.Machine

/-- Everything the spec gives the part, block by block (INVENTORY.md, State). `mem` is the board
memory of the exchange region as seen on the bus (R148, log 3, log 4). -/
structure State where
  clock : Nat
  run : RunState
  regs : Regs
  pins : Pins
  site : Site
  loops : Tab 4 LoopState
  link : Link
  det : Detector
  history : History
  cap : CaptureUnit
  axle : AxleAssembler
  temp : TempUnit
  veh : Assembler
  cls : Classifier
  cal : Calibration
  trig : TriggerUnit
  rw : RecordWriter
  ex : Exchange
  ctrl : Control
  mem : List Host.Cell
  pending : List Instr
  deriving DecidableEq, Repr

/-- The machine right after hard reset (R5, R9, R15, R29, R33, R35, R38, R64, R84, R109, R125, R145,
R147, R166, R167, R176, R179), with no command waiting and nothing seen of board memory. -/
def State.reset : State :=
  { clock := 0
    run := .disabled
    regs := Regs.reset
    pins := Pins.reset
    site := Site.reset
    loops := Tab.fill 4 .vacant
    link := Link.reset
    det := Detector.reset
    history := History.reset
    cap := CaptureUnit.reset
    axle := AxleAssembler.reset
    temp := TempUnit.reset
    veh := Assembler.reset
    cls := Classifier.reset
    cal := Calibration.reset
    trig := TriggerUnit.reset
    rw := RecordWriter.reset
    ex := Exchange.reset
    ctrl := Control.reset
    mem := []
    pending := [] }

/-- No command of this block stops the machine: the spec gives every command an effect in every state,
and a bus error is a state of the exchange (R163), not a stop. So there is no reason to fault, which
is safe: nothing the part goes on after is cut short. -/
inductive Fault where
  deriving DecidableEq, Repr

/-- Why a command would be refused. -/
inductive Refusal where
  /-- Raised by `exec` alone, for a command that has no meaning yet; safe, since nothing can then be
  proved of the state after it. No arm of `exec` raises it. -/
  | notModelled (mnemonic : String)
  deriving DecidableEq, Repr

/-- What a step or a command answers. -/
abbrev Answered := Host.Outcome State Fault Refusal

end Sys2Proof.Machine
end

