-- ==== Sys2Proof/Machine/Clock.lean ====
section
/-!
DEFINITION. One tick of the site clock (R179): what passes with time, whatever is commanded.
-/

namespace Sys2Proof.Machine

/-- An elapsed-time counter that runs counts one more tick. -/
def countTick (t : Option Nat) : Option Nat := t.map (· + 1)

/-- A loop's occupancy timer runs while it is OCCUPIED (R7). -/
def LoopState.tick : LoopState → LoopState
  | .occupied onset timer => .occupied onset (timer + 1)
  | l => l

/-- The flush timer of the filling page (R156). -/
def ResultPage.tick (p : ResultPage) : ResultPage := { p with flush := p.flush.map fun f => (f.1 + 1, f.2) }

/-- The probe answer timer counts down (R10). -/
def Polled.tick (p : Polled) : Polled := { p with left := p.left - 1 }

/-- One tick: the site clock counts and wraps at 2⁴⁸, and the elapsed-time counters of R179 count
(occupancy, silence, probe answer, sweep, flush, drain, quiet idle, settle). A second boundary at the new
tick is open to a poll round unless a round is in progress as it is reached (R65), and so is one that SET CLOCK
loads within the tick: a round in progress as any tick begins, on a boundary or not, keeps one from starting till
the tick is over, be it closed meanwhile (DESIGN CHOICE, log 12). The edges of the tick that is over stand (R126,
log 46). -/
def State.tick (s : State) : State :=
  { s with
    clock := tickAdd s.clock 1
    loops := s.loops.map LoopState.tick
    link.silence := countTick s.link.silence
    temp.line := s.temp.line.map Polled.tick
    temp.secondUsed := s.temp.round.isSome
    trig.edgeTaken := Tab.fill 4 false
    rw.page := s.rw.page.map ResultPage.tick
    ex.sweepTimer := s.ex.sweepTimer.map fun t => (t.1 + 1, t.2)
    ctrl.drain := countTick s.ctrl.drain
    ctrl.quietTimer := countTick s.ctrl.quietTimer
    ctrl.settle := s.ctrl.settle.map fun t => (t.1 + 1, t.2) }

end Sys2Proof.Machine
end

