-- ==== Sys2Proof/Config.lean ====
section
/-!
DEFINITION. What the manual leaves to the part: values it names and does not give.
-/

namespace Sys2Proof

/-- The revision in bits 24-31 of IDENT (10_record_and_order_layouts.md 10.2). UNVERIFIED: the manual
names the field and gives no value, so nothing can be proved about it (log 20). -/
opaque Config.revision : BitVec 8

end Sys2Proof
end

