-- ==== Sys2Proof/Machine/Flags.lean ====
section
/-!
DEFINITION. Axle flags and grades (R58-R61), vehicle flags (R101), directory flags (10, 10.3), and the code
values of 10_record_and_order_layouts.md 10.7.
-/

namespace Sys2Proof.Machine

/-! ### Axle flags, as numbered in the axle entry (10, 10.4) -/

def flagClipped : AxleFlags := 0x00001
def flagGap : AxleFlags := 0x00002
def flagLong : AxleFlags := 0x00004
def flagSettling : AxleFlags := 0x00008
def flagOneWheel : AxleFlags := 0x00010
def flagStraddle : AxleFlags := 0x00020
def flagLaneChange : AxleFlags := 0x00040
def flagSingleRow : AxleFlags := 0x00080
def flagBorrowedSpeed : AxleFlags := 0x00100
def flagOutsideSpeedBand : AxleFlags := 0x00200
def flagLoadSaturated : AxleFlags := 0x00400
def flagRowDisagree : AxleFlags := 0x00800
def flagTempSecondary : AxleFlags := 0x01000
def flagTempHeld : AxleFlags := 0x02000
def flagTempStale : AxleFlags := 0x04000
def flagTempNone : AxleFlags := 0x08000
def flagCurveClamp : AxleFlags := 0x10000
def flagChannelFault : AxleFlags := 0x20000

/-- A flag when a condition holds. -/
def flagWhen {w : Nat} (c : Bool) (f : BitVec w) : BitVec w := if c then f else 0

/-- Whether any flag of `f` is set. -/
def hasFlag {w : Nat} (flags f : BitVec w) : Bool := (flags &&& f) != 0

/-- The flags a row part brings to its axle (R58). -/
def RowAxle.flags (p : RowAxle) : AxleFlags :=
  flagWhen p.clipped flagClipped ||| flagWhen p.gap flagGap ||| flagWhen p.long flagLong |||
    flagWhen p.settling flagSettling ||| flagWhen p.oneWheel flagOneWheel ||| flagWhen p.straddle flagStraddle

/-- The temperature flag of a row temperature's state (R59). -/
def RowTemp.flag : RowTemp → AxleFlags
  | .live _ => 0
  | .secondary _ => flagTempSecondary
  | .held _ _ => flagTempHeld
  | .stale _ _ => flagTempStale
  | .none => flagTempNone

/-- The flags that make an axle POOR (R61). -/
def poorFlags : AxleFlags :=
  flagClipped ||| flagLong ||| flagGap ||| flagSettling ||| flagOneWheel ||| flagLoadSaturated ||| flagChannelFault |||
    flagTempStale ||| flagTempNone

/-- The flags that make an axle FAIR (R61). -/
def fairFlags : AxleFlags :=
  flagRowDisagree ||| flagSingleRow ||| flagStraddle ||| flagLaneChange ||| flagBorrowedSpeed ||| flagOutsideSpeedBand |||
    flagTempSecondary ||| flagTempHeld ||| flagCurveClamp

/-- A row part whose measure is spoilt: CLIPPED or LONG (R61). -/
def RowAxle.spoilt (p : RowAxle) : Bool := p.clipped || p.long

/-- Every row part present is spoilt (R61); `none` is an absent part. -/
def partsSpoilt (a b : Option RowAxle) : Bool :=
  match a, b with
  | some p, some q => p.spoilt && q.spoilt
  | some p, none => p.spoilt
  | none, some q => q.spoilt
  | none, none => true

/-- The grade an axle's speed, parts and flags call for (R61). -/
def axleGrade (hasSpeed : Bool) (a b : Option RowAxle) (flags : AxleFlags) : Grade :=
  if !hasSpeed || partsSpoilt a b then .unweighed
  else if hasFlag flags poorFlags then .poor
  else if hasFlag flags fairFlags then .fair
  else .good

/-- Grade codes (10, 10.7), which rise from best to worst. -/
def Grade.code : Grade → Nat
  | .good => 0
  | .fair => 1
  | .poor => 2
  | .unweighed => 3

/-- The worse of two grades (R61, R101). -/
def Grade.worse (g h : Grade) : Grade := if g.code < h.code then h else g

/-! ### Vehicle flags, numbered from TRUNCATED 0 (bits 16-25 of word 9, 10.4) -/

def vehTruncated : BitVec 10 := 0x001
def vehSplitAfter : BitVec 10 := 0x002
def vehSplitBefore : BitVec 10 := 0x004
def vehNoLoop : BitVec 10 := 0x008
def vehStuckLoop : BitVec 10 := 0x010
def vehAxleOverflow : BitVec 10 := 0x020
def vehStraddle : BitVec 10 := 0x040
def vehLaneChange : BitVec 10 := 0x080
def vehLocked : BitVec 10 := 0x100
def vehReduced : BitVec 10 := 0x200

/-! ### Directory flags, numbered from FLUSHED 0 (bits 8-13 of word 0, 10.3) -/

def dirFlushed : BitVec 6 := 0x01
def dirFull : BitVec 6 := 0x02
def dirDamaged : BitVec 6 := 0x04
def dirRestart : BitVec 6 := 0x08
def dirPowerFail : BitVec 6 := 0x10
def dirDrain : BitVec 6 := 0x20

/-! ### Code values (10, 10.7) -/

def RunState.code : RunState → Nat
  | .disabled => 0
  | .ready => 1
  | .running => 2
  | .quiet => 3
  | .waking => 4
  | .draining => 5
  | .powerFail => 6

def ChanState.code : ChanState → Nat
  | .off => 0
  | .learning .. => 1
  | .idle .. => 2
  | .candidate .. => 3
  | .hit .. => 4
  | .tail .. => 5
  | .long .. => 6
  | .faulted .. => 7

def ProbeState.code : ProbeState → Nat
  | .absent => 0
  | .starting .. => 1
  | .good .. => 2
  | .failed .. => 3

def RowTemp.code : RowTemp → Nat
  | .none => 0
  | .live .. => 1
  | .secondary .. => 2
  | .held .. => 3
  | .stale .. => 4

def OrderOutcome.code : OrderOutcome → Nat
  | .done => 1
  | .clamped => 2
  | .invalid => 3
  | .wrongState => 4
  | .locked => 5
  | .busy => 6
  | .notConfigured => 7
  | .unknownKind => 8
  | .malformed => 9
  | .abandoned => 10

def EndReason.code : EndReason → Nat
  | .none => 0
  | .close => 1
  | .limit => 2
  | .truncated => 3
  | .cancelled => 4
  | .halted => 5
  | .restart => 6
  | .powerFail => 7
  | .busFault => 8

/-- The factor code of the event that started a cascade (10, 10.7; R142). -/
def TrigEvent.code : TrigEvent → Nat
  | .vehicle _ => 1
  | .loopOnset .. => 2
  | .timer _ => 3
  | .fieldEdge .. => 4
  | .temperature .. => 5
  | .driftLimit .. => 6
  | .backlog _ => 7
  | .recordLost _ => 8
  | .control => 9

/-- The directory flag that goes with an end reason of a trace page (R38). -/
def EndReason.dirFlag : EndReason → BitVec 6
  | .restart => dirRestart
  | .powerFail => dirPowerFail
  | _ => 0

/-- Hit activity: CANDIDATE, HIT, TAIL or LONG (02, 2.1). -/
def ChanState.active : ChanState → Bool
  | .candidate .. => true
  | .hit .. => true
  | .tail .. => true
  | .long .. => true
  | _ => false

/-- FAULTED or OFF, the states R60 tests for. -/
def ChanState.faultedOrOff : ChanState → Bool
  | .off => true
  | .faulted _ => true
  | _ => false

end Sys2Proof.Machine
end

