-- ==== Sys2Proof/Machine/Ops.lean ====
section
/-!
DEFINITION. Shared operations: indexing by lane, row and channel, the run-state predicates, the derived
outputs and registers, and handing an event to the Trigger Unit.
-/

namespace Sys2Proof.Machine

/-! ### Lanes, rows and channels (R1, R2) -/

/-- The lane of a channel. -/
def chanLane (c : Chan) : Lane := ⟨c.val / 4, by omega⟩

/-- The row of a channel. -/
def chanRow (c : Chan) : Row := if c.val / 2 % 2 = 0 then .a else .b

/-- Whether a channel is a far half. -/
def chanFar (c : Chan) : Bool := c.val % 2 = 1

/-- The other half of a channel's own lane and row. -/
def otherHalf (c : Chan) : Chan := ⟨if c.val % 2 = 0 then c.val + 1 else c.val - 1, by split <;> omega⟩

/-- The boundary neighbour of a channel for a lane count (R2): the far half of lane n and the near half
of lane n + 1, in the same row. -/
def boundaryNeighbour (laneCount : Nat) (c : Chan) : Option Chan :=
  if c.val % 2 = 1 then
    (if h : c.val / 4 + 1 < laneCount ∧ c.val + 3 < 16 then some ⟨c.val + 3, h.2⟩ else none)
  else
    (if c.val / 4 < laneCount ∧ 1 ≤ c.val / 4 then some ⟨c.val - 3, by omega⟩ else none)

/-- A channel is enabled when its lane is not above the lane count and its mask flag is ON (R1). -/
def Site.enabled (t : Site) (c : Chan) : Bool := decide ((chanLane c).val < t.laneCount) && t.mask.get c

def PerRow.get {α : Type} (p : PerRow α) : Row → α
  | .a => p.a
  | .b => p.b

def PerRow.set {α : Type} (p : PerRow α) (r : Row) (v : α) : PerRow α :=
  match r with
  | .a => { p with a := v }
  | .b => { p with b := v }

def LaneSlots.get (l : LaneSlots) : Slot → Option Context
  | .openSlot => l.opened
  | .closingSlot => l.closing

def LaneSlots.set (l : LaneSlots) (k : Slot) (c : Option Context) : LaneSlots :=
  match k with
  | .openSlot => { l with opened := c }
  | .closingSlot => { l with closing := c }

/-! ### Run states (09) -/

/-- READY, RUNNING, QUIET, WAKING, DRAINING: the states in which orders are executed, the exchange runs,
loops are tracked, the receiver listens and the Trigger and Temperature Units run. -/
def RunState.works : RunState → Bool
  | .disabled => false
  | .powerFail => false
  | _ => true

/-- The measuring states (02). -/
def RunState.measures : RunState → Bool
  | .running => true
  | .quiet => true
  | .waking => true
  | .draining => true
  | _ => false

/-- The states in which contexts may open (09). -/
def RunState.opens : RunState → Bool
  | .running => true
  | .quiet => true
  | .waking => true
  | _ => false

/-- A loop is tracked for lanes up to the lane count in the working states (R6). -/
def State.tracked (s : State) (lane : Lane) : Bool := decide (lane.val < s.site.laneCount) && s.run.works

/-- No power-fail sequence is in progress. -/
def State.powerIdle (s : State) : Bool := s.ctrl.power.isNone

/-- Contexts may open: in RUNNING, QUIET and WAKING, and not once a power-fail sequence has begun
(R85, R177 step 2). -/
def State.mayOpen (s : State) : Bool := s.run.opens && s.powerIdle

/-- The exchange may take up new work: a working state, BUS_FAULT clear, no resumption and no
power-fail sequence in progress (R151, R152, R155, R158, R164, R177). -/
def State.exchangeFree (s : State) : Bool :=
  s.run.works && (!s.regs.busFault && (!s.ex.resuming && s.powerIdle))

/-! ### Outputs and registers that are functions of the state -/

/-- RATE asks for full rate in RUNNING, WAKING and DRAINING (R16). -/
def State.rateFull (s : State) : Bool :=
  match s.run with
  | .running => true
  | .waking => true
  | .draining => true
  | _ => false

/-- ATN (R147). -/
def State.atn (s : State) : Bool :=
  s.regs.attnEn &&
    (s.regs.pageClosed || s.regs.orderAnswered || s.regs.noPage || s.regs.busFault || s.regs.powerFail)

/-- The CHANNEL_FAULT summary (R29). -/
def State.channelFault (s : State) : Bool :=
  s.det.chans.items.any fun c => match c with
    | .faulted _ => true
    | _ => false

/-- The PROBE_FAULT summary (R71). -/
def State.probeFault (s : State) : Bool :=
  s.temp.probes.items.any fun p => match p with
    | .failed _ => true
    | _ => false

/-- Whether an output line is driven active: a pulse runs on it (R140). An input line is not driven. -/
def State.lineActive (s : State) (l : Line) : Bool :=
  match s.trig.lines.get l with
  | .input _ => false
  | .output ps => ps.any (·.running)

/-- What the register window answers at a byte offset (08, 8.1; 10, 10.2); it answers in every run
state. Offsets without a register read 0 (DESIGN CHOICE, log 21). -/
def State.readRegister (s : State) (offset : Nat) : Word :=
  match offset with
  | 0x00 => toWord (0x3B7 + put 12 0x824 + put 24 Config.revision.toNat)
  | 0x04 => toWord (b2n s.regs.enable + put 2 (b2n s.regs.attnEn))
  | 0x08 => s.regs.xbase
  | 0x0C => s.regs.handover
  | 0x10 => toWord (s.run.code + put 4 (b2n s.cal.lock) + put 5 (b2n s.link.fault) + put 6 (b2n s.channelFault)
      + put 7 (b2n s.probeFault) + put 8 (b2n s.regs.busFault) + put 9 (b2n s.regs.powerFail)
      + put 10 (b2n s.regs.pageClosed) + put 11 (b2n s.regs.orderAnswered) + put 12 (b2n s.regs.noPage))
  | 0x14 => s.regs.serial
  | _ => 0

/-! ### The Trigger Unit's intake (R129) -/

/-- An event handed to the Trigger Unit waits for its cascade; in DISABLED and POWER_FAIL it is not
taken (R129). -/
def handEvent (e : TrigEvent) (s : State) : State :=
  if s.run.works then { s with trig.waiting := s.trig.waiting ++ [e] } else s

/-- The second count (04, 4.1). -/
def State.second (s : State) : Nat := s.clock / 8192

end Sys2Proof.Machine
end

