-- ==== Sys2Proof/Machine/CaptureOps.lean ====
section
/-!
DEFINITION. The capture unit's own events (R34-R38): arming, the opening and the close of its vehicle, and
what stops or disarms it. Its trace writer is in TraceWriter.lean.
-/

namespace Sys2Proof.Machine

/-- An arm request: IDLE becomes ARMED; ARMED and CAPTURING refuse (R34). -/
def armCapture (req : ArmRequest) (s : State) : State :=
  match s.cap.st with
  | .idle => { s with cap.st := .armed req }
  | _ => s

/-- Whether the capture unit would refuse an arm request (R34). -/
def State.captureBusy (s : State) : Bool :=
  match s.cap.st with
  | .idle => false
  | _ => true

/-- A capture is in progress. -/
def State.capturing (s : State) : Bool :=
  match s.cap.st with
  | .capturing _ => true
  | _ => false

/-- A trace page just taken, its entry still to be written FILLING (R35, R149). -/
def TracePage.taken (p : Page) (seq : Nat) : TracePage :=
  { page := p, seq := seq, frames := 0, pre := 0, ticks := none, discontinuous := false, overRange := 0, reason := .none,
    phase := .takeEntry }

/-- The capture of the vehicle `serial` in lane `lane` from request `req`, filling page `pg`: the copy
position stands at the p-th newest frame held, or at the oldest (R35). -/
def CaptureRun.start (req : ArmRequest) (serial number : Nat) (h : History) (pg : TracePage) : CaptureRun :=
  { lane := req.lane, serial := serial, number := number, pos := h.next - min req.pre h.frames.length, opened := h.next,
    written := 0, maxFrames := req.maxFrames, stop := none, faultEnd := none, broken := false, noted := 0, page := some pg }

/-- A context opened in a lane on a loop onset starts the capture armed for that lane (R35). With no
trace page lent, or during a bus fault, the capture ends at once and its number stays consumed. -/
def captureOpening (lane : Lane) (serial : Nat) (s : State) : State :=
  match s.cap.st with
  | .armed req =>
    if req.lane = lane then
      match s.ex.traceList with
      | [] => { s with cap.st := .idle, cap.number := nextGen s.cap.number }
      | p :: rest =>
        if s.regs.busFault then { s with cap.st := .idle, cap.number := nextGen s.cap.number }
        else
          { s with
            cap.st := .capturing (CaptureRun.start req serial (nextGen s.cap.number) s.history (TracePage.taken p 0))
            cap.number := nextGen s.cap.number
            ex.traceList := rest
            ex.table := s.ex.table.set p .filling }
    else s
  | _ => s

/-- The capture unit is told of the close of a vehicle's context: the end point of the capture bound
to it is the newest frame of the history (R37); during a bus fault the reason is only noted (R38), and so
after BUS_FAULT is cleared in a capture the resumption ends (DESIGN CHOICE, log 29). -/
def captureClosed (serial : Nat) (s : State) : State :=
  match s.cap.st with
  | .capturing c =>
    if c.serial = serial then
      if s.regs.busFault || c.broken then { s with cap.st := .capturing { c with faultEnd := some (c.faultEnd.getD .close) } }
      else if c.stop.isNone then { s with cap.st := .capturing { c with stop := some (s.history.next, .close) } }
      else s
    else s
  | _ => s

/-- The end may still be replaced: no end has been taken, or only the close of the vehicle (R37). -/
def CaptureRun.endOpen (c : CaptureRun) : Bool :=
  match c.stop with
  | none => true
  | some (_, r) => r = .close

/-- The trace page of a stopped capture: a frame being copied is given up, a header being written is
begun again with the new reason, and an entry FILLING being written completes first. -/
def TracePage.stopped (pg : TracePage) (r : EndReason) : TracePage :=
  match pg.phase with
  | .takeEntry => pg
  | .rest => pg
  | .frame _ _ => { pg with phase := .rest }
  | .header _ => { pg with phase := .header 0, reason := r }
  | .closeEntry => { pg with phase := .header 0, reason := r }

/-- Copying stops with an end reason (R37 CANCELLED; R38 HALTED, RESTART, POWER_FAIL): an ARMED unit
returns to IDLE; a CAPTURING one closes its page with the reason, or notes it during a bus fault. A capture
the resumption ends notes it after BUS_FAULT is cleared too; once its header is being written the reason stands and only
the directory flag is added (DESIGN CHOICES, log 29), beside one noted before (DESIGN CHOICE, log 54). -/
def stopCapture (r : EndReason) (s : State) : State :=
  match s.cap.st with
  | .idle => s
  | .armed _ => { s with cap.st := .idle }
  | .capturing c =>
    if s.regs.busFault || (c.broken || c.page.isNone) then
      { s with cap.st := .capturing { c with faultEnd := some (c.faultEnd.getD r), noted := c.noted ||| r.dirFlag } }
    else if c.endOpen then
      { s with cap.st := .capturing { c with stop := some (c.pos, r), page := c.page.map (TracePage.stopped · r) } }
    else s

end Sys2Proof.Machine
end

