-- ==== Sys2Proof/Machine/Records.lean ====
section
/-!
DEFINITION. The words of the six records (10_record_and_order_layouts.md 10.4) less their stamps, and of the
directory entry (10.3). Unassigned bits are 0 (R181).
-/

namespace Sys2Proof.Machine

/-- Fields of equal width packed from bit 0 up. -/
def packFields (width : Nat) : List Nat → Nat
  | [] => 0
  | v :: rest => v + put width (packFields width rest)

/-- The signed value of a row temperature, −32,768 in NONE (R181). -/
def RowTemp.valueOr (t : RowTemp) : Int :=
  match t with
  | .none => -32768
  | .live v => v
  | .secondary v => v
  | .held v _ => v
  | .stale v _ => v

/-- The value of a row temperature, absent in NONE. -/
def RowTemp.value? : RowTemp → Option Int
  | .none => Option.none
  | .live v => some v
  | .secondary v => some v
  | .held v _ => some v
  | .stale v _ => some v

/-- The speed of an axle, own or borrowed; 0 if unweighed (R62). -/
def Axle.speed? (a : Axle) : Option Nat :=
  match a.own with
  | some v => some v
  | none => a.borrowed

/-- The grade code of an axle; GOOD's code stands while it has none (a WAITING axle). -/
def Axle.gradeCode (a : Axle) : Nat := (a.grade.getD .good).code

/-- An axle entry of the vehicle record: the axle and its spacing. -/
def axleEntry (a : Axle) (spacing : Nat) : List Nat :=
  [a.loads.load + put 24 a.gradeCode, spacing + put 16 (a.speed?.getD 0), a.flags.toNat]

/-- A wheel detail of the vehicle record (R56). -/
def wheelDetail (a : Axle) : List Nat :=
  [a.loads.near + put 16 a.loads.far, a.loads.totalA, a.loads.totalB]

/-- The values of a closed vehicle (R98-R102, R107). `stored` are the stored axles with their spacings. -/
structure ClosedVehicle where
  serial : Nat
  lane : Lane
  onset : Option Nat
  closeTick : Nat
  total : Nat
  stored : List (Axle × Nat)
  cls : Nat
  gross : Nat
  heaviest : Nat
  length : Nat
  meanSpeed : Nat
  grade : Grade
  flags : BitVec 10
  rowA : RowTemp
  rowB : RowTemp
  deriving DecidableEq, Repr

/-- The vehicle record (10.4; R107): 12 header words, 3 for each stored axle and, unless reduced, 3
wheel-detail words for each. -/
def vehicleWords (v : ClosedVehicle) (calGen clsGen : Nat) (screened : BitVec 8) (reduced : Bool) : List Nat :=
  let onset := v.onset.getD 0
  let flags := v.flags ||| flagWhen reduced vehReduced
  [ 1 + put 3 v.grade.code + put 5 (v.lane.val + 1) + put 8 v.stored.length,
    v.serial,
    tickLow onset,
    tickLow v.closeTick,
    v.total,
    v.cls + put 16 calGen,
    clsGen + put 16 screened.toNat + put 24 v.rowA.code + put 28 v.rowB.code,
    v.gross,
    v.length,
    v.meanSpeed + put 16 flags.toNat,
    low16 v.rowA.valueOr + put 16 (low16 v.rowB.valueOr),
    tickHigh onset + put 16 (tickHigh v.closeTick) ]
  ++ v.stored.flatMap (fun p => axleEntry p.1 p.2)
  ++ (if reduced then [] else v.stored.flatMap (fun p => wheelDetail p.1))

/-- A count of 32 bits in a 16-bit field, saturating (R181). -/
def sat16 (n : Nat) : Nat := min n 65535

/-- A probe's three words of the temperature record (R81): the mean is the sum of F over 16 times the
good seconds, less 400. -/
def probeWords (p : ProbeState) (m : ProbeSum) : List Nat :=
  match m.range with
  | some (lo, hi) =>
    [p.code + put 16 (sat16 m.good), low16 lo + put 16 (low16 hi),
      low16 ((roundDiv m.sumF (16 * m.good) : Int) - 400)]
  | none => [p.code + put 16 (sat16 m.good), low16 (-32768) + put 16 (low16 (-32768)), low16 (-32768)]

/-- A row's two words of the temperature record. -/
def rowWords (t : RowTemp) (m : RowSum) : List Nat :=
  [t.code + put 16 (low16 t.valueOr), sat16 m.held + put 16 (sat16 m.stale)]

/-- The temperature record (10.4; R81), 26 words. -/
def temperatureWords (t : TempUnit) (stopSecond : Nat) (short : Bool) : List Nat :=
  [2 + put 3 (b2n short) + put 4 (b2n t.curve.loaded), tickLow t.summary.start, tickLow stopSecond, t.interval]
  ++ ((t.probes.zipWith probeWords t.summary.probes).items.flatten)
  ++ rowWords t.rows.a t.summary.rows.a ++ rowWords t.rows.b t.summary.rows.b

/-- A calibration record (10.4; R122), 8 words: kind code, limit, cause, lane and band, and words 3-6. -/
def calibrationWords (s : State) (kind limit cause laneNumber band : Nat) (w3 w4 w5 w6 : Nat) : List Nat :=
  [ 3 + put 3 (b2n s.cal.lock) + put 4 kind + put 8 limit + put 9 cause,
    tickLow s.clock,
    s.cal.gen + put 16 laneNumber + put 20 band,
    w3, w4, w5, w6,
    tickHigh s.clock ]

/-- The two snapshot words of a drift cell (R123). -/
def cellWords (c : Cell) : List Nat := [c.kd + put 15 (b2n c.limit) + put 16 c.count, c.sum]

/-- The calibration snapshot (10.4; R123), 84 words. -/
def snapshotWords (s : State) : List Nat :=
  [ 4 + put 3 (b2n s.cal.lock) + put 4 (b2n s.cal.frozen) + put 5 (packFields 1 (s.cal.enables.items.map b2n))
      + put 9 s.cal.maxStep,
    tickLow s.clock,
    s.cal.gen + put 16 s.cal.window,
    (s.cal.lower - 8192) + put 16 (s.cal.upper - 16384) ]
  ++ s.cal.cells.items.flatMap (fun l => l.items.flatMap cellWords)
  ++ s.cal.factors.items

/-- A trigger record (10.4; R142), 5 words. -/
def triggerWords (tset : SetId) (factor : Nat) (activated : Bool) (serial start outcome tick : Nat) : List Nat :=
  [5 + put 3 tset.val + put 8 factor + put 12 (b2n activated), serial, start, outcome, tickLow tick]

/-- The status record (10.4; R180), 16 words. -/
def statusWords (s : State) : List Nat :=
  let ch := s.det.chans.items.map ChanState.code
  [ 6 + put 3 s.run.code + put 6 (tickHigh s.clock),
    s.veh.vehicles, s.veh.axles, s.det.aborted, s.det.lost, s.rw.lostVehicle, s.rw.lostOther, s.ex.stray, s.link.gaps,
    s.trig.dropped, s.trig.discarded, s.cal.rejected,
    packFields 3 (ch.take 10) + put 30 (b2n s.cal.lock) + put 31 (b2n s.cal.frozen),
    packFields 3 (ch.drop 10) + put 18 (packFields 2 (s.temp.probes.items.map ProbeState.code)) + put 30 (b2n s.link.fault),
    s.cal.gen + put 16 s.cls.gen,
    tickLow s.clock ]

/-! ### Directory entries (10.3) -/

/-- The state codes of a directory entry. -/
def dirGiven : Nat := 1
def dirPosted : Nat := 2
def dirFilling : Nat := 3
def dirClosed : Nat := 4
def dirTaken : Nat := 5
def dirAnswered : Nat := 6
def dirRefused : Nat := 7

/-- The role codes. -/
def roleResult : Nat := 1
def roleTrace : Nat := 2
def roleOrder : Nat := 3

/-- The entry that four words hold. -/
def DirEntry.ofWords (ws : List Word) : DirEntry :=
  let w0 := ws.getD 0 0
  { state := field w0 0 4, role := field w0 4 4, flags := BitVec.ofNat 6 (field w0 8 6), used := field w0 16 11,
    closure := ws.getD 1 0, first := ws.getD 2 0, count := ws.getD 3 0 }

/-- The four words of an entry. -/
def DirEntry.words (e : DirEntry) : List Word :=
  [toWord (e.state + put 4 e.role + put 8 e.flags.toNat + put 16 e.used), e.closure, e.first, e.count]

end Sys2Proof.Machine
end

