-- ==== Sys2Proof/Machine/Queue.lean ====
section
/-!
DEFINITION. The outgoing queue: creating a record, its entry, its loss, and NO_PAGE (R153-R155).
-/

namespace Sys2Proof.Machine

/-- The most records the queue holds (R154). -/
def queueMax : Nat := 64

/-- A record's words with its stamp in bits 22-31 of the first (10, 10.4). -/
def stamped (serial : Nat) : List Nat → List Word
  | [] => []
  | w :: rest => toWord (w + put 22 (serial % 1024)) :: rest.map toWord

/-- Records wait with no result page FILLING and none lent (R155). -/
def State.noPageHolds (s : State) : Bool := !s.rw.queue.isEmpty && (s.rw.page.isNone && s.ex.resultList.isEmpty)

/-- NO_PAGE is set where its condition holds (R155). -/
def raiseNoPage (s : State) : State := if s.noPageHolds then { s with regs.noPage := true } else s

/-- A record is counted lost by its kind, in the status counters and in the counts for the next page
header, and RECORD_LOST is handed on unless it is a trigger record (R154). -/
def loseRecord (r : Rec) (s : State) : State :=
  match r.kind with
  | .vehicle =>
    handEvent (.recordLost true)
      { s with rw.lostVehicle := satInc s.rw.lostVehicle, rw.headerVehicle := s.rw.headerVehicle + 1 }
  | .other =>
    handEvent (.recordLost false)
      { s with rw.lostOther := satInc s.rw.lostOther, rw.headerOther := s.rw.headerOther + 1 }
  | .trigger => { s with rw.lostOther := satInc s.rw.lostOther, rw.headerOther := s.rw.headerOther + 1 }

/-- The oldest record of the other kind taken out of a list (R154). -/
def takeOldestOther : List Rec → Option (Rec × List Rec)
  | [] => none
  | r :: rest =>
    if r.kind = .vehicle then (takeOldestOther rest).map fun p => (p.1, r :: p.2) else some (r, rest)

/-- The oldest record of the other kind that may be displaced: not one whose writing has begun or
failed, which stands at the head (R154). -/
def displaceable (pinned : Bool) (q : List Rec) : Option (Rec × List Rec) :=
  if pinned then
    match q with
    | [] => none
    | r :: rest => (takeOldestOther rest).map fun p => (p.1, r :: p.2)
  else takeOldestOther q

/-- A new record enters the queue, is lost, or displaces an older one (R154); an entry from 31 to 32
hands on BACKLOG (R153); NO_PAGE is set again at an entry while its condition holds (R155). -/
def enterRecord (r : Rec) (s : State) : State :=
  if s.rw.queue.length < queueMax then
    let s1 := { s with rw.queue := s.rw.queue ++ [r] }
    raiseNoPage (if s.rw.queue.length = 31 then handEvent (.backlog 32) s1 else s1)
  else if r.kind = .vehicle then
    match displaceable s.rw.pinned s.rw.queue with
    | some (old, rest) => raiseNoPage (loseRecord old { s with rw.queue := rest ++ [r] })
    | none => loseRecord r s
  else loseRecord r s

/-- A record is created: it takes the next stream serial (R153) and enters the queue. -/
def createRecord (kind : RecKind) (ws : List Nat) (s : State) : State :=
  let serial := s.rw.created + 1
  enterRecord { serial := serial, kind := kind, words := stamped serial ws } { s with rw.created := serial }

/-- Whether a vehicle record created now is reduced: more than 32 records are queued (R107, R153). -/
def State.recordReduced (s : State) : Bool := decide (32 < s.rw.queue.length)

/-- Every record still queued is removed and counted lost under its kind (R173, R177). -/
def loseAllRecords (s : State) : State :=
  s.rw.queue.foldl (fun t r => loseRecord r t) { s with rw.queue := [], rw.pinned := false }

/-- A calibration record of the given kind is created (R122). Fields its kind has nothing for are given as 0 (DESIGN
CHOICE, log 50). -/
def calibrationRecord (kind limit cause laneNumber band w3 w4 w5 w6 : Nat) (s : State) : State :=
  createRecord .other (calibrationWords s kind limit cause laneNumber band w3 w4 w5 w6) s

end Sys2Proof.Machine
end

