-- ==== Sys2Proof/Machine/Trigger.lean ====
section
/-!
DEFINITION. The Trigger Unit: matching, pulses, timers, firing and cascades (07).
-/

namespace Sys2Proof.Machine

/-- The bit of a mask that stands for a set. -/
def setBit (n : SetId) : BitVec 8 := BitVec.ofNat 8 (2 ^ n.val)

/-- Whether a mask holds a set. -/
def inMask (m : BitVec 8) (n : SetId) : Bool := m.getLsbD n.val

/-! ### Matching (R130-R132) -/

/-- The four flags a VEHICLE flag mask can name: STRADDLE, LANE_CHANGE, SPLIT, NO_LOOP (R130). -/
def VehicleEvent.maskFlags (v : VehicleEvent) : BitVec 4 :=
  flagWhen (hasFlag v.flags vehStraddle) 1 ||| flagWhen (hasFlag v.flags vehLaneChange) 2 |||
    flagWhen (hasFlag v.flags (vehSplitBefore ||| vehSplitAfter)) 4 ||| flagWhen (hasFlag v.flags vehNoLoop) 8

/-- A VEHICLE factor's conditions hold (R130); an absent condition holds for any vehicle. -/
def VehicleCond.holds (c : VehicleCond) (v : VehicleEvent) : Bool :=
  (match c.lanes with | none => true | some m => m.getLsbD v.lane.val)
  && (match c.classes with | none => true | some (lo, hi) => decide (lo ≤ v.cls) && decide (v.cls ≤ hi))
  && decide (c.grossMin ≤ v.gross)
  && decide (c.heaviestMin ≤ v.heaviest)
  && (match c.grades with | none => true | some (lo, hi) => decide (lo ≤ v.grade.code) && decide (v.grade.code ≤ hi))
  && (match c.flags with | none => true | some m => (m &&& v.maskFlags) != 0)

/-- The side of a threshold after a row update (R132). -/
def Side.after (side : Side) (theta : Int) (temp : RowTemp) : Side :=
  match temp.value?, side with
  | none, _ => .unknown
  | some v, .unknown => if theta ≤ v then .high else .low
  | some v, .low => if theta + 5 ≤ v then .high else .low
  | some v, .high => if v ≤ theta - 5 then .low else .high

/-- STALE or NONE, the states DEGRADED watches (R132). -/
def RowTemp.degraded : RowTemp → Bool
  | .stale _ _ => true
  | .none => true
  | _ => false

/-- Whether a row update gives a set an occurrence its factor chooses (R132). With direction code 0 neither crossing is
chosen (R183), and DEGRADED still is where degraded is on (DESIGN CHOICE, log 13). -/
def TriggerSet.occurs (t : TriggerSet) (row : Row) (temp : RowTemp) : Bool :=
  match t.dfn.factor with
  | .temperature r theta up down degraded =>
    decide (r = row) &&
      ((up && (decide (t.side = .low) && decide (t.side.after theta temp = .high)))
      || (down && (decide (t.side = .high) && decide (t.side.after theta temp = .low)))
      || (degraded && (temp.degraded && !t.degraded)))
  | _ => false

/-- A set's tracking after a row update of its row, enabled or not (R132). -/
def TriggerSet.track (row : Row) (temp : RowTemp) (t : TriggerSet) : TriggerSet :=
  match t.dfn.factor with
  | .temperature r theta _ _ _ =>
    if r = row then { t with side := t.side.after theta temp, degraded := temp.degraded } else t
  | _ => t

/-- The sets that a row update gives an occurrence their factors choose (R132). -/
def occurrences (row : Row) (temp : RowTemp) (sets : Tab 8 TriggerSet) : BitVec 8 :=
  BitVec.ofNat 8 (packFields 1 (sets.items.map fun t => b2n (t.occurs row temp)))

/-- A row update at the second's close (R74): every set is tracked, and the update is handed to the Trigger
Unit with the sets it gave an occurrence (R129, R132). -/
def updateRow (row : Row) (temp : RowTemp) (s : State) : State :=
  handEvent (.temperature row temp (occurrences row temp s.trig.sets))
    { s with trig.sets := s.trig.sets.map (TriggerSet.track row temp) }

/-- A waiting row update gives no occurrence to a set defined since, which has not seen it (R132, log 11). -/
def TrigEvent.redefined (n : SetId) : TrigEvent → TrigEvent
  | .temperature row temp occ => .temperature row temp (occ &&& ~~~setBit n)
  | e => e

/-- The line is an input now. -/
def State.isInput (s : State) (l : Line) : Bool :=
  match s.trig.lines.get l with
  | .input _ => true
  | .output _ => false

/-- A set's factor matches an event (R130, R131); a row update carries the sets R132 found an occurrence for. -/
def factorMatches (s : State) (n : SetId) (e : TrigEvent) : Bool :=
  match (s.trig.sets.get n).dfn.factor, e with
  | .vehicle c, .vehicle v => c.holds v
  | .loopOnset m, .loopOnset lane _ => m.getLsbD lane.val
  | .timer, .timer own => decide (own = n)
  | .fieldEdge l up down, .fieldEdge line rising _ =>
    decide (l = line) && ((if rising then up else down) && s.isInput line)
  | .temperature .., .temperature _ _ occ => inMask occ n
  | .driftLimit m lower upper, .driftLimit lane _ isUpper _ =>
    (match m with | none => true | some b => b.getLsbD lane.val) && (if isUpper then upper else lower)
  | .backlog, .backlog _ => true
  | .recordLost veh other, .recordLost isVeh => if isVeh then veh else other
  | _, _ => false

/-! ### Pulses (R138-R140) -/

/-- Two half-open spans of ticks overlap (R139). -/
def spansOverlap (a b c d : Int) : Bool := decide (a < d) && decide (c < b)

/-- A pulse's span as signed distances from the clock. -/
def Pulse.span (now : Nat) (p : Pulse) : Int × Int := (tickOffset now p.start, tickOffset now p.stop)

/-- A span of the given width from `at_` overlaps no pulse of a schedule. -/
def spanFree (now : Nat) (ps : List Pulse) (width : Nat) (at_ : Int) : Bool :=
  ps.all fun p => !spansOverlap at_ (at_ + width) (p.span now).1 (p.span now).2

/-- The earliest start at or after the requested one at which the pulse overlaps none: the requested
start, or the end of a scheduled pulse (R139). -/
def earliestStart (now : Nat) (ps : List Pulse) (width : Nat) (req : Int) : Int :=
  let ends := (ps.map fun p => (p.span now).2).filter fun t => decide (req ≤ t)
  let fits := ends.filter (spanFree now ps width)
  if spanFree now ps width req then req
  else match fits with
    | [] => req
    | t :: rest => rest.foldl min t

/-- A pulse entered in start order. -/
def insertPulse (now : Nat) (p : Pulse) : List Pulse → List Pulse
  | [] => [p]
  | q :: rest => if tickOffset now p.start < tickOffset now q.start then p :: q :: rest else q :: insertPulse now p rest

/-- What becomes of a pulse action at a firing: whether it was placed and where, and the marks of the
trigger record (R138, R139, R142). -/
structure PulseResult where
  placed : Option Nat
  dropped : Bool
  late : Bool
  noSpeed : Bool
  deferred : Bool
  deriving DecidableEq, Repr

/-- No pulse (R134 step 2). -/
def PulseResult.noPulse : PulseResult :=
  { placed := none, dropped := false, late := false, noSpeed := false, deferred := false }

/-- The requested start as a distance from the firing tick, with LATE and NO_SPEED (R138). -/
def requestedStart (now : Nat) (timing : PulseTiming) (v : Option VehicleEvent) : Int × Bool × Bool :=
  match timing, v with
  | .fixed delay, _ => (delay, false, false)
  | .distance dOut, some ve =>
    match ve.rowB with
    | some r =>
      if ve.meanSpeed = 0 then (0, false, true)
      else
        let target := roundDiv (r * ve.meanSpeed + dOut * 131072) (16 * ve.meanSpeed)
        let off := tickOffset now (target % tickMod)
        if off < 0 then (0, true, false) else (off, false, false)
    | none => (0, false, true)
  | .distance _, none => (0, false, false)

/-- A pulse is placed in its line's schedule, or dropped when four are held (R139). A pulse whose
start is the firing tick starts as it is placed, once no other pulse runs (R140). -/
def placePulse (a : PulseAction) (n : SetId) (v : Option VehicleEvent) (s : State) : State × PulseResult :=
  match s.trig.lines.get a.line, a.timing, v with
  | .input _, _, _ => (s, PulseResult.noPulse)
  | .output _, .distance _, none => (s, PulseResult.noPulse)
  | .output ps, timing, v =>
    let (req, late, noSpeed) := requestedStart s.clock timing v
    if 4 ≤ ps.length then
      ({ s with trig.dropped := satInc s.trig.dropped },
        { placed := none, dropped := true, late := late, noSpeed := noSpeed, deferred := false })
    else
      let off := earliestStart s.clock ps a.width req
      let p : Pulse :=
        { start := tickShift s.clock off, stop := tickShift s.clock (off + a.width), tset := n,
          running := decide (off = 0) && !ps.any (·.running) }
      ({ s with trig.lines := s.trig.lines.set a.line (.output (insertPulse s.clock p ps)) },
        { placed := some p.start, dropped := false, late := late, noSpeed := noSpeed, deferred := decide (off ≠ req) })

/-- The outcome word of a trigger record (10.4; R142). -/
def PulseResult.outcome (r : PulseResult) (captureBusy : Bool) : Nat :=
  (if r.placed.isSome then 1 else if r.dropped then 2 else 3)
    + put 4 (b2n r.late) + put 5 (b2n r.noSpeed) + put 6 (b2n r.deferred) + put 7 (b2n captureBusy)

/-! ### Timers (R136) -/

/-- A timer action on a timer at the firing tick (R136). -/
def TimerState.act (op : TimerOp) (due : Nat) (t : TimerState) : TimerState :=
  match op, t with
  | .start, .stopped => .running due
  | .start, t => t
  | .restart, _ => .running due
  | .stop, _ => .stopped
  | .other, t => t

/-- A timer action is applied to its target, with the target's own period (R136). -/
def applyTimerAction (a : TimerAction) (s : State) : State :=
  let t := s.trig.sets.get a.target
  { s with trig.sets := s.trig.sets.set a.target { t with timer := t.timer.act a.op (tickAdd s.clock t.dfn.period) } }

/-! ### Capture arming (R141) -/

/-- A capture action at a firing: the state after, and whether it was refused CAPTURE_BUSY. The
vehicle's lane is skipped in a cascade without a vehicle (R134). -/
def applyCaptureAction (a : CaptureAction) (v : Option VehicleEvent) (s : State) : State × Bool :=
  match (match a.lane with | some l => some l | none => v.map (·.lane)) with
  | none => (s, false)
  | some lane => (armCapture { lane := lane, pre := a.pre, maxFrames := a.maxFrames } s, s.captureBusy)

/-! ### Firing and cascades (R133-R135) -/

/-- The vehicle a cascade carries: only a VEHICLE cascade has one (R134). -/
def TrigEvent.vehicle? : TrigEvent → Option VehicleEvent
  | .vehicle v => some v
  | _ => none

/-- Step 2 of a firing: the set's pulse action, if it has one (R134). -/
def firePulse (e : TrigEvent) (n : SetId) (s : State) : State × PulseResult :=
  match (s.trig.sets.get n).dfn.pulse with
  | none => (s, PulseResult.noPulse)
  | some a => placePulse a n e.vehicle? s

/-- Step 3 of a firing: the set's timer action, if it has one (R134, R136). -/
def fireTimer (n : SetId) (s : State) : State :=
  match (s.trig.sets.get n).dfn.timerAct with
  | none => s
  | some a => applyTimerAction a s

/-- Step 4 of a firing: the set's capture action, if it has one (R134, R141). -/
def fireCapture (e : TrigEvent) (n : SetId) (s : State) : State × Bool :=
  match (s.trig.sets.get n).dfn.captureAct with
  | none => (s, false)
  | some a => applyCaptureAction a e.vehicle? s

/-- The start field of a trigger record: the low 32 bits of the start tick placed, or 0 (R142). -/
def PulseResult.startField (r : PulseResult) : Nat :=
  match r.placed with
  | some t => tickLow t
  | none => 0

/-- Step 5 of a firing: the trigger record, if report is on (R134, R142). -/
def fireReport (e : TrigEvent) (n : SetId) (activated : Bool) (r : PulseResult) (busy : Bool) (s : State) : State :=
  if (s.trig.sets.get n).dfn.report then
    createRecord .trigger
      (triggerWords n e.code activated (match e.vehicle? with | some v => v.serial | none => 0) r.startField
        (r.outcome busy) s.clock) s
  else s

/-- A set's enabled state is changed. -/
def setEnabled (n : SetId) (v : Bool) (s : State) : State :=
  { s with trig.sets := s.trig.sets.set n { s.trig.sets.get n with enabled := v } }

/-- The enable mask and then the disable mask (R135, R143). -/
def applyMasks (en dis : BitVec 8) (s : State) : State :=
  { s with
    trig.sets := Tab.ofNat 8 fun i =>
      if h : i < 8 then
        let t := s.trig.sets.get ⟨i, h⟩
        { t with enabled := if inMask dis ⟨i, h⟩ then false else if inMask en ⟨i, h⟩ then true else t.enabled }
      else TriggerSet.reset }

/-- Steps 2 to 7 of a firing, less the activate mask (R134, R135). -/
def fireSteps (e : TrigEvent) (n : SetId) (activated : Bool) (s : State) : State :=
  let d := (s.trig.sets.get n).dfn
  let (s1, r) := firePulse e n s
  let s2 := fireTimer n s1
  let (s3, busy) := fireCapture e n s2
  let s4 := fireReport e n activated r busy s3
  let s5 := if d.once then setEnabled n false s4 else s4
  applyMasks d.enableMask d.disableMask s5

/-- A set that is enabled now and has not fired in this cascade. -/
def mayFire (s : State) (fired : BitVec 8) (n : SetId) : Bool := (s.trig.sets.get n).enabled && !inMask fired n

/-- The firing of a set, its activated sets' firings included, each set at most once (R134, R135). The
first argument bounds the depth of a chain; nine is never reached, since each firing adds a set to the
fired ones. The result is the state and the sets fired. -/
def fire (e : TrigEvent) : Nat → SetId → Bool → State × BitVec 8 → State × BitVec 8
  | 0, _, _, acc => acc
  | depth + 1, n, activated, acc =>
    let mask := (acc.1.trig.sets.get n).dfn.activateMask
    (indices 8).foldl
      (fun a m => if inMask mask m && mayFire a.1 a.2 m then fire e depth m true a else a)
      (fireSteps e n activated acc.1, acc.2 ||| setBit n)

/-- The depth a chain of eight sets cannot exceed. -/
def chainDepth : Nat := 9

/-- The cascade of an event: the sets are considered in ascending number (R133). The result is the
state and the sets fired, which a VEHICLE cascade returns as the screened mask. -/
def runCascade (e : TrigEvent) (s : State) : State × BitVec 8 :=
  if s.run.works then
    (indices 8).foldl
      (fun a n => if mayFire a.1 a.2 n && factorMatches a.1 n e then fire e chainDepth n false a else a)
      (s, 0)
  else (s, 0)

/-- The cascade of a CONTROL event: the activated sets that are enabled fire in ascending number (R143). -/
def controlCascade (mask : BitVec 8) (s : State) : State :=
  ((indices 8).foldl (fun a m => if inMask mask m && mayFire a.1 a.2 m then fire .control chainDepth m true a else a)
    (s, 0)).1

/-! ### Changes of run state (R140, R144) -/

/-- The pulses in a line's schedule. -/
def FieldLine.pulses : FieldLine → List Pulse
  | .input _ => []
  | .output ps => ps

/-- Every schedule is emptied and each pulse counted discarded (R140). -/
def discardPulses (s : State) : State :=
  { s with
    trig.discarded := satAdd s.trig.discarded ((s.trig.lines.items.map fun l => l.pulses.length).sum)
    trig.lines := s.trig.lines.map fun l => match l with
      | .input v => .input v
      | .output _ => .output [] }

/-- Every set disabled and every timer STOPPED (R144: soft restart, disable). -/
def quietTriggers (s : State) : State :=
  { s with trig.sets := s.trig.sets.map fun t => { t with enabled := false, timer := .stopped } }

/-- RUNNING timers are held with their remaining time (R137, R144). -/
def holdTimers (s : State) : State :=
  { s with
    trig.sets := s.trig.sets.map fun t => match t.timer with
      | .running due => { t with timer := .held (tickOffset s.clock due) }
      | _ => t }

/-- Held timers resume with their remaining time (R137). -/
def resumeTimers (s : State) : State :=
  { s with
    trig.sets := s.trig.sets.map fun t => match t.timer with
      | .held left => { t with timer := .running (tickShift s.clock left) }
      | _ => t }

/-- The event is an edge on a line. -/
def TrigEvent.edgeOn (l : Line) : TrigEvent → Bool
  | .fieldEdge m _ _ => decide (m = l)
  | _ => false

/-- The waiting events without the newest edge of a line. -/
def withoutEdge (l : Line) : List TrigEvent → List TrigEvent
  | [] => []
  | e :: rest => if e.edgeOn l && !rest.any (TrigEvent.edgeOn l) then rest else e :: withoutEdge l rest

/-- The edge a line gave at the present tick is withdrawn: the level reverted within the tick (R126, log 46). -/
def withdrawEdge (l : Line) (level : Bool) (s : State) : State :=
  { s with
    trig.lines := s.trig.lines.set l (.input level)
    trig.edgeTaken := s.trig.edgeTaken.set l false
    trig.waiting := withoutEdge l s.trig.waiting }

/-- The waiting event at a place is the edge a line gave at the present tick, which may yet be withdrawn: its cascade
is not due before the tick is over (R126, log 46). -/
def State.edgeOpen (s : State) (which : Nat) : Bool :=
  match s.trig.waiting[which]? with
  | some (.fieldEdge l _ _) => s.trig.edgeTaken.get l && !(s.trig.waiting.drop (which + 1)).any (TrigEvent.edgeOn l)
  | _ => false

/-- Input lines take up their present levels (R126). -/
def takeUpInputs (s : State) : State :=
  { s with
    trig.edgeTaken := Tab.fill 4 false
    trig.lines := s.trig.lines.zipWith (fun l v => match l with
      | .input _ => .input v
      | .output ps => .output ps) s.pins.field }

/-- The trigger due ticks and pulse ticks move with the clock (R144). -/
def shiftTriggerTicks (off : Int) (s : State) : State :=
  { s with
    trig.sets := s.trig.sets.map fun t => match t.timer with
      | .running due => { t with timer := .running (tickShift due off) }
      | _ => t
    trig.lines := s.trig.lines.map fun l => match l with
      | .input v => .input v
      | .output ps => .output (ps.map fun p => { p with start := tickShift p.start off, stop := tickShift p.stop off }) }

end Sys2Proof.Machine
end

