-- ==== Sys2Proof/Machine/Weigh.lean ====
section
/-!
DEFINITION. Kt, the bands, Kd, and the load arithmetic of an axle (R45, R49-R62, R75, R78, R112).
-/

namespace Sys2Proof.Machine

/-! ### Curve and bands (R75, R78) -/

/-- The factor between two breakpoints (R75): the step is rounded to the nearest whole number, an
exact half toward +∞. -/
def interpolate (t0 : Int) (k0 : Nat) (t1 : Int) (k1 : Nat) (t : Int) : Nat :=
  ((k0 : Int) + roundDivInt (((k1 : Int) - k0) * (t - t0)) (t1 - t0).toNat).toNat

/-- The factor from breakpoint `(t0, k0)`, at or below `t`, on; true where `t` lies above the last. -/
def curveFrom (t0 : Int) (k0 : Nat) (t : Int) : List (Int × Nat) → Nat × Bool
  | [] => (k0, decide (t0 < t))
  | (t1, k1) :: rest => if t < t1 then (interpolate t0 k0 t1 k1 t, false) else curveFrom t1 k1 t rest

/-- Kt of a curve at a temperature, with CURVE_CLAMP (R75). -/
def curveFactor (points : List (Int × Nat)) (t : Int) : Nat × Bool :=
  match points with
  | [] => (16384, false)
  | (t0, k0) :: rest => if t < t0 then (k0, true) else curveFrom t0 k0 t rest

/-- Kt for a row temperature: 16,384 in NONE, else the curve's (R53, R75). -/
def rowFactor (u : TempUnit) (row : Row) : Nat × Bool :=
  match (u.rows.get row).value? with
  | none => (16384, false)
  | some t => curveFactor u.curve.points t

/-- The band of a temperature: the number of boundaries at or below it (R78), at most 7. -/
def bandOf (bounds : List Int) (t : Int) : Fin 8 :=
  ⟨min (bounds.filter (fun b => decide (b ≤ t))).length 7, by omega⟩

/-- The band of the row-A temperature, none in NONE (R78). -/
def State.bandA (s : State) : Option (Fin 8) :=
  match s.temp.rows.a.value? with
  | none => none
  | some t => some (bandOf s.temp.bounds t)

/-- Kd of a lane: the cell of the lane and the row-A band, or 16,384 in NONE (R53, R112). -/
def State.driftFactor (s : State) (lane : Lane) : Nat :=
  match s.bandA with
  | none => 16384
  | some b => ((s.cal.cells.get lane).get b).kd

/-! ### The four stages of a wheel (R51-R54) -/

/-- Stage 1: the swept integral and whether it saturated (R51). -/
def sweptIntegral (area v : Nat) : Nat × Bool :=
  let m := roundDiv (area * v) 8192
  if 4294967295 < m then (4294967295, true) else (m, false)

/-- Stage 2: the raw load in kg (R52). -/
def rawLoad (m factor : Nat) : Nat := roundDiv (m * factor) 16777216

/-- Stage 3: the compensated load in kg (R53). -/
def compensatedLoad (r kt kd : Nat) : Nat := roundDiv (r * kt * kd) 268435456

/-- Stage 4: the clamp to 65,535 kg and whether it acted (R54). -/
def clampLoad (w : Nat) : Nat × Bool := if 65535 < w then (65535, true) else (w, false)

/-- A wheel's load in one row, and LOAD_SATURATED (R51-R54). -/
def State.wheelLoad (s : State) (v kt : Nat) (w : Wheel) : Nat × Bool :=
  let m := sweptIntegral w.area v
  let l := clampLoad (compensatedLoad (rawLoad m.1 (s.cal.factors.get w.chan)) kt (s.driftFactor (chanLane w.chan)))
  (l.1, m.2 || l.2)

/-- An absent wheel is not computed: its load is 0 (R54). -/
def State.wheelLoad? (s : State) (v kt : Nat) : Option Wheel → Nat × Bool
  | none => (0, false)
  | some w => s.wheelLoad v kt w

/-- A combined wheel load (R56). -/
def combine (a b : Option Wheel) (la lb : Nat) : Nat :=
  match a, b with
  | some _, some _ => roundDiv (la + lb) 2
  | some _, none => la
  | none, some _ => lb
  | none, none => 0

/-- The near and far wheels of a part that may be absent. -/
def nearOf (p : Option RowAxle) : Option Wheel := p.bind (·.near)
def farOf (p : Option RowAxle) : Option Wheel := p.bind (·.far)

/-- No loads (R62). -/
def Loads.zero : Loads :=
  { aNear := 0, aFar := 0, bNear := 0, bFar := 0, near := 0, far := 0, totalA := 0, totalB := 0, load := 0 }

/-- The loads of an axle at a speed, with LOAD_SATURATED (R51-R56). -/
def State.axleLoads (s : State) (v : Nat) (a b : Option RowAxle) : Loads × Bool :=
  let ktA := (rowFactor s.temp .a).1
  let ktB := (rowFactor s.temp .b).1
  let an := s.wheelLoad? v ktA (nearOf a)
  let af := s.wheelLoad? v ktA (farOf a)
  let bn := s.wheelLoad? v ktB (nearOf b)
  let bf := s.wheelLoad? v ktB (farOf b)
  let near := combine (nearOf a) (nearOf b) an.1 bn.1
  let far := combine (farOf a) (farOf b) af.1 bf.1
  ({ aNear := an.1, aFar := af.1, bNear := bn.1, bFar := bf.1, near := near, far := far, totalA := an.1 + af.1,
     totalB := bn.1 + bf.1, load := near + far },
    an.2 || af.2 || bn.2 || bf.2)

/-- Row disagreement of an axle with both parts (R57). -/
def rowsDisagree (tolerance ta tb : Nat) : Bool := decide (tolerance * max ta tb < 100 * absDiff ta tb)

/-! ### Flags at the computation (R58-R60) -/

/-- The lanes of a row part's lane set. -/
def RowAxle.lanes (p : RowAxle) : List Lane := if p.straddle then [p.lane, p.lane + 1] else [p.lane]

/-- The lanes of an axle's row parts. -/
def partLanes (a b : Option RowAxle) : List Lane :=
  (match a with | none => [] | some p => p.lanes) ++ (match b with | none => [] | some p => p.lanes)

/-- Whether any of the four channels of a lane is FAULTED or OFF (R60). -/
def State.laneFault (s : State) (lane : Lane) : Bool :=
  (indices 16).any fun c => decide (chanLane c = lane) && (s.det.chans.get c).faultedOrOff

/-- CHANNEL_FAULT for an axle's parts (R60). -/
def State.partsFault (s : State) (a b : Option RowAxle) : Bool := (partLanes a b).any s.laneFault

/-- The temperature flags for the row parts present (R59). -/
def State.tempFlags (s : State) (a b : Option RowAxle) : AxleFlags :=
  flagWhen a.isSome (s.temp.rows.a.flag ||| flagWhen (rowFactor s.temp .a).2 flagCurveClamp)
    ||| flagWhen b.isSome (s.temp.rows.b.flag ||| flagWhen (rowFactor s.temp .b).2 flagCurveClamp)

/-- OUTSIDE_SPEED_BAND for a speed (R49, R50). -/
def WeighPar.outside (p : WeighPar) (v : Nat) : Bool := decide (v < p.bandLow) || decide (p.bandHigh < v)

/-- An axle weighed at a speed: loads, flags and grade, all read at this moment (R55, R58, R61). The
speed itself is stored by the caller. -/
def State.weigh (s : State) (v : Nat) (x : Axle) : Axle :=
  let (loads, sat) := s.axleLoads v x.partA x.partB
  let both := x.partA.isSome && x.partB.isSome
  let flags := x.flags ||| s.tempFlags x.partA x.partB ||| flagWhen sat flagLoadSaturated
    ||| flagWhen (s.axle.par.outside v) flagOutsideSpeedBand
    ||| flagWhen (both && rowsDisagree s.axle.par.tolerance loads.totalA loads.totalB) flagRowDisagree
    ||| flagWhen (s.partsFault x.partA x.partB) flagChannelFault
  { x with loads := loads, flags := flags, grade := some (axleGrade true x.partA x.partB flags) }

/-! ### Matching window and speed (R45, R49) -/

/-- The spacing of an axle's speed lane: its one lane, or the lower lane of a straddle (R45). -/
def State.spacing (s : State) (p : RowAxle) : Nat := (s.site.geom.get p.lane).d

/-- The window's low end in ticks (R45). -/
def State.lowEnd (s : State) (p : RowAxle) : Nat := roundDiv (s.spacing p * 8192) s.axle.par.vmax

/-- The window's high end in ticks (R45). -/
def State.highEnd (s : State) (p : RowAxle) : Nat := roundDiv (s.spacing p * 8192) s.axle.par.vmin

/-- A row-B centroid lies in the window of a row-A axle (R45). -/
def State.inWindow (s : State) (p : RowAxle) (cB : Nat) : Bool :=
  decide (p.centroid + 16 * s.lowEnd p ≤ cB) && decide (cB ≤ p.centroid + 16 * s.highEnd p)

/-- The match horizon of a row-A axle, in 1/16 tick (R45). -/
def State.horizon (s : State) (p : RowAxle) : Nat := p.centroid + 16 * (s.highEnd p + s.axle.par.window)

/-- The own speed of a matched axle, in mm/s (R49). -/
def State.ownSpeed (s : State) (p : RowAxle) (cB : Nat) : Nat :=
  clamp s.axle.par.vmin s.axle.par.vmax (roundDiv (s.spacing p * 131072) (cB - p.centroid))

/-- The time to go `d` mm at speed `v`, in 1/16 tick (R91, R98). -/
def travelTime (d v : Nat) : Nat := roundDiv (d * 131072) v

end Sys2Proof.Machine
end

