-- ==== Sys2Proof/Machine/Drift.lean ====
section
/-!
DEFINITION. The drift table: reference offers, tallies, updates and limits (06, R111-R118).
-/

namespace Sys2Proof.Machine

/-- The static calibration generation rises by one, 65,535 followed by 1 (R111). -/
def raiseGeneration (s : State) : State := { s with cal.gen := nextGen s.cal.gen }

/-- A drift cell is replaced. -/
def setCell (lane : Lane) (band : Fin 8) (c : Cell) (s : State) : State :=
  { s with cal.cells := s.cal.cells.modify lane (fun l => l.set band c) }

/-- Clearing a tally (06, 6.3). -/
def Cell.clearTally (c : Cell) : Cell := { c with count := 0, sum := 0, target := none }

/-- A reference offer (R106). `axle` is the stored axle at the reference index, if there is one. -/
structure Offer where
  lane : Lane
  grade : Grade
  meanSpeed : Nat
  axle : Option Axle
  target : Nat
  rowA : RowTemp
  deriving DecidableEq, Repr

/-- The load of the reference axle that would be tallied: the axle is stored, carries neither STRADDLE
nor LANE_CHANGE, and weighs 50 to 150 % of the target (R115, conditions 3 and 6). -/
def Offer.load? (o : Offer) : Option Nat :=
  match o.axle with
  | none => none
  | some x =>
    if hasFlag x.flags (flagStraddle ||| flagLaneChange) then none
    else if o.target ≤ 2 * x.loads.load ∧ 2 * x.loads.load ≤ 3 * o.target then some x.loads.load
    else none

/-- The band an offer is tallied under, with the boundaries now held (R115, condition 5). -/
def State.offerBand (s : State) (o : Offer) : Option (Fin 8) :=
  match o.rowA.value? with
  | none => none
  | some t => some (bandOf s.temp.bounds t)

/-- The conditions of R115 that do not look at the cell or the axle: grade, mean speed, freeze, lane enable. -/
def State.offerOpen (s : State) (o : Offer) : Bool :=
  decide (o.grade = .good) &&
    (!s.axle.par.outside o.meanSpeed && (!s.cal.frozen && s.cal.enables.get o.lane))

/-- A cell's tally is empty or gathers against the offer's target (R115, condition 7). -/
def Cell.accepts (c : Cell) (target : Nat) : Bool := decide (c.count = 0) || decide (c.target = some target)

/-- The figures of a drift update (R117, steps 1 to 4). -/
def driftMean (c : Cell) (window : Nat) : Nat := roundDiv c.sum window
def driftRatio (target mean : Nat) : Nat := roundDiv (target * 16384) mean
def driftStep (ratio maxStep : Nat) : Int := clampInt (-(maxStep : Int)) maxStep ((ratio : Int) - 16384)
def driftProposed (kd : Nat) (step : Int) : Nat := roundDiv (kd * (16384 + step).toNat) 16384

/-- An update: the cell after it, the record, and where a limit is struck the DRIFT_LIMIT cascade,
completed within the taking of the offer (R117, R118). -/
def driftUpdate (lane : Lane) (band : Fin 8) (c : Cell) (s : State) : State :=
  let target := c.target.getD 0
  let mean := driftMean c s.cal.window
  let step := driftStep (driftRatio target mean) s.cal.maxStep
  let proposed := driftProposed c.kd step
  let kd := clamp s.cal.lower s.cal.upper proposed
  let atLower := decide (proposed ≤ s.cal.lower)
  let atUpper := decide (s.cal.upper ≤ proposed)
  let struck := atLower || atUpper
  let c' : Cell :=
    { c.clearTally with kd := kd, updates := satInc c.updates, lastTick := s.clock, limit := struck }
  let s1 := setCell lane band c' s
  let s2 :=
    calibrationRecord (if struck then 2 else 1) (b2n (struck && !atLower)) 0 (lane.val + 1) band.val
      (c.kd + put 16 kd) mean (target + put 16 (low16 step)) c'.updates s1
  if struck then (runCascade (.driftLimit lane band.val (!atLower) kd) s2).1 else s2

/-- An offer is rejected and counted (R115). -/
def rejectOffer (s : State) : State := { s with cal.rejected := satInc s.cal.rejected }

/-- The taking of a reference offer: tallied, with the update when the count reaches the window, or
rejected and counted (R115-R117). -/
def takeOffer (o : Offer) (s : State) : State :=
  match o.load?, s.offerBand o with
  | some load, some band =>
    let c := (s.cal.cells.get o.lane).get band
    if s.offerOpen o && c.accepts o.target then
      let c' : Cell :=
        { c with count := c.count + 1, sum := c.sum + load, target := some (if c.count = 0 then o.target else c.target.getD o.target) }
      if c'.count = s.cal.window then driftUpdate o.lane band c' s else setCell o.lane band c' s
    else rejectOffer s
  | _, _ => rejectOffer s

/-- Every tally of the table is cleared, every factor kept (R79, R113). -/
def clearTallies (s : State) : State := { s with cal.cells := s.cal.cells.map fun l => l.map Cell.clearTally }

/-- The cell clamped to narrowed limits, with the limit it was set to (R114): upper is true. -/
def Cell.narrow (c : Cell) (lower upper : Nat) : Option (Cell × Bool) :=
  if c.kd < lower then some ({ c with kd := lower, limit := true }, false)
  else if upper < c.kd then some ({ c with kd := upper, limit := true }, true)
  else none

/-- One cell is clamped to the limits held, with its record of cause LIMITS_CHANGED (R114, R122). -/
def narrowCell (lane : Lane) (band : Fin 8) (s : State) : State :=
  let c := (s.cal.cells.get lane).get band
  match c.narrow s.cal.lower s.cal.upper with
  | none => s
  | some (c', isUpper) =>
    calibrationRecord 2 (b2n isUpper) 1 (lane.val + 1) band.val (c.kd + put 16 c'.kd) (tickLow c.lastTick) 0 c.updates
      (setCell lane band c' s)

/-- Every cell outside the limits is clamped, in lane order and band order (R114). -/
def narrowAll (s : State) : State :=
  (indices 4).foldl (fun t lane => (indices 8).foldl (fun u band => narrowCell lane band u) t) s

end Sys2Proof.Machine
end

