-- ==== Sys2Proof/Machine/RunOps.lean ====
section
/-!
DEFINITION. What ends measuring and a drain, the close asked of the filling result page, and the fixing of an
order's outcome (R29, R48, R157, R159, R163, R170).
-/

namespace Sys2Proof.Machine

/-- The Hit Detector stops measuring: every channel OFF, open hits discarded uncounted, both row hit
lists emptied uncounted (R29). -/
def stopMeasuring (s : State) : State :=
  { s with det.chans := Tab.fill 16 .off, det.hits := { a := [], b := [] } }

/-- Both row-axle lists are emptied (R48). -/
def emptyRowLists (s : State) : State := { s with axle.rowA := [], axle.rowB := [] }

/-- The filling result page is asked to close with flags (R157); during a bus fault they are noted
against it (R163). A close already asked for stands; while the exchange resumes the flags are added. -/
def ResultPage.askClose (busFault resuming : Bool) (f : BitVec 6) (p : ResultPage) : ResultPage :=
  if busFault then { p with noted := p.noted ||| f }
  else match p.closeWith with
    | none => { p with closeWith := some f }
    | some g => if resuming then { p with closeWith := some (g ||| f) } else p

/-- The close of the FILLING result page, if there is one, is asked for. -/
def closeResultPage (f : BitVec 6) (s : State) : State :=
  { s with rw.page := s.rw.page.map (ResultPage.askClose s.regs.busFault s.ex.resuming f) }

/-- The length of the order a page's reader has in hand. -/
def ReadPhase.orderLen : ReadPhase → Option Nat
  | .params _ len _ _ => some len
  | .ready _ len _ => some len
  | .loading _ len _ => some len
  | .loaded _ len _ => some len
  | .holding len => some len
  | _ => none

/-- The outcome of the order in hand is fixed and its write requested (R159). -/
def fixOutcome (o : OrderOutcome) (detail : Nat) (s : State) : State :=
  match s.ex.taken with
  | some t =>
    match t.phase.orderLen with
    | some len => { s with ex.taken := some { t with phase := .outcome len o detail false } }
    | none => s
  | none => s

/-- No lane holds a context. -/
def State.noContext (s : State) : Bool :=
  s.veh.lanes.items.all fun l => l.opened.isNone && l.closing.isNone

/-- STOP is answered DONE when its drain ends, where its page is still held for it (R170). -/
def answerStop (s : State) : State :=
  match s.ex.taken with
  | some t =>
    match t.phase with
    | .holding _ => fixOutcome .done 0 s
    | _ => s
  | none => s

/-- The end of a drain, in the order of R170. -/
def endDrain (s : State) : State :=
  answerStop { closeResultPage dirDrain (emptyRowLists (stopMeasuring s)) with run := .ready, ctrl.drain := none }

/-- The drain's test, made at its start and after every close taken in DRAINING (R170). -/
def testDrain (s : State) : State :=
  if s.run = .draining ∧ s.ctrl.drain.isSome = true ∧ s.noContext = true then endDrain s else s

end Sys2Proof.Machine
end

