-- ==== Sys2Proof/Machine/Vehicle.lean ====
section
/-!
DEFINITION. Vehicle contexts: opening, assignment, completion, splitting, closing, and classing (05).
-/

namespace Sys2Proof.Machine

/-! ### Slots -/

/-- The context in a slot of a lane. -/
def State.context (s : State) (lane : Lane) (slot : Slot) : Option Context := (s.veh.lanes.get lane).get slot

/-- A slot of a lane is given a context, or emptied. -/
def setContext (lane : Lane) (slot : Slot) (c : Option Context) (s : State) : State :=
  { s with veh.lanes := s.veh.lanes.modify lane (fun l => l.set slot c) }

/-- The next vehicle serial: 4,294,967,295 is followed by 1 (R85). -/
def nextSerial (n : Nat) : Nat := if n < 4294967295 then n + 1 else 1

/-- The loop of a lane reads as vacant: VACANT or STUCK (R94). -/
def State.loopClear (s : State) (lane : Lane) : Bool :=
  match s.loops.get lane with
  | .occupied _ _ => false
  | _ => true

/-- The loop of a lane is STUCK. -/
def State.loopStuck (s : State) (lane : Lane) : Bool :=
  match s.loops.get lane with
  | .stuck _ => true
  | _ => false

/-! ### Times and speeds of a context -/

/-- The own speed of the held axle with the latest provisional row-A time among those that have one
(05, 5.1): the last in list order, also of several at that time (DESIGN CHOICE, log 24). -/
def lastSpeedOf : List Axle → Option Nat
  | [] => none
  | x :: rest => match lastSpeedOf rest with
    | some v => some v
    | none => x.own

/-- The own speeds of a list of axles. -/
def ownSpeeds (xs : List Axle) : List Nat := xs.filterMap (·.own)

/-- The mean of the own speeds, rounded half up; none if there is none (R89, R100). -/
def meanOwnSpeed (xs : List Axle) : Option Nat :=
  match ownSpeeds xs with
  | [] => none
  | vs => some (roundDiv vs.sum vs.length)

/-- The close margin in ticks (R94). -/
def State.closeMargin (s : State) (lane : Lane) (v : Option Nat) : Nat :=
  match v with
  | none => 24576
  | some v =>
    let g := s.site.geom.get lane
    clamp 410 24576 (roundDiv ((g.dOA + g.d + 2000 - g.lp) * 8192) v)

/-- The idle time in ticks (R95). -/
def State.idleTime (s : State) (v : Option Nat) : Nat :=
  match v with
  | none => 24576
  | some v => roundDiv (s.veh.splitDist * 8192) v

/-- A context's deadlines after its last speed may have changed (R92, R94, R95). -/
def State.redeadline (s : State) (lane : Lane) (c : Context) : Context :=
  let v := lastSpeedOf c.axles
  if v = c.lastSpeed then c
  else
    { c with
      lastSpeed := v
      closeDeadline := match c.loopEnd with
        | some t => some (tickAdd t (s.closeMargin lane v))
        | none => c.closeDeadline
      idleDeadline := if c.noLoop then some (tickAdd c.lastJoin (s.idleTime v)) else c.idleDeadline }

/-- No held axle is WAITING. -/
def Context.settled (c : Context) : Bool := c.axles.all fun x => decide (x.stage ≠ .waiting)

/-- A deadline is set and the clock has reached it. -/
def State.due (s : State) : Option Nat → Bool
  | some d => reached s.clock d
  | none => false

/-- The close conditions of a context: the idle rule for NO_LOOP, in either slot (R95); otherwise a
CLOSING context whose loop is clear, whose axles are settled and whose deadline is reached (R94). -/
def State.closeReady (s : State) (lane : Lane) (slot : Slot) (c : Context) : Bool :=
  if c.noLoop then s.due c.idleDeadline && c.settled
  else decide (slot = .closingSlot) && (s.loopClear lane && (c.settled && s.due c.closeDeadline))

/-! ### Values of a closing vehicle (R97-R102) -/

/-- The axle becomes SINGLE_ROW (R43, R47, R48). -/
def Axle.single (x : Axle) : Axle := { x with stage := .singleRow, flags := x.flags ||| flagSingleRow }

/-- The centroids a single-row axle and a lender are compared by: those of the row the axle has (R50). -/
def sameRow (x m : Axle) : Option (Nat × Nat) :=
  match x.partA, m.partA, x.partB, m.partB with
  | some p, some q, _, _ => some (p.centroid, q.centroid)
  | none, _, some p, some q => some (p.centroid, q.centroid)
  | _, _, _, _ => none

/-- The better of two lenders: the nearer, and on equal distance the lower centroid (R50); where both are equal
the one earlier in the list stays (DESIGN CHOICE, log 24). Each is distance, centroid and own speed. -/
def betterLender (best : Option (Nat × Nat × Nat)) (d c v : Nat) : Option (Nat × Nat × Nat) :=
  match best with
  | none => some (d, c, v)
  | some (d0, c0, v0) => if d < d0 ∨ (d = d0 ∧ c < c0) then some (d, c, v) else some (d0, c0, v0)

/-- The borrowed speed of a single-row axle among the held axles of its vehicle (R50). -/
def borrowedSpeed (held : List Axle) (x : Axle) : Option Nat :=
  (held.foldl
    (fun best m => match m.own, sameRow x m with
      | some v, some (cx, cm) => betterLender best (absDiff cx cm) cm v
      | _, _ => best)
    none).map fun t => t.2.2

/-- Stage 2 of a close for one axle: a single-row axle borrows a speed and is weighed, or is left
unweighed and tested for CHANNEL_FAULT (R50, R58, R62). -/
def State.closeOut (s : State) (held : List Axle) (x : Axle) : Axle :=
  match x.stage with
  | .singleRow =>
    match borrowedSpeed held x with
    | some v =>
      { s.weigh v { x with borrowed := some v, flags := x.flags ||| flagBorrowedSpeed } with stage := .closedOut }
    | none =>
      { x with
        loads := Loads.zero
        flags := x.flags ||| flagWhen (s.partsFault x.partA x.partB) flagChannelFault
        grade := some .unweighed
        stage := .closedOut }
  | _ => x

/-- The equivalent row-A time (R98). -/
def State.eqTime (s : State) (x : Axle) : Int :=
  match x.partA, x.partB with
  | some p, _ => p.centroid
  | none, some p =>
    match x.speed? with
    | some v => (p.centroid : Int) - travelTime (s.spacing p) v
    | none => p.centroid
  | none, none => 0

/-- An axle inserted by equivalent row-A time, equal times keeping the order of the list (R98). -/
def insertByTime (p : Int × Axle) : List (Int × Axle) → List (Int × Axle)
  | [] => [p]
  | q :: rest => if q.1 ≤ p.1 then q :: insertByTime p rest else p :: q :: rest

/-- The final order of the held axles, with their times (R98). -/
def State.finalOrder (s : State) (xs : List Axle) : List (Int × Axle) :=
  (xs.map fun x => (s.eqTime x, x)).foldl (fun acc p => insertByTime p acc) []

/-- The spacing of an axle from the one before it; none is an unknown spacing (R99). -/
def spacingOf (prev cur : Int × Axle) : Option Nat :=
  match prev.2.speed?, cur.2.speed? with
  | some v0, some v1 => some (min (roundDiv ((cur.1 - prev.1).toNat * (v1 + v0)) 262144) 65535)
  | _, _ => none

/-- The spacings after the first axle. -/
def spacingsFrom (prev : Int × Axle) : List (Int × Axle) → List (Option Nat)
  | [] => []
  | cur :: rest => spacingOf prev cur :: spacingsFrom cur rest

/-- The spacings of the held axles in final order; the first axle has spacing 0 (R99). -/
def spacings : List (Int × Axle) → List (Option Nat)
  | [] => []
  | x :: rest => some 0 :: spacingsFrom x rest

/-- A spacing lies in a gap window; an unknown one only in 0..65,535 (R102). -/
def windowHolds (w : Nat × Nat) (sp : Option Nat) : Bool :=
  match sp with
  | some d => decide (w.1 ≤ d) && decide (d ≤ w.2)
  | none => decide (w = (0, 65535))

/-- An entry's weight conditions (R102, condition 3). -/
def ClassEntry.weightHolds (e : ClassEntry) (grade : Grade) (gross firstLoad : Nat) : Bool :=
  match e.gross, e.firstMin with
  | none, none => true
  | g, f =>
    decide (grade ≠ .unweighed)
    && (match g with | none => true | some (lo, hi) => decide (lo ≤ gross) && decide (gross ≤ hi))
    && (match f with | none => true | some m => decide (m ≤ firstLoad))

/-- An entry fits a vehicle (R102). `gaps` are the spacings of the stored axles after the first. -/
def ClassEntry.fits (e : ClassEntry) (total : Nat) (gaps : List (Option Nat)) (grade : Grade) (gross firstLoad : Nat) : Bool :=
  let n := min total 12
  decide (e.axMin ≤ n) && decide (n ≤ e.axMax)
    && (e.windows.zip gaps).all (fun p => windowHolds p.1 p.2)
    && e.weightHolds grade gross firstLoad

/-- How a context closes. -/
inductive CloseCause where
  | normal
  | truncated
  | splitAfter
  deriving DecidableEq, Repr

/-- The vehicle flags of a closing context (R101), REDUCED apart. -/
def Context.vehicleFlags (c : Context) (cause : CloseCause) (lock : Bool) (xs : List Axle) : BitVec 10 :=
  flagWhen (decide (cause = .truncated)) vehTruncated ||| flagWhen (decide (cause = .splitAfter)) vehSplitAfter
    ||| flagWhen c.splitBefore vehSplitBefore ||| flagWhen c.noLoop vehNoLoop ||| flagWhen c.stuckLoop vehStuckLoop
    ||| flagWhen (decide (12 < c.total)) vehAxleOverflow
    ||| flagWhen (xs.any fun x => hasFlag x.flags flagStraddle) vehStraddle
    ||| flagWhen (xs.any fun x => hasFlag x.flags flagLaneChange) vehLaneChange
    ||| flagWhen lock vehLocked

/-- The grade of a closing vehicle (R101). -/
def vehicleGrade (flags : BitVec 10) (rowA rowB : RowTemp) (xs : List Axle) : Grade :=
  let worst := xs.foldl (fun (g : Grade) x => g.worse (x.grade.getD .good)) Grade.good
  let g1 := if hasFlag flags (vehSplitBefore ||| vehSplitAfter ||| vehNoLoop ||| vehStuckLoop) then Grade.fair else .good
  let g2 :=
    if hasFlag flags (vehTruncated ||| vehAxleOverflow) || (rowA.degraded || rowB.degraded) then Grade.poor else .good
  (worst.worse g1).worse g2

/-- The first axle's row-B time in 1/16 tick (R106): its row-B centroid also where it has no speed (DESIGN CHOICE,
log 49). Without a row B part, D is the spacing of the axle's speed lane, as in R91 and R98; R106 names no lane
(DEDUCED, log 52). -/
def State.rowBTime (s : State) (x : Axle) : Option Nat :=
  match x.partB, x.partA, x.speed? with
  | some p, _, _ => some p.centroid
  | none, some p, some v => some (p.centroid + travelTime (s.spacing p) v)
  | _, _, _ => none

/-- The values of a closing vehicle with at least one axle (R98-R102): the closed vehicle and its class
entry. `held` are the axles after stage 2. -/
def State.closeValues (s : State) (lane : Lane) (c : Context) (cause : CloseCause) (held : List Axle) :
    ClosedVehicle × Option ClassEntry :=
  let order := s.finalOrder held
  let sp := spacings order
  let xs := order.map (·.2)
  let stored := (xs.zip (sp.map (·.getD 0))).take 12
  let gross := (xs.map (·.loads.load)).sum
  let flags := c.vehicleFlags cause s.cal.lock xs
  let grade := vehicleGrade flags s.temp.rows.a s.temp.rows.b xs
  let firstLoad := match xs with | [] => 0 | x :: _ => x.loads.load
  let entry := s.cls.active.find? fun e => e.fits c.total ((sp.take 12).drop 1) grade gross firstLoad
  ({ serial := c.serial, lane := lane, onset := c.onset, closeTick := s.clock, total := c.total, stored := stored,
     cls := (match entry with | some e => e.code | none => 0), gross := gross,
     heaviest := (xs.map (·.loads.load)).foldl max 0, length := (sp.map (·.getD 0)).sum,
     meanSpeed := (meanOwnSpeed xs).getD 0, grade := grade, flags := flags, rowA := s.temp.rows.a, rowB := s.temp.rows.b },
    entry)

/-- The reference offer of a closed vehicle whose class entry carries a reference (R106). -/
def ClosedVehicle.offer (v : ClosedVehicle) (idx target : Nat) : Offer :=
  { lane := v.lane, grade := v.grade, meanSpeed := v.meanSpeed, axle := (v.stored[idx - 1]?).map (·.1), target := target,
    rowA := v.rowA }

/-- Stage 8: the reference offer (R106). -/
def offerStage (v : ClosedVehicle) (entry : Option ClassEntry) (s : State) : State :=
  match entry with
  | some e =>
    match e.reference with
    | some (idx, target) => takeOffer (v.offer idx target) s
    | none => s
  | none => s

/-- The VEHICLE event of a closed vehicle (R106). -/
def ClosedVehicle.event (v : ClosedVehicle) (rowB : Option Nat) : VehicleEvent :=
  { serial := v.serial, lane := v.lane, cls := v.cls, gross := v.gross, heaviest := v.heaviest, grade := v.grade,
    meanSpeed := v.meanSpeed, flags := v.flags, rowB := rowB }

/-- Stages 9 and 10: the VEHICLE cascade and then the vehicle record, with the counters (R106, R107). -/
def recordStage (v : ClosedVehicle) (s : State) : State :=
  let rowB := match v.stored with | [] => none | p :: _ => s.rowBTime p.1
  let (s1, screened) := runCascade (.vehicle (v.event rowB)) s
  let s2 := createRecord .vehicle (vehicleWords v s1.cal.gen s1.cls.gen screened s1.recordReduced) s1
  { s2 with veh.vehicles := satInc s2.veh.vehicles, veh.axles := satAdd s2.veh.axles v.total }

/-- Stage 1: the WAITING axles of a context leave the row-A list (R48, R97). -/
def releaseWaiting (c : Context) (s : State) : State :=
  { s with axle.rowA := s.axle.rowA.filter fun w => !(c.axles.any fun x => decide (x.id = w.id)) }

/-- The held axles of a context after stages 1 and 2 of its close. -/
def State.closedAxles (s : State) (c : Context) : List Axle :=
  let xs := c.axles.map fun x => if x.stage = .waiting then x.single else x
  xs.map (s.closeOut xs)

/-- The stages of a close that give a record (R97, stages 1 to 10). -/
def closeStages (lane : Lane) (c : Context) (cause : CloseCause) (s : State) : State :=
  let s1 := releaseWaiting c s
  let (v, entry) := s1.closeValues lane c cause (s1.closedAxles c)
  recordStage v (offerStage v entry s1)

/-- A context closes (R97): with axles, by the stages; without, it is discarded. It leaves its slot,
the capture unit is told, and in DRAINING the drain is tested (R170). -/
def closeContext (lane : Lane) (slot : Slot) (cause : CloseCause) (s : State) : State :=
  match s.context lane slot with
  | none => s
  | some c =>
    testDrain (captureClosed c.serial (setContext lane slot none (if c.axles.isEmpty then s else closeStages lane c cause s)))

/-- The close test of a slot (R94, R95). -/
def closeTest (lane : Lane) (slot : Slot) (s : State) : State :=
  match s.context lane slot with
  | none => s
  | some c => if s.closeReady lane slot c then closeContext lane slot .normal s else s

/-- Every context closes TRUNCATED, lane by lane from L1, a lane's CLOSING context before its OPEN
one (R96). -/
def truncateAll (s : State) : State :=
  (indices 4).foldl
    (fun t lane => closeContext lane .openSlot .truncated (closeContext lane .closingSlot .truncated t)) s

/-! ### Loop events (R86, R87) -/

/-- A context opened by a loop onset. -/
def Context.onOnset (serial onset : Nat) : Context :=
  { serial := serial, onset := some onset, loopEnd := none, axles := [], total := 0, lastSpeed := none, closeDeadline := none,
    idleDeadline := none, lastJoin := 0, noLoop := false, stuckLoop := false, splitBefore := false }

/-- The OPEN context of a lane moves to the CLOSING slot, changed by `f`. -/
def moveToClosing (lane : Lane) (f : Context → Context) (s : State) : State :=
  match s.context lane .openSlot with
  | none => s
  | some c => setContext lane .openSlot none (setContext lane .closingSlot (some (f c)) s)

/-- A loop onset in RUNNING, QUIET or WAKING (R86). -/
def onsetContext (lane : Lane) (tick : Nat) (s : State) : State :=
  let s1 := if (s.context lane .openSlot).isSome then closeContext lane .closingSlot .truncated s else s
  let s2 := moveToClosing lane id s1
  let serial := nextSerial s2.veh.serial
  captureOpening lane serial
    (setContext lane .openSlot (some (Context.onOnset serial tick)) { s2 with veh.serial := serial })

/-- The change of an OPEN context at its loop end (R87, R94). -/
def State.atLoopEnd (s : State) (lane : Lane) (tick : Nat) (stuck : Bool) (c : Context) : Context :=
  { c with
    loopEnd := some tick
    closeDeadline := some (tickAdd tick (s.closeMargin lane c.lastSpeed))
    stuckLoop := c.stuckLoop || stuck }

/-- A loop end, ordinary or the STUCK expiry (R87). -/
def loopEndContext (lane : Lane) (tick : Nat) (stuck : Bool) (s : State) : State :=
  match s.context lane .openSlot with
  | none => closeTest lane .closingSlot s
  | some _ =>
    let s1 := match s.context lane .closingSlot with
      | none => s
      | some c => closeContext lane .closingSlot (if s.closeReady lane .closingSlot c then .normal else .truncated) s
    moveToClosing lane (s1.atLoopEnd lane tick stuck) s1

/-! ### Assignment (R88-R93) -/

/-- The row part an axle's lane set and reference time come from: row A if present (R44). -/
def Axle.leadPart (x : Axle) : Option RowAxle :=
  match x.partA with
  | some p => some p
  | none => x.partB

/-- A lane holds a context. -/
def State.laneHolds (s : State) (lane : Lane) : Bool :=
  (s.context lane .openSlot).isSome || (s.context lane .closingSlot).isSome

/-- The held axles of a lane, both contexts together. -/
def State.laneAxles (s : State) (lane : Lane) : List Axle :=
  (match s.context lane .closingSlot with | none => [] | some c => c.axles)
    ++ (match s.context lane .openSlot with | none => [] | some c => c.axles)

/-- The latest provisional row-A time of a list of axles. -/
def latestProv : List Axle → Option Int
  | [] => none
  | x :: rest => match latestProv rest with
    | some t => some (max x.prov t)
    | none => some x.prov

/-- A lane's onset tick for R88 step 3: its OPEN context's, or its CLOSING one's when it has no OPEN one. -/
def State.laneOnset (s : State) (lane : Lane) : Option Nat :=
  match s.context lane .openSlot with
  | some c => c.onset
  | none => match s.context lane .closingSlot with
    | some c => c.onset
    | none => none

/-- The primary lane of a straddle over `n` and the next lane (R88); true chooses the upper lane. -/
def State.straddleUpper (s : State) (n m : Lane) (ref : Int) : Bool :=
  match s.laneHolds n, s.laneHolds m with
  | true, false => false
  | false, true => true
  | false, false => false
  | true, true =>
    match latestProv (s.laneAxles n), latestProv (s.laneAxles m) with
    | some tn, some tm => decide ((ref - tm).natAbs < (ref - tn).natAbs)
    | some _, none => false
    | none, some _ => true
    | none, none =>
      match s.laneOnset n, s.laneOnset m with
      | some a, some b => decide (tickOffset s.clock b < tickOffset s.clock a)
      | _, _ => false

/-- The primary lane of an axle with lead part `p` (R88). -/
def State.primaryLane (s : State) (p : RowAxle) : Lane :=
  if p.straddle && s.straddleUpper p.lane (p.lane + 1) p.centroid then p.lane + 1 else p.lane

/-- The front reach in ticks (R89). -/
def State.frontReach (s : State) (lane : Lane) (hasA : Bool) (closing : Context) : Nat :=
  let g := s.site.geom.get lane
  roundDiv ((if hasA then g.dOA else g.dOA + g.d) * 8192) ((meanOwnSpeed closing.axles).getD s.axle.par.vmax)

/-- The slot of the primary lane an axle is assigned to, none when it finds no usable context (R89, R90). -/
def State.chooseSlot (s : State) (lane : Lane) (x : Axle) (ref : Nat) : Option Slot :=
  match s.context lane .openSlot, s.context lane .closingSlot with
  | none, none => none
  | none, some _ => if s.loopStuck lane && s.mayOpen then none else some .closingSlot
  | some _, none => some .openSlot
  | some o, some c =>
    match o.onset with
    | some t => if ref < 16 * (t + s.frontReach lane x.partA.isSome c) then some .closingSlot else some .openSlot
    | none => some .openSlot

/-- The provisional row-A time of an axle in a context with the given last speed (R91). -/
def State.provTime (s : State) (x : Axle) (lastSpeed : Option Nat) : Int :=
  match x.partA, x.partB with
  | some p, _ => p.centroid
  | none, some p => (p.centroid : Int) - travelTime (s.spacing p) (lastSpeed.getD s.axle.par.vmax)
  | none, none => 0

/-- An axle placed by provisional row-A time, equal times in order of assignment (R91). -/
def insertAxle (x : Axle) : List Axle → List Axle
  | [] => [x]
  | y :: rest => if y.prov ≤ x.prov then y :: insertAxle x rest else x :: y :: rest

/-- An axle joins a context: held while fewer than 32 are, and counted (R91, R95). -/
def State.joined (s : State) (x : Axle) (c : Context) : Context :=
  let y := { x with prov := s.provTime x c.lastSpeed }
  { c with
    axles := if c.axles.length < 32 then insertAxle y c.axles else c.axles
    total := satInc c.total
    lastJoin := s.clock
    idleDeadline := if c.noLoop then some (tickAdd s.clock (s.idleTime c.lastSpeed)) else c.idleDeadline }

/-- The split test (R93): the test spacing exceeds the split distance. -/
def State.splits (s : State) (x : Axle) (c : Context) : Bool :=
  s.mayOpen &&
    match c.lastSpeed, latestProv c.axles with
    | some v, some last =>
      let t := s.provTime x c.lastSpeed
      decide (last < t) && decide (s.veh.splitDist < roundDiv ((t - last).toNat * v) 131072)
    | _, _ => false

/-- The context a split opens in place of another (R93). -/
def Context.afterSplit (c : Context) (serial : Nat) : Context :=
  { serial := serial, onset := c.onset, loopEnd := c.loopEnd, axles := [], total := 0, lastSpeed := none,
    closeDeadline := c.closeDeadline, idleDeadline := none, lastJoin := 0, noLoop := c.noLoop, stuckLoop := c.stuckLoop,
    splitBefore := true }

/-- A context opened by an axle (R90). -/
def Context.onAxle (serial : Nat) (stuck : Bool) : Context :=
  { serial := serial, onset := none, loopEnd := none, axles := [], total := 0, lastSpeed := none, closeDeadline := none,
    idleDeadline := none, lastJoin := 0, noLoop := true, stuckLoop := stuck, splitBefore := false }

/-- A context opens in a slot with the next serial and one axle (R90, R93). -/
def openWithAxle (lane : Lane) (slot : Slot) (mk : Nat → Context) (x : Axle) (s : State) : State :=
  let serial := nextSerial s.veh.serial
  setContext lane slot (some (s.joined x (mk serial))) { s with veh.serial := serial }

/-- An axle joins the context of a slot, which splits first where the split test says so (R91, R93). No close test is
made at an assignment: a context a split leaves ready to close waits for CLOSE_DEADLINE (DESIGN CHOICE, log 53). -/
def joinSlot (lane : Lane) (slot : Slot) (x : Axle) (s : State) : State :=
  match s.context lane slot with
  | none => s
  | some c =>
    if s.splits x c then openWithAxle lane slot c.afterSplit x (closeContext lane slot .splitAfter s)
    else setContext lane slot (some (s.joined x c)) s

/-- An axle is handed to the Vehicle Assembler and assigned (R88-R93). In DRAINING one that finds no
context is discarded (R90). -/
def assignAxle (x : Axle) (s : State) : State :=
  match x.leadPart with
  | none => s
  | some p =>
    let lane := s.primaryLane p
    match s.chooseSlot lane x p.centroid with
    | some slot => joinSlot lane slot x s
    | none =>
      if s.mayOpen then openWithAxle lane .openSlot (fun n => Context.onAxle n (s.loopStuck lane)) x s else s

/-! ### Completion (R92) -/

/-- Where a held axle stands. -/
def State.findAxle (s : State) (id : Nat) : Option (Lane × Slot) :=
  (indices 4).findSome? fun lane =>
    [Slot.closingSlot, Slot.openSlot].findSome? fun slot =>
      match s.context lane slot with
      | some c => if c.axles.any (fun x => decide (x.id = id)) then some (lane, slot) else none
      | none => none

/-- A held axle is completed in place, its context's last speed and deadlines follow, and the close
test is made (R92). An axle that no context holds is dropped. -/
def completeAxle (id : Nat) (f : Axle → Axle) (s : State) : State :=
  match s.findAxle id with
  | none => s
  | some (lane, slot) =>
    match s.context lane slot with
    | none => s
    | some c =>
      let c' := { c with axles := c.axles.map fun x => if x.id = id then f x else x }
      closeTest lane slot (setContext lane slot (some (s.redeadline lane c')) s)

end Sys2Proof.Machine
end

