-- ==== Sys2Proof/Machine/Detect.lean ====
section
/-!
DEFINITION. From a sample frame to axles: sequence check and history (R12, R13, R33), channel units (R17-R28), row
hit lists (R30, R31), half pairing (R39-R42), and row matching (R43-R47).
-/

namespace Sys2Proof.Machine

/-! ### Channel units -/

/-- What a channel unit does with a frame: its new state, a hit closed with its end in LONG or not,
whether a hit was aborted, and whether it requests a wake. -/
structure ChanResult where
  st : ChanState
  closed : Option (OpenHit × Bool)
  aborted : Bool
  wake : Bool
  deriving DecidableEq, Repr

/-- Only a new state. -/
def ChanResult.to (st : ChanState) : ChanResult := { st := st, closed := none, aborted := false, wake := false }

/-- The whole-count baseline (R18). -/
def wholeBase (base : Nat) : Nat := roundDiv base 256

/-- The net sample of an offset sample (R18). -/
def netSample (base x : Nat) : Int := (x : Int) - wholeBase base

/-- One learning step (R19). -/
def learnBase (count base x : Nat) : Nat := if count = 0 then 256 * x else roundDiv (15 * base + 256 * x) 16

/-- One tracking step (R20). -/
def trackBase (base x : Nat) : Nat := roundDiv (255 * base + 256 * x) 256

/-- The learned baseline lies within -30,000..+30,000 in sample terms (R19). -/
def baseFits (base : Nat) : Bool := decide (2768 ≤ wholeBase base) && decide (wholeBase base ≤ 62768)

/-- A frame taken in LEARNING (R19). -/
def learnStep (count base x : Nat) : ChanState :=
  let b := learnBase count base x
  if 512 ≤ count + 1 then (if baseFits b then .idle b else .faulted b) else .learning (count + 1) b

/-- A joined frame's contribution (R24, R25). -/
def OpenHit.join (h : OpenHit) (tick : Nat) (net : Int) : OpenHit :=
  { h with last := tick, sum := h.sum + net, wsum := h.wsum + (tickSince tick h.start : Int) * net }

/-- The first candidate frame (R21, R26). -/
def OpenHit.first (run : RunState) (tick : Nat) (net : Int) (overR : Bool) : OpenHit :=
  { start := tick, last := tick, sum := net, wsum := 0, clipped := overR, gap := false, settling := decide (run = .waking) }

/-- CANDIDATE with a count, or HIT once the count reaches the on-count (R21). -/
def confirm (par : DetPar) (base : Nat) (h : OpenHit) (count : Nat) : ChanState :=
  if par.onCount ≤ count then .hit base h else .candidate base h count

/-- A frame taken in IDLE (R20, R21). -/
def idleStep (par : DetPar) (run : RunState) (tick : Nat) (overR : Bool) (base x : Nat) : ChanResult :=
  let net := netSample base x
  if (par.onThr : Int) ≤ net then
    (if run = .quiet then { st := .idle base, closed := none, aborted := false, wake := true }
    else .to (confirm par base (OpenHit.first run tick net overR) 1))
  else if run = .waking then .to (.idle base)
  else .to (.idle (trackBase base x))

/-- A frame taken in LONG (R23). -/
def longStep (par : DetPar) (base count : Nat) (net : Int) : ChanState :=
  if (par.offThr : Int) ≤ net then .long base 0
  else if par.offCount ≤ count + 1 then .idle base
  else .long base (count + 1)

/-- A hit closes, into IDLE (R22). -/
def closeIdle (base : Nat) (h : OpenHit) : ChanResult := { st := .idle base, closed := some (h, false), aborted := false, wake := false }

/-- TAIL with a count, or the close once the count reaches the off-count (R22). -/
def tailStep (par : DetPar) (base : Nat) (h : OpenHit) (ps pw : Int) (count : Nat) : ChanResult :=
  if par.offCount ≤ count then closeIdle base h else .to (.tail base h ps pw count)

/-- A frame handled by a channel unit once its finding has been applied (R19-R23). -/
def chanStep (par : DetPar) (run : RunState) (tick : Nat) (overR : Bool) (x : Nat) : ChanState → ChanResult
  | .off => .to .off
  | .faulted b => .to (.faulted b)
  | .learning c b => .to (learnStep c b x)
  | .idle b => idleStep par run tick overR b x
  | .long b c => .to (longStep par b c (netSample b x))
  | .candidate b h c =>
    let net := netSample b x
    if par.maxLen ≤ tickSince tick h.start then .to (longStep par b 0 net)
    else if (par.onThr : Int) ≤ net then .to (confirm par b ({ h with clipped := h.clipped || overR }.join tick net) (c + 1))
    else .to (.idle b)
  | .hit b h0 =>
    let net := netSample b x
    let h := { h0 with clipped := h0.clipped || overR }
    if par.maxLen ≤ tickSince tick h.start then
      { st := longStep par b 0 net, closed := some (h, true), aborted := false, wake := false }
    else if (par.offThr : Int) ≤ net then .to (.hit b (h.join tick net))
    else tailStep par b h net ((tickSince tick h.start : Int) * net) 1
  | .tail b h0 ps pw c =>
    let net := netSample b x
    let h := { h0 with clipped := h0.clipped || overR }
    if par.maxLen ≤ tickSince tick h.start then
      { st := longStep par b 0 net, closed := some (h, true), aborted := false, wake := false }
    else if (par.offThr : Int) ≤ net then
      .to (.hit b ({ h with sum := h.sum + ps, wsum := h.wsum + pw }.join tick net))
    else tailStep par b h (ps + net) (pw + (tickSince tick h.start : Int) * net) (c + 1)

/-- The open hit of a channel is lost: the channel returns to IDLE, and a hit in HIT or TAIL counts as
aborted (R27, R28, R29). -/
def ChanState.loseHit : ChanState → ChanState × Bool
  | .candidate b _ _ => (.idle b, false)
  | .hit b _ => (.idle b, true)
  | .tail b _ _ _ _ => (.idle b, true)
  | st => (st, false)

/-- A GAP marks an open hit (R27). -/
def ChanState.markGap : ChanState → ChanState
  | .candidate b h c => .candidate b { h with gap := true } c
  | .hit b h => .hit b { h with gap := true }
  | .tail b h ps pw c => .tail b { h with gap := true } ps pw c
  | st => st

/-- The finding of a frame applied to a channel, and whether a hit was aborted (R27, R28). -/
def applyFinding (f : Finding) (enabled : Bool) (st : ChanState) : ChanState × Bool :=
  match f with
  | .first => (if enabled then .learning 0 0 else st, false)
  | .inSequence => (st, false)
  | .gap _ => (st.markGap, false)
  | .broken => st.loseHit

/-- One channel's whole handling of a frame. -/
def chanFrame (par : DetPar) (run : RunState) (tick : Nat) (f : Finding) (enabled overR : Bool) (x : Nat) (st : ChanState) :
    ChanResult :=
  let (st1, lost) := applyFinding f enabled st
  let r := chanStep par run tick overR x st1
  { r with aborted := r.aborted || lost }

/-- The record of a closed hit, none when its exact sum is below 1 (R24-R26). -/
def OpenHit.record (chan : Chan) (h : OpenHit) (long : Bool) : Option Hit :=
  if h.sum < 1 then none
  else
    let term := if h.wsum < 0 then 0 else roundDiv (16 * h.wsum.toNat) h.sum.toNat
    some
      { chan := chan, start := h.start, last := h.last, area := min h.sum.toNat 2147483647,
        centroid := min (16 * h.start + term) (16 * h.last), clipped := h.clipped || decide (2147483647 < h.sum), gap := h.gap,
        long := long, settling := h.settling }

/-! ### Axles (R43-R47) -/

/-- A new axle of one row part. -/
def Axle.ofPart (id : Nat) (a b : Option RowAxle) (stage : AxleStage) (flags : AxleFlags) : Axle :=
  { id := id, partA := a, partB := b, stage := stage, own := none, borrowed := none, loads := Loads.zero, flags := flags,
    grade := none, prov := 0 }

/-- A row-A axle placed by centroid, equal centroids in order of entry (R43). -/
def insertWaiting (w : WaitingAxle) : List WaitingAxle → List WaitingAxle
  | [] => [w]
  | v :: rest => if v.part.centroid ≤ w.part.centroid then v :: insertWaiting w rest else w :: v :: rest

/-- The most the row-A list holds (R43). -/
def rowListMax : Nat := 16

/-- A row-A row axle enters the row-A list, the lowest being pushed out of seventeen, and is handed on
(R43, R44). -/
def enterRowA (p : RowAxle) (s : State) : State :=
  let id := s.veh.nextId
  let new : WaitingAxle := { id := id, part := p }
  let s1 := { s with veh.nextId := id + 1 }
  let waiting := Axle.ofPart id (some p) none .waiting p.flags
  let full := decide (rowListMax ≤ s.axle.rowA.length)
  match s.axle.rowA with
  | [] => assignAxle waiting { s1 with axle.rowA := [new] }
  | low :: rest =>
    if full && decide (p.centroid < low.part.centroid) then assignAxle waiting.single s1
    else if full then assignAxle waiting (completeAxle low.id Axle.single { s1 with axle.rowA := insertWaiting new rest })
    else assignAxle waiting { s1 with axle.rowA := insertWaiting new (low :: rest) }

/-- Two lane sets share a lane. -/
def lanesMeet (p q : RowAxle) : Bool := p.lanes.any fun a => q.lanes.any fun b => decide (a = b)

/-- A lane of one set differs by one from a lane of the other. -/
def lanesTouch (p q : RowAxle) : Bool := p.lanes.any fun a => q.lanes.any fun b => decide (absDiff a.val b.val = 1)

/-- The waiting row-A axle a row-B axle matches, and whether by the adjacent-lane pass (R46). -/
def State.findMatch (s : State) (p : RowAxle) : Option (WaitingAxle × Bool) :=
  match s.axle.rowA.find? (fun w => lanesMeet w.part p && s.inWindow w.part p.centroid) with
  | some w => some (w, false)
  | none =>
    match s.axle.rowA.find? (fun w => !lanesMeet w.part p && (lanesTouch w.part p && s.inWindow w.part p.centroid)) with
    | some w => some (w, true)
    | none => none

/-- The matched axle: row B part, own speed, loads, flags and grade (R46, R49, R58). -/
def State.matched (s : State) (w : WaitingAxle) (p : RowAxle) (change : Bool) (x : Axle) : Axle :=
  let v := s.ownSpeed w.part p.centroid
  { s.weigh v { x with partB := some p, own := some v, flags := x.flags ||| p.flags ||| flagWhen change flagLaneChange } with
    stage := .matched }

/-- A row-B row axle enters its list, is matched as it forms and leaves the list (R43, R46). -/
def matchRowB (p : RowAxle) (s : State) : State :=
  let s0 := { s with axle.rowB := (s.axle.rowB ++ [p]).erase p }
  match s0.findMatch p with
  | some (w, change) =>
    let s1 := { s0 with axle.rowA := s0.axle.rowA.filter fun u => u.id ≠ w.id }
    completeAxle w.id (s1.matched w p change) s1
  | none =>
    let id := s0.veh.nextId
    assignAxle (Axle.ofPart id none (some p) .singleRow (p.flags ||| flagSingleRow)) { s0 with veh.nextId := id + 1 }

/-- A row axle is formed and goes where its row takes it (R41, R42). Once a drain has ended within the
same frame nothing more is formed (R29, R48, R170). -/
def formRowAxle (p : RowAxle) (s : State) : State :=
  if s.run.measures then
    match p.row with
    | .a => enterRowA p s
    | .b => matchRowB p s
  else s

/-! ### Half pairing (R39-R42) -/

/-- The wheel a hit gives. -/
def Hit.wheel (h : Hit) : Wheel := { chan := h.chan, area := h.area }

/-- A held hit is a candidate for an offered one (R39). -/
def State.pairable (s : State) (h c : Hit) : Bool :=
  (decide (c.chan = otherHalf h.chan) || decide (boundaryNeighbour s.site.laneCount h.chan = some c.chan))
    && decide (absDiff c.centroid h.centroid ≤ 16 * s.axle.par.window)

/-- A candidate is preferred to another (R40): same lane, smaller difference, lower lane, lower centroid. -/
def preferred (h c d : Hit) : Bool :=
  let bc := decide (c.chan ≠ otherHalf h.chan)
  let bd := decide (d.chan ≠ otherHalf h.chan)
  let dc := absDiff c.centroid h.centroid
  let dd := absDiff d.centroid h.centroid
  if bc ≠ bd then !bc
  else if dc ≠ dd then decide (dc < dd)
  else if chanLane c.chan ≠ chanLane d.chan then decide (chanLane c.chan < chanLane d.chan)
  else decide (c.centroid < d.centroid)

/-- The partner chosen from the candidates (R40). -/
def choosePartner (h : Hit) : List Hit → Option Hit
  | [] => none
  | c :: rest => match choosePartner h rest with
    | none => some c
    | some d => if preferred h d c then some d else some c

/-- The paired row axle of two hits (R41). -/
def pairAxle (h c : Hit) : RowAxle :=
  let straddle := decide (chanLane h.chan ≠ chanLane c.chan)
  let hFirst := if straddle then decide (chanLane h.chan < chanLane c.chan) else !chanFar h.chan
  let near := if hFirst then h else c
  let far := if hFirst then c else h
  { row := chanRow h.chan, lane := chanLane near.chan, straddle := straddle, centroid := roundDiv (h.centroid + c.centroid) 2,
    near := some near.wheel, far := some far.wheel, clipped := h.clipped || c.clipped, gap := h.gap || c.gap,
    long := h.long || c.long, settling := h.settling || c.settling, oneWheel := false }

/-- The one-wheel row axle of a hit (R42). -/
def oneWheelAxle (h : Hit) : RowAxle :=
  { row := chanRow h.chan, lane := chanLane h.chan, straddle := false, centroid := h.centroid,
    near := if chanFar h.chan then none else some h.wheel, far := if chanFar h.chan then some h.wheel else none,
    clipped := h.clipped, gap := h.gap, long := h.long, settling := h.settling, oneWheel := true }

/-- A row's hit list is replaced. -/
def setHits (r : Row) (hs : List Hit) (s : State) : State := { s with det.hits := s.det.hits.set r hs }

/-- A hit held in its list is offered for pairing (R39, R40). -/
def offerHit (h : Hit) (s : State) : State :=
  let r := chanRow h.chan
  let held := s.det.hits.get r
  match choosePartner h (held.filter (s.pairable h)) with
  | none => s
  | some c => formRowAxle (pairAxle h c) (setHits r ((held.erase h).erase c) s)

/-- A hit placed by centroid, equal centroids in channel order (R30). -/
def insertHit (h : Hit) : List Hit → List Hit
  | [] => [h]
  | g :: rest =>
    if g.centroid < h.centroid ∨ (g.centroid = h.centroid ∧ g.chan ≤ h.chan) then g :: insertHit h rest else h :: g :: rest

/-- The most a row hit list holds (R31). -/
def hitListMax : Nat := 32

/-- A closed hit enters its row's list, the lowest of 33 being lost, and is offered (R30, R31). -/
def enterHit (h : Hit) (s : State) : State :=
  let r := chanRow h.chan
  let listed := insertHit h (s.det.hits.get r)
  if hitListMax < listed.length then
    match listed with
    | [] => s
    | low :: rest =>
      let s1 := setHits r rest { s with det.lost := satInc s.det.lost }
      if low = h then s1 else offerHit h s1
  else offerHit h (setHits r listed s)

/-- A row's hits whose window has passed at a time mark form one-wheel axles, in list order (R42). -/
def expireHits (r : Row) (t : Nat) (s : State) : State :=
  let gone := fun h : Hit => decide (h.centroid + 16 * s.axle.par.window < 16 * t)
  let held := s.det.hits.get r
  (held.filter gone).foldl (fun u h => formRowAxle (oneWheelAxle h) u) (setHits r (held.filter fun h => !gone h) s)

/-- A waiting row-A axle leaves the list unmatched and becomes single-row (R44, R47). -/
def expireAxle (w : WaitingAxle) (s : State) : State :=
  completeAxle w.id Axle.single { s with axle.rowA := s.axle.rowA.filter fun u => u.id ≠ w.id }

/-- Waiting row-A axles past their horizon expire at a time mark, in list order (R47). -/
def expireAxles (t : Nat) (s : State) : State :=
  (s.axle.rowA.filter fun w => decide (s.horizon w.part < 16 * t)).foldl (fun u w => expireAxle w u) s

/-- A time mark, in the three stages of R42. -/
def timeMark (t : Nat) (s : State) : State := expireAxles t (expireHits .b t (expireHits .a t s))

/-! ### Frames (R12-R14, R27-R33) -/

/-- The finding of a frame (R13). -/
def Link.finding (l : Link) (seq : BitVec 8) : Finding :=
  match l.ref with
  | none => .first
  | some (r, _) =>
    let k := (seq - r - 1).toNat
    if k = 0 then .inSequence else if k ≤ 8 then .gap k else .broken

/-- Whether a finding counts as a link gap (R13). -/
def Finding.counts : Finding → Bool
  | .gap _ => true
  | .broken => true
  | _ => false

/-- The receiver after a frame it accepts at a tick (R12-R14). -/
def Link.accept (l : Link) (seq : BitVec 8) (tick : Nat) : Link :=
  { ref := some (seq, tick), silence := some 0, fault := false, gaps := if (l.finding seq).counts then satInc l.gaps else l.gaps }

/-- A frame stored in the history, the oldest of more than 1,024 removed (R33). -/
def History.store (h : History) (tick : Nat) (f : Frame) (finding : Finding) : History :=
  { frames := ({ num := h.next, tick := tick, samples := f.samples, overRange := f.overRange, finding := finding } :: h.frames).take 1024
    next := h.next + 1 }

/-- The part wakes (R175), but not while a power-fail sequence is in progress (DESIGN CHOICE, log 42). -/
def wake (s : State) : State :=
  if s.run = .quiet ∧ s.powerIdle = true then { s with run := .waking, ctrl.settle := some (0, s.ctrl.settleCount) } else s

/-- What channel `c` does with a frame (R27). -/
def State.channelResult (s : State) (f : Frame) (finding : Finding) (c : Chan) : ChanResult :=
  chanFrame s.det.par s.run s.clock finding (s.site.enabled c) (f.overRange.get c) (offsetSample (f.samples.get c)) (s.det.chans.get c)

/-- A closed hit goes to its list, or is aborted where its sum is below 1 (R24, R30); once a drain has ended
within the same frame it is discarded uncounted, as the hits held are (R29, R170). -/
def settleHit (c : Chan) (r : ChanResult) (s : State) : State :=
  match r.closed with
  | none => s
  | some (h, long) =>
    if s.run.measures then
      match h.record c long with
      | some hit => enterHit hit s
      | none => { s with det.aborted := satInc s.det.aborted }
    else s

/-- The sixteen channel units take a frame; the hits it closes enter in channel order; then the frame's
tick is the time mark (R27, R30). -/
def detectFrame (f : Frame) (finding : Finding) (s : State) : State :=
  let rs := (indices 16).map fun c => (c, s.channelResult f finding c)
  let s1 :=
    { s with
      det.chans := rs.foldl (fun t p => t.set p.1 p.2.st) s.det.chans
      det.aborted := satAdd s.det.aborted (rs.countP fun p => p.2.aborted) }
  let s2 := if rs.any (fun p => p.2.wake) then wake s1 else s1
  timeMark s.clock (rs.foldl (fun u p => settleHit p.1 p.2 u) s2)

/-- A frame arrives (R12): ignored in DISABLED and POWER_FAIL; discarded in the tick of the frame last
accepted, that is with no tick elapsed since it, whatever a SET CLOCK has made of the stamps, and with the reference
not forgotten since by a disable, a power failure or a hard reset (DESIGN CHOICES, log 51); else accepted, stored and, in the measuring states, measured unless a power-fail sequence has stopped the Hit
Detector (R177 step 2). -/
def takeFrame (f : Frame) (s : State) : State :=
  if !s.run.works then s
  else if s.link.ref.isSome ∧ s.link.silence = some 0 then s
  else
    let finding := s.link.finding f.seq
    let s1 := { s with link := s.link.accept f.seq s.clock, history := s.history.store s.clock f finding }
    if s.run.measures ∧ s.powerIdle = true then detectFrame f finding s1 else s1

/-- Every open hit is lost (R28, R29). -/
def loseOpenHits (s : State) : State :=
  { s with
    det.chans := s.det.chans.map fun c => c.loseHit.1
    det.aborted := satAdd s.det.aborted (s.det.chans.items.countP fun c => c.loseHit.2) }

/-- The silence limit of R14. -/
def silenceLimit : Nat := 64

/-- The link is lost (R14, R28), when the silence timer has reached 64 ticks. -/
def loseLink (s : State) : State :=
  match s.link.silence with
  | some n =>
    if silenceLimit ≤ n then
      loseOpenHits { s with link := { ref := none, silence := none, fault := true, gaps := satInc s.link.gaps } }
    else s
  | none => s

/-- Both row hit lists are emptied and each hit counted lost (R29, at SET CLOCK). -/
def loseHitLists (s : State) : State :=
  { s with
    det.lost := satAdd s.det.lost (s.det.hits.a.length + s.det.hits.b.length)
    det.hits := { a := [], b := [] } }

/-- Every waiting row-A axle leaves its list as single-row (R48, at SET CLOCK). -/
def releaseRowA (s : State) : State := s.axle.rowA.foldl (fun u w => expireAxle w u) s

end Sys2Proof.Machine
end

