-- ==== Sys2Proof/Machine/Operands.lean ====
section
/-!
DEFINITION. Orders as they stand in an order page: kinds, lengths and parameter fields (10, 10.6; R183).
-/

namespace Sys2Proof.Machine

/-- The order kind of a code; the other codes are not order kinds (10, 10.6). -/
def OrderKind.ofCode : Nat → Option OrderKind
  | 0x01 => some .nop
  | 0x02 => some .setExchange
  | 0x10 => some .start
  | 0x11 => some .stop
  | 0x12 => some .halt
  | 0x13 => some .setClock
  | 0x14 => some .setQuiet
  | 0x15 => some .reportStatus
  | 0x20 => some .setSiteGeometry
  | 0x21 => some .setChannelMask
  | 0x30 => some .setDetection
  | 0x31 => some .capture
  | 0x32 => some .cancelCapture
  | 0x38 => some .setWeighing
  | 0x40 => some .setProbes
  | 0x41 => some .loadTemperatureCurve
  | 0x42 => some .selectBuiltInCurve
  | 0x43 => some .setTemperature
  | 0x50 => some .loadClassTable
  | 0x51 => some .selectBuiltInClassTable
  | 0x52 => some .setAssembly
  | 0x60 => some .setChannelFactors
  | 0x61 => some .setDrift
  | 0x62 => some .freezeDrift
  | 0x63 => some .resumeDrift
  | 0x64 => some .resetDrift
  | 0x65 => some .restoreDrift
  | 0x66 => some .reportCalibration
  | 0x67 => some .lockCalibration
  | 0x70 => some .setTrigger
  | 0x71 => some .setFieldLines
  | 0x72 => some .controlTriggers
  | _ => none

/-- What the length column of the order table says of a kind. -/
inductive OrderForm where
  | bare
  | fixed (len : Nat)
  | load
  deriving DecidableEq, Repr

/-- The length a kind takes (10, 10.6; R183). -/
def OrderKind.form : OrderKind → OrderForm
  | .nop => .bare
  | .setExchange => .fixed 4
  | .start => .bare
  | .stop => .bare
  | .halt => .bare
  | .setClock => .fixed 4
  | .setQuiet => .fixed 5
  | .reportStatus => .bare
  | .setSiteGeometry => .fixed 15
  | .setChannelMask => .fixed 3
  | .setDetection => .fixed 7
  | .capture => .fixed 5
  | .cancelCapture => .bare
  | .setWeighing => .fixed 8
  | .setProbes => .fixed 7
  | .loadTemperatureCurve => .load
  | .selectBuiltInCurve => .bare
  | .setTemperature => .fixed 12
  | .loadClassTable => .load
  | .selectBuiltInClassTable => .bare
  | .setAssembly => .fixed 3
  | .setChannelFactors => .fixed 18
  | .setDrift => .fixed 7
  | .freezeDrift => .bare
  | .resumeDrift => .bare
  | .resetDrift => .bare
  | .restoreDrift => .fixed 34
  | .reportCalibration => .bare
  | .lockCalibration => .bare
  | .setTrigger => .fixed 15
  | .setFieldLines => .fixed 3
  | .controlTriggers => .fixed 3

/-- How many parameter words the reader reads before the order is handed over: none for a kind without
parameters or a wrong length (log 26), the count of a LOAD, all of them otherwise. -/
def OrderKind.wanted (k : OrderKind) (len : Nat) : Nat :=
  match k.form with
  | .bare => 0
  | .fixed n => if len = n then n - 2 else 0
  | .load => if 3 ≤ len then 1 else 0

/-- The length agrees with the fixed length of a kind (R183). -/
def OrderKind.lengthOk (k : OrderKind) (len : Nat) : Bool :=
  match k.form with
  | .fixed n => decide (len = n)
  | _ => true

/-- The parameter word at an offset within the order, counting the header as words 0 and 1. -/
def param (ws : List Word) (offset : Nat) : Word := ws.getD (offset - 2) 0

/-- A parameter word as a number. -/
def paramNat (ws : List Word) (offset : Nat) : Nat := (param ws offset).toNat

/-- A parameter word as a signed number. -/
def paramInt (ws : List Word) (offset : Nat) : Int := (param ws offset).toInt

/-- Of fields given as position and value before and after clamping, the position of the first that was
clamped. -/
def firstClamped : List (Nat × Int × Int) → Option Nat
  | [] => none
  | (pos, before, after) :: rest => if before = after then firstClamped rest else some pos

/-- The first position of a list whose test fails. -/
def firstBad : List (Nat × Bool) → Option Nat
  | [] => none
  | (pos, ok) :: rest => if ok then firstBad rest else some pos

/-- The outcome of clamped fields: CLAMPED with the first position, or DONE (R159). -/
def clampOutcome (c : Option Nat) : OrderOutcome × Nat :=
  match c with
  | some pos => (.clamped, pos)
  | none => (.done, 0)

end Sys2Proof.Machine
end

