-- ==== Sys2Proof/Machine/Memory.lean ====
section
/-!
DEFINITION. Board memory of the exchange region as a canonical list of (address, byte), and the
layout of the region (R148). Words are little-endian (00_scope.md 4.1).
-/

namespace Sys2Proof.Machine

/-- The canonical form: addresses strictly rising, and no listed byte equal to what an unlisted
address reads as. -/
def Memory.wf : List Host.Cell → Bool
  | [] => true
  | [c] => c.2 != 0
  | c :: d :: rest => decide (c.1 < d.1) && (c.2 != 0 && Memory.wf (d :: rest))

/-- What an unlisted address reads as: 0. The manual gives board memory no contents before the host
writes it (DESIGN CHOICE, log 4). -/
def Memory.unlisted : Byte := 0

/-- The byte at an address. -/
def Memory.read : List Host.Cell → Nat → Byte
  | [], _ => Memory.unlisted
  | c :: rest, a => if c.1 = a then c.2 else Memory.read rest a

/-- A byte written at an address, keeping the canonical form. -/
def Memory.write : List Host.Cell → Nat → Byte → List Host.Cell
  | [], a, v => if v = Memory.unlisted then [] else [(a, v)]
  | c :: rest, a, v =>
    if a < c.1 then (if v = Memory.unlisted then c :: rest else (a, v) :: c :: rest)
    else if a = c.1 then (if v = Memory.unlisted then rest else (a, v) :: rest)
    else c :: Memory.write rest a v

/-- Byte `i` of a word, byte 0 the least significant. -/
def byteOf (w : Word) (i : Nat) : Byte := BitVec.ofNat 8 (w.toNat >>> (8 * i))

/-- A word written at a byte address, least significant byte first. -/
def Memory.writeWord (m : List Host.Cell) (a : Nat) (w : Word) : List Host.Cell :=
  Memory.write (Memory.write (Memory.write (Memory.write m a (byteOf w 0)) (a + 1) (byteOf w 1)) (a + 2) (byteOf w 2))
    (a + 3) (byteOf w 3)

/-- The word at a byte address. -/
def Memory.readWord (m : List Host.Cell) (a : Nat) : Word :=
  toWord ((Memory.read m a).toNat + 256 * (Memory.read m (a + 1)).toNat + 65536 * (Memory.read m (a + 2)).toNat
    + 16777216 * (Memory.read m (a + 3)).toNat)

/-- Words written from a byte address up. -/
def Memory.writeWords (m : List Host.Cell) (a : Nat) : List Word → List Host.Cell
  | [] => m
  | w :: rest => Memory.writeWords (Memory.writeWord m a w) (a + 4) rest

/-- `n` words read from a byte address up. -/
def Memory.readWords (m : List Host.Cell) (a : Nat) : Nat → List Word
  | 0 => []
  | n + 1 => Memory.readWord m a :: Memory.readWords m (a + 4) n

/-- Byte address of directory entry `i` (R148). The manual does not say what lies past the top of a
32-bit address; the model does not wrap (DESIGN CHOICE, log 19). -/
def entryAddr (base : Word) (i : Nat) : Nat := base.toNat + 16 * i

/-- Byte address of word `k` of page `i` (R148). -/
def pageWordAddr (base : Word) (i k : Nat) : Nat := base.toNat + 4096 + 4096 * i + 4 * k

end Sys2Proof.Machine
end

