-- ==== Sys2Proof/Machine/TraceWriter.lean ====
section
/-!
DEFINITION. The capture unit's trace writer: what it asks of the bus and what a completed access brings
about (R35-R38; 10, 10.5).
-/

namespace Sys2Proof.Machine

/-- The most frames a trace page holds (02, 2.10). -/
def traceMax : Nat := 508

/-- The four channels of a lane, in the order of the trace page. -/
def laneChan (lane : Lane) (k : Fin 4) : Chan := ⟨4 * lane.val + k.val, by omega⟩

/-- Word `k` of a frame in a trace page: row A, then row B; near in the low half (10, 10.5). -/
def frameWord (lane : Lane) (f : HistFrame) (k : Nat) : Word :=
  if k = 0 then
    toWord ((f.samples.get (laneChan lane 0)).toNat + put 16 (f.samples.get (laneChan lane 1)).toNat)
  else
    toWord ((f.samples.get (laneChan lane 2)).toNat + put 16 (f.samples.get (laneChan lane 3)).toNat)

/-- The over-range flags of a lane in a frame (R36). -/
def frameOver (lane : Lane) (f : HistFrame) : BitVec 4 :=
  BitVec.ofNat 4 (packFields 1 ((indices 4).map fun k => b2n (f.overRange.get (laneChan lane k))))

/-- The header of a trace page (10, 10.5). -/
def traceHeader (c : CaptureRun) (pg : TracePage) : List Nat :=
  let first := match pg.ticks with | some (t, _) => t | none => 0
  let last := match pg.ticks with | some (_, t) => t | none => 0
  [ c.number + put 16 pg.seq, c.serial, tickLow first, tickLow last, pg.frames + put 16 pg.pre,
    c.lane.val + 1 + put 4 (b2n pg.discontinuous) + put 8 pg.overRange.toNat + put 16 pg.reason.code,
    tickHigh first + put 16 (tickHigh last), 0 ]

/-- The entry of a page just taken for filling (R149). -/
def fillingEntry (role : Nat) : DirEntry :=
  { state := dirFilling, role := role, flags := 0, used := 0, closure := 0, first := 0, count := 0 }

/-- The closure serial the next close receives (R157). -/
def State.nextClosure (s : State) : Word := toWord (s.ex.closures + 1)

/-- The CLOSED entry of a trace page (R157); a close at a resumption adds DAMAGED and what was noted (R164). -/
def State.traceEntry (s : State) (c : CaptureRun) (pg : TracePage) : DirEntry :=
  { state := dirClosed, role := roleTrace,
    flags := flagWhen (decide (pg.frames = traceMax)) dirFull ||| pg.reason.dirFlag
      ||| flagWhen c.broken (dirDamaged ||| c.noted)
    used := 8 + 2 * pg.frames, closure := s.nextClosure, first := 0, count := toWord pg.frames }

/-- What the trace writer asks of the bus. -/
def State.traceRequest (s : State) : Option Access :=
  match s.cap.st with
  | .capturing c =>
    match c.page with
    | none => none
    | some pg =>
      match pg.phase with
      | .takeEntry => some (.write (entryAddr s.regs.xbase pg.page) (fillingEntry roleTrace).words)
      | .rest => none
      | .frame f k => some (.write (pageWordAddr s.regs.xbase pg.page (8 + 2 * pg.frames + k)) [frameWord c.lane f k])
      | .header k => some (.write (pageWordAddr s.regs.xbase pg.page k) [toWord ((traceHeader c pg).getD k 0)])
      | .closeEntry => some (.write (entryAddr s.regs.xbase pg.page) (s.traceEntry c pg).words)
  | _ => none

/-- The oldest arrival number the history holds, or the next one when it is empty (R33). -/
def History.oldest (h : History) : Nat := h.next - h.frames.length

/-- The frame with an arrival number. -/
def History.frame? (h : History) (num : Nat) : Option HistFrame := h.frames.find? fun f => decide (f.num = num)

/-- A page begins to close with an end reason. -/
def TracePage.beginClose (pg : TracePage) (r : EndReason) : TracePage := { pg with phase := .header 0, reason := r }

/-- A copy position that has left the history moves to the oldest frame held (R36). -/
def CaptureRun.catchUp (c : CaptureRun) (pg : TracePage) (h : History) : CaptureRun × TracePage :=
  if c.pos < h.oldest then ({ c with pos := h.oldest }, { pg with discontinuous := true }) else (c, pg)

/-- The frame at the copy position is copied once it is held; a full page makes way for another page, or
ends the capture TRUNCATED where none is lent (R36). Frames up to the end point of a CLOSE that find no page
make the end TRUNCATED (DESIGN CHOICE, log 17). -/
def CaptureRun.copy (c : CaptureRun) (pg : TracePage) (h : History) (lent : Bool) : CaptureRun :=
  match h.frame? c.pos with
  | none => { c with page := some pg }
  | some f =>
    if pg.frames < traceMax then { c with page := some { pg with phase := .frame f 0 } }
    else if lent then { c with page := some (pg.beginClose .none) }
    else { c with stop := some (c.pos, .truncated), page := some (pg.beginClose .truncated) }

/-- The capture may take up its next work: its page is at rest, or copies a frame that has left the history
(R36). A frame half written is given up too; while a page is being closed the position stands, and DISCONTINUOUS then
goes to the page taken next (DESIGN CHOICES, log 47). -/
def CaptureRun.mayGoOn (c : CaptureRun) (pg : TracePage) (h : History) : Bool :=
  match pg.phase with
  | .rest => true
  | .frame _ _ => decide (c.pos < h.oldest)
  | _ => false

/-- The next work of a capture whose page is at rest (R36, R37). -/
def CaptureRun.next (c : CaptureRun) (pg : TracePage) (h : History) (lent : Bool) : CaptureRun :=
  let (c1, pg1) := c.catchUp pg h
  match c1.stop with
  | some (n, r) =>
    if n ≤ c1.pos then { c1 with page := some (pg1.beginClose r) } else c1.copy pg1 h lent
  | none => c1.copy pg1 h lent

/-- The trace writer takes up its next work (R36). Not during a bus fault, nor in a capture that the
resumption ends (R38, R164). -/
def advanceTrace (s : State) : State :=
  match s.cap.st with
  | .capturing c =>
    match c.page with
    | none => s
    | some pg =>
      if c.mayGoOn pg s.history = true ∧ s.regs.busFault = false ∧ c.broken = false then
        { s with cap.st := .capturing (c.next { pg with phase := .rest } s.history (!s.ex.traceList.isEmpty)) }
      else s
  | _ => s

/-- The page after a frame has been written (R36). -/
def TracePage.copied (pg : TracePage) (c : CaptureRun) (f : HistFrame) : TracePage :=
  { pg with
    frames := pg.frames + 1
    pre := pg.pre + b2n (decide (f.num < c.opened))
    ticks := match pg.ticks with
      | some (t, _) => some (t, f.tick)
      | none => some (f.tick, f.tick)
    discontinuous := pg.discontinuous || (decide (c.written ≠ 0) && decide (f.finding ≠ .inSequence))
    overRange := pg.overRange ||| frameOver c.lane f
    phase := .rest }

/-- The capture after a frame has been written; at the m-th frame its end is LIMIT (R37). -/
def CaptureRun.copied (c : CaptureRun) (pg : TracePage) (f : HistFrame) : CaptureRun :=
  { c with
    pos := c.pos + 1
    written := c.written + 1
    stop := if c.stop.isNone ∧ c.maxFrames ≤ c.written + 1 then some (c.pos + 1, .limit) else c.stop
    page := some (pg.copied c f) }

/-- The steps of a page's close that follow its entry write (R157): the serial is consumed, SERIAL and
PAGE_CLOSED are set, the page is the host's. -/
def pageClosed (p : Page) (s : State) : State :=
  { s with
    ex.closures := s.ex.closures + 1
    regs.serial := s.nextClosure
    regs.pageClosed := true
    ex.table := s.ex.table.set p .notMine }

/-- The close of a trace page is complete: the capture ends, or after end reason NONE goes on in the page
at the head of the trace empty list (R36, R37). -/
def traceClosed (c : CaptureRun) (pg : TracePage) (s : State) : State :=
  let s1 := pageClosed pg.page s
  if pg.reason = .none then
    match s1.ex.traceList with
    | [] => { s1 with cap.st := .idle }
    | p :: rest =>
      { s1 with
        cap.st := .capturing { c with page := some (TracePage.taken p (pg.seq + 1)) }
        ex.traceList := rest
        ex.table := s1.ex.table.set p .filling }
  else { s1 with cap.st := .idle }

/-- An access of the trace writer has completed. -/
def completeTrace (s : State) : State :=
  match s.cap.st with
  | .capturing c =>
    match c.page with
    | none => s
    | some pg =>
      match pg.phase with
      | .takeEntry => { s with cap.st := .capturing { c with page := some { pg with phase := .rest } } }
      | .rest => s
      | .frame f 0 => { s with cap.st := .capturing { c with page := some { pg with phase := .frame f 1 } } }
      | .frame f _ => { s with cap.st := .capturing (c.copied pg f) }
      | .header k =>
        { s with cap.st := .capturing { c with page := some { pg with phase := if k < 7 then .header (k + 1) else .closeEntry } } }
      | .closeEntry => traceClosed c pg s
  | _ => s

/-- A bus error stops the trace writer (R38, R163). `own` says that its own access failed: a page whose entry
write FILLING failed goes back to the head of its list; any other page stays FILLING, its work given up. -/
def faultTrace (own : Bool) (s : State) : State :=
  match s.cap.st with
  | .capturing c =>
    match c.page with
    | none => s
    | some pg =>
      if own = true ∧ pg.phase = .takeEntry then
        { s with
          cap.st := .capturing { c with page := none }
          ex.traceList := pg.page :: s.ex.traceList
          ex.table := s.ex.table.set pg.page .queuedTrace }
      else { s with cap.st := .capturing { c with page := some { pg with phase := .rest } } }
  | _ => s

/-- Step 2 of a resumption: the filling trace page closes with the end reason first taken during the
fault, or BUS_FAULT; without a page the capture ends (R38, R164). -/
def resumeTrace (c : CaptureRun) (s : State) : State :=
  match c.page with
  | none => { s with cap.st := .idle }
  | some pg =>
    if pg.phase = .rest then
      { s with cap.st := .capturing { c with page := some (pg.beginClose (c.faultEnd.getD .busFault)) } }
    else s

end Sys2Proof.Machine
end

