-- ==== Sys2Proof/Machine/Exchange.lean ====
section
/-!
DEFINITION. The Exchange Unit: what each requester asks of the bus, what a completed access and a bus
error bring about, and the sweeper (08). Every access is made by a later completion (R162, log 7).
-/

namespace Sys2Proof.Machine

/-- A time in ms as ticks (R165). -/
def msTicks (ms : Nat) : Nat := roundDiv (ms * 8192) 1000

/-! ### The Record Writer's pages (R155-R157, R182) -/

/-- The words of a page (R148). -/
def pageWords : Nat := 1024

/-- A record fits the filling page (R156, R182). -/
def ResultPage.fits (p : ResultPage) (r : Rec) : Bool :=
  decide (p.used + r.words.length ≤ pageWords) && decide (r.serial - p.first.getD r.serial < 1024)

/-- The CLOSED entry of a result page (R157). -/
def State.resultEntry (s : State) (p : ResultPage) : DirEntry :=
  { state := dirClosed, role := roleResult, flags := p.closeWith.getD 0, used := p.used, closure := s.nextClosure,
    first := toWord (p.first.getD 0), count := toWord p.count }

/-- A result page just taken (R155). -/
def ResultPage.fresh (p : Page) (tick : Nat) : ResultPage :=
  { page := p, taken := tick, header := [], used := 4, count := 0, first := none, flush := none, closeWith := none, noted := 0,
    phase := .takeEntry }

/-- The page at the head of the result empty list is taken and counted, its entry still to be written (R150,
R155). -/
def takeResultHead (s : State) : State :=
  match s.ex.resultList with
  | [] => s
  | p :: rest =>
    { s with
      rw.page := some (ResultPage.fresh p s.clock)
      rw.pages := s.rw.pages + 1
      ex.resultList := rest
      ex.table := s.ex.table.set p .filling }

/-- What the Record Writer asks of the bus. -/
def State.writerRequest (s : State) : Option Access :=
  match s.rw.page with
  | none => none
  | some p =>
    match p.phase with
    | .takeEntry => some (.write (entryAddr s.regs.xbase p.page) (fillingEntry roleResult).words)
    | .header k => some (.write (pageWordAddr s.regs.xbase p.page k) [p.header.getD k 0])
    | .rest => none
    | .record k =>
      match s.rw.queue with
      | [] => none
      | r :: _ => some (.write (pageWordAddr s.regs.xbase p.page (p.used + k)) [r.words.getD k 0])
    | .closeEntry => some (.write (entryAddr s.regs.xbase p.page) (s.resultEntry p).words)

/-- The power-fail sequence has reached the placing of records (R177, step 5). -/
def State.placing (s : State) : Bool :=
  match s.ctrl.power with
  | none => true
  | some q =>
    !q.closing && (decide (q.placed < 16) && (s.ex.taken.isNone && !s.capturing))

/-- The writer takes up its next work when its page is at rest: a close asked for, the record at the
head of the queue, or a close with FULL when that record does not fit (R156, R157). A record's writing has
begun when its first word is requested (DESIGN CHOICE, log 43). -/
def advanceWriter (s : State) : State :=
  match s.rw.page with
  | none => s
  | some p =>
    if p.phase = .rest ∧ s.regs.busFault = false ∧ s.ex.resuming = false then
      if p.closeWith.isSome then { s with rw.page := some { p with phase := .closeEntry } }
      else match s.rw.queue with
        | [] => s
        | r :: _ =>
          if s.placing = false then s
          else if p.fits r then { s with rw.page := some { p with phase := .record 0 }, rw.pinned := true }
          else { s with rw.page := some { p with closeWith := some dirFull, phase := .closeEntry } }
    else s

/-- The page header, composed once the entry is written FILLING: the two lost counts are cleared (R155). -/
def composeHeader (p : ResultPage) (s : State) : State :=
  { s with
    rw.headerVehicle := 0
    rw.headerOther := 0
    rw.page := some
      { p with
        header := [toWord s.rw.pages, toWord s.rw.headerVehicle, toWord s.rw.headerOther, toWord (tickLow p.taken)]
        phase := .header 0 } }

/-- The record at the head of the queue has been placed (R156). -/
def ResultPage.placed (p : ResultPage) (r : Rec) (flushMs : Nat) : ResultPage :=
  { p with
    used := p.used + r.words.length
    count := p.count + 1
    first := some (p.first.getD r.serial)
    flush := if p.first.isNone then some (0, msTicks flushMs) else p.flush
    phase := .rest }

/-- An access of the Record Writer has completed. -/
def completeWriter (s : State) : State :=
  match s.rw.page with
  | none => s
  | some p =>
    match p.phase with
    | .takeEntry => composeHeader p s
    | .header k => { s with rw.page := some { p with phase := if k < 3 then .header (k + 1) else .rest } }
    | .rest => s
    | .record k =>
      match s.rw.queue with
      | [] => s
      | r :: rest =>
        if k + 1 < r.words.length then { s with rw.page := some { p with phase := .record (k + 1) } }
        else
          { s with
            rw.queue := rest
            rw.pinned := false
            rw.page := some (p.placed r s.ex.flushMs)
            ctrl.power := s.ctrl.power.map fun q => { q with placed := q.placed + 1 } }
    | .closeEntry => raiseNoPage { pageClosed p.page s with rw.page := none }

/-- A bus error stops the Record Writer (R163). `own` says that its own access failed: a take so failed is
undone, the page at the head of its list and uncounted, and a close so failed leaves no trace. A close still
waiting, or asked for again by a resumption, is noted against the page with its flag (DESIGN CHOICE, log 45). -/
def faultWriter (own : Bool) (s : State) : State :=
  match s.rw.page with
  | none => s
  | some p =>
    if own = true ∧ p.phase = .takeEntry then
      { s with
        rw.page := none
        rw.pages := s.rw.pages - 1
        ex.resultList := p.page :: s.ex.resultList
        ex.table := s.ex.table.set p.page .queuedResult }
    else
      let failedClose := own && (decide (p.phase = .closeEntry) && !s.ex.resuming)
      { s with
        rw.page := some
          { p with
            phase := .rest
            closeWith := none
            noted := p.noted ||| (if failedClose then 0 else (p.closeWith.getD 0) &&& ~~~(dirFull ||| dirDamaged)) } }

/-! ### The order reader (R158-R161) -/

/-- The word offset of the header of the order in hand, as a bus address. -/
def State.orderAddr (s : State) (t : OrderPage) (k : Nat) : Nat := pageWordAddr s.regs.xbase t.page (t.off + k)

/-- The entry of an order page written with a state (R149): the other fields as read. -/
def DirEntry.as (e : DirEntry) (state : Nat) : DirEntry := { e with state := state }

/-- The ANSWERED entry (R160, R161, R164). -/
def OrderPage.answered (t : OrderPage) : DirEntry :=
  { t.entry.as dirAnswered with count := toWord t.outcomes, flags := t.flags }

/-- An outcome word (10, 10.6). -/
def outcomeWord (o : OrderOutcome) (detail : Nat) : Word := toWord (o.code + put 16 detail)

/-- What the order reader asks of the bus. -/
def State.readerRequest (s : State) : Option Access :=
  match s.ex.taken with
  | none => none
  | some t =>
    match t.phase with
    | .firstHeader => some (.read (s.orderAddr t 0) 1)
    | .refuse => some (.write (entryAddr s.regs.xbase t.page) (t.entry.as dirRefused).words)
    | .takeEntry _ => some (.write (entryAddr s.regs.xbase t.page) (t.entry.as dirTaken).words)
    | .header => some (.read (s.orderAddr t 0) 1)
    | .params _ _ _ got => some (.read (s.orderAddr t (2 + got.length)) 1)
    | .ready _ _ _ => none
    | .loading _ _ params => some (.read (s.orderAddr t (2 + params.length)) 1)
    | .loaded _ _ _ => none
    | .holding _ => none
    | .outcome _ o detail _ => some (.write (s.orderAddr t 1) [outcomeWord o detail])
    | .answer => some (.write (entryAddr s.regs.xbase t.page) t.answered.words)
    | .halted => none

/-- The length field of an order header (10, 10.6). -/
def headerLen (w : Word) : Nat := field w 16 11

/-- What the reader does with an order's header (R159; R161 for a page being abandoned). -/
def OrderPage.dispatch (t : OrderPage) (w : Word) : ReadPhase :=
  let len := headerLen w
  if len < 2 ∨ t.entry.used < t.off + len then
    (if t.off + 1 < t.entry.used then .outcome len .malformed 0 true else .answer)
  else if t.abandon then .outcome len .abandoned 0 false
  else match OrderKind.ofCode (field w 0 8) with
    | none => .outcome len .unknownKind 0 false
    | some k => if k.wanted len = 0 then .ready k len [] else .params k len (k.wanted len) []

/-- The page is refused: its region length is outside 2-1,024 or its first order's length is 0 (R158). -/
def OrderPage.refused (t : OrderPage) (w : Word) : Bool :=
  decide (t.entry.used < 2) || (decide (pageWords < t.entry.used) || decide (headerLen w = 0))

/-- The taken page's reader goes to a phase. -/
def setReader (ph : ReadPhase) (s : State) : State := { s with ex.taken := s.ex.taken.map fun t => { t with phase := ph } }

/-- The order page is the host's again: ORDER_ANSWERED is set (R158, R160). -/
def releaseOrderPage (p : Page) (s : State) : State :=
  { s with ex.taken := none, ex.table := s.ex.table.set p .notMine, regs.orderAnswered := true }

/-- The reader after an outcome has been written (R159, R160). -/
def OrderPage.afterOutcome (t : OrderPage) (len : Nat) (final : Bool) : OrderPage :=
  if final then { t with outcomes := t.outcomes + 1, phase := .answer }
  else
    { t with
      outcomes := t.outcomes + 1
      off := t.off + len
      phase := if t.off + len = t.entry.used then .answer else .header }

/-- An inline word of a LOAD is gathered in its shadow (R76, R104). -/
def gather (k : OrderKind) (w : Word) (s : State) : State :=
  if k = .loadTemperatureCurve then { s with temp.shadow := s.temp.shadow.map (· ++ [w]) }
  else { s with cls.shadow := s.cls.shadow.map (· ++ [w]) }

/-- An access of the order reader has completed with the words read. A page abandoned while its first header was being
read is refused like any other where R158 refuses it, with no flag (DESIGN CHOICE, log 44). -/
def completeReader (ws : List Word) (s : State) : State :=
  let w := ws.getD 0 0
  match s.ex.taken with
  | none => s
  | some t =>
    match t.phase with
    | .firstHeader => setReader (if t.refused w then .refuse else .takeEntry w) s
    | .refuse => releaseOrderPage t.page s
    | .takeEntry h => setReader (t.dispatch h) s
    | .header => setReader (t.dispatch w) s
    | .params k len want got =>
      setReader (if got.length + 1 < want then .params k len want (got ++ [w]) else .ready k len (got ++ [w])) s
    | .loading k len params =>
      setReader (if params.length + 1 < len - 2 then .loading k len (params ++ [w]) else .loaded k len (params ++ [w]))
        (gather k w s)
    | .outcome len _ _ final => { s with ex.taken := some (t.afterOutcome len final) }
    | .answer => releaseOrderPage t.page s
    | .ready _ _ _ => s
    | .loaded _ _ _ => s
    | .holding _ => s
    | .halted => s

/-- The shadows of a LOAD in the making are dropped (R76, R104). -/
def dropShadows (s : State) : State := { s with temp.shadow := none, cls.shadow := none }

/-- The page's entry is being written TAKEN or REFUSED. -/
def ReadPhase.taking : ReadPhase → Bool
  | .refuse => true
  | .takeEntry _ => true
  | _ => false

/-- A bus error stops the order reader (R163). `own` says that its own access failed: a page whose entry
write TAKEN or REFUSED failed stands again at the head of its list; otherwise the page stays TAKEN and the
reader halts, a LOAD dropping its shadow. -/
def faultReader (own : Bool) (s : State) : State :=
  match s.ex.taken with
  | none => s
  | some t =>
    if own = true ∧ t.phase.taking = true then
      { s with
        ex.taken := none
        ex.orderList := (t.page, t.entry) :: s.ex.orderList
        ex.table := s.ex.table.set t.page .queuedOrder }
    else setReader .halted (dropShadows s)

/-- The page at the head of the order page list is taken (R158). -/
def takeOrderHead (s : State) : State :=
  match s.ex.orderList with
  | [] => s
  | (p, e) :: rest =>
    { s with
      ex.taken := some { page := p, entry := e, off := 0, outcomes := 0, abandon := false, flags := 0, phase := .firstHeader }
      ex.orderList := rest
      ex.table := s.ex.table.set p .taken }

/-- The TAKEN order page is abandoned with a flag (R161): the order in flight gets ABANDONED, later orders
follow as their headers are read. During a bus fault, and in a resumption too (DESIGN CHOICE, log 45), the flag is
only noted (R163, R164). A page whose REFUSED entry write waits stays refused, with no flag (DESIGN CHOICE, log 44).
One abandoned for RESTART and again for POWER_FAIL is answered with both flags (DESIGN CHOICE, log 54). -/
def abandonOrders (f : BitVec 6) (s : State) : State :=
  match s.ex.taken with
  | none => s
  | some t =>
    if s.regs.busFault || s.ex.resuming then { s with ex.taken := some { t with flags := t.flags ||| f } }
    else
      match t.phase with
      | .refuse => s
      | _ =>
        fixOutcome .abandoned 0
          (dropShadows { s with ex.taken := some { t with flags := t.flags ||| f, abandon := true } })

/-! ### The directory sweeper (R151, R152) -/

/-- What the sweeper asks of the bus. -/
def State.sweeperRequest (s : State) : Option Access :=
  match s.ex.work with
  | none => none
  | some (.readEntry p _) => some (.read (entryAddr s.regs.xbase p) 4)
  | some (.refuse p e _) => some (.write (entryAddr s.regs.xbase p) (e.as dirRefused).words)

/-- A stray handover is counted (R151). -/
def countStray (s : State) : State := { s with ex.stray := satInc s.ex.stray }

/-- A handover is handled: its index pends no longer (R151). -/
def Exchange.handled (x : Exchange) (p : Page) (handover : Bool) : List Page :=
  if handover then x.handovers.erase p else x.handovers

/-- An entry read for a handover or a sweep is handled (R151, R152); one to be refused is handled once it is
written REFUSED. -/
def takeEntryRead (p : Page) (handover : Bool) (e : DirEntry) (s : State) : State :=
  let s1 := { s with ex.work := none, ex.handovers := s.ex.handled p handover }
  if e.state = dirGiven ∧ e.role = roleResult then
    { s1 with ex.resultList := s.ex.resultList ++ [p], ex.table := s.ex.table.set p .queuedResult }
  else if e.state = dirGiven ∧ e.role = roleTrace then
    { s1 with ex.traceList := s.ex.traceList ++ [p], ex.table := s.ex.table.set p .queuedTrace }
  else if e.state = dirPosted ∧ e.role = roleOrder then
    { s1 with ex.orderList := s.ex.orderList ++ [(p, e)], ex.table := s.ex.table.set p .queuedOrder }
  else if e.state = dirGiven ∨ e.state = dirPosted then { s with ex.work := some (.refuse p e handover) }
  else if handover then countStray s1
  else s1

/-- An access of the sweeper has completed with the words read. -/
def completeSweeper (ws : List Word) (s : State) : State :=
  match s.ex.work with
  | none => s
  | some (.readEntry p handover) => takeEntryRead p handover (DirEntry.ofWords ws) s
  | some (.refuse p _ handover) =>
    { s with ex.work := none, ex.handovers := s.ex.handled p handover, regs.orderAnswered := true }

/-- The first page from an index on that the page table holds NOT_MINE (R152). -/
def State.nextSwept (s : State) (i : Nat) : Option Page :=
  (indices 64).find? fun p => decide (i ≤ p.val) && decide (s.ex.table.get p = .notMine)

/-- The sweep takes its next entry, behind the pending handovers, or ends and starts its timer (R152). -/
def advanceSweeper (s : State) : State :=
  match s.ex.sweepAt, s.ex.work with
  | some i, none =>
    if s.exchangeFree then
      match s.nextSwept i with
      | some p =>
        if s.ex.handovers.isEmpty then { s with ex.work := some (.readEntry p false), ex.sweepAt := some (p.val + 1) } else s
      | none => { s with ex.sweepAt := none, ex.sweepTimer := some (0, msTicks s.ex.sweepMs) }
    else s
  | _, _ => s

/-- A sweep starts (R152). -/
def startSweep (s : State) : State := { s with ex.sweepAt := some 0, ex.sweepTimer := none }

/-- Handovers, sweep and sweep timer stop; pending handovers are dropped (R152, R163, R177). -/
def stopSweeper (s : State) : State := { s with ex.work := none, ex.sweepAt := none, ex.sweepTimer := none, ex.handovers := [] }

/-! ### The arbiter (R162) -/

/-- What a requester asks of the bus. -/
def State.request (s : State) : Requester → Option Access
  | .recordWriter => s.writerRequest
  | .traceWriter => s.traceRequest
  | .orderReader => s.readerRequest
  | .sweeper => s.sweeperRequest

/-- The highest requester that waits. -/
def State.highest (s : State) : Option Requester :=
  if s.writerRequest.isSome then some .recordWriter
  else if s.traceRequest.isSome then some .traceWriter
  else if s.readerRequest.isSome then some .orderReader
  else if s.sweeperRequest.isSome then some .sweeper
  else none

/-- A free port is granted to the highest requester that waits (R162). A grant whose request has been
given up frees the port (DESIGN CHOICE, log 8). -/
def arbitrate (s : State) : State :=
  match s.ex.grant with
  | some r => if (s.request r).isSome then s else { s with ex.grant := s.highest }
  | none => { s with ex.grant := s.highest }

/-- The effect of a completed access on board memory, and the words it reads: those the bus returned,
or the memory's own where it returned fewer (log 3). -/
def Access.perform (data : List Word) (m : List Host.Cell) : Access → List Host.Cell × List Word
  | .write a ws => (Memory.writeWords m a ws, [])
  | .read a n =>
    let m1 := Memory.writeWords m a (data.take n)
    (m1, Memory.readWords m1 a n)

/-- The requester of a completed access goes on with its work. -/
def completeFor (r : Requester) (ws : List Word) (s : State) : State :=
  match r with
  | .recordWriter => completeWriter s
  | .traceWriter => completeTrace s
  | .orderReader => completeReader ws s
  | .sweeper => completeSweeper ws s

/-! ### Bus fault and resumption (R163, R164) -/

/-- A bus error on the access granted (R163). -/
def takeBusError (r : Requester) (s : State) : State :=
  let s1 :=
    faultReader (decide (r = .orderReader)) (faultTrace (decide (r = .traceWriter)) (faultWriter (decide (r = .recordWriter)) s))
  let s2 := stopSweeper s1
  { s2 with regs.busFault := true, ex.grant := none, ex.resuming := false }

/-- Step 4 of a resumption (R164). -/
def resumeEnds (s : State) : State :=
  let s1 := { s with ex.resuming := false }
  if s.run.works ∧ s.powerIdle = true then startSweep s1 else s1

/-- Step 3 of a resumption: the taken order page is answered with DAMAGED (R164), beside the flag of an
abandonment begun before the fault (DESIGN CHOICE, log 45). -/
def resumeOrders (s : State) : State :=
  match s.ex.taken with
  | none => resumeEnds s
  | some t =>
    if t.phase = .halted then { s with ex.taken := some { t with flags := t.flags ||| dirDamaged, phase := .answer } } else s

/-- Step 2 and what follows (R164); a capture begun since BUS_FAULT was cleared goes on. A capture without a page ends
here too, so after step 1, not at the clearing (DESIGN CHOICE, log 29). -/
def resumeRest (s : State) : State :=
  match s.cap.st with
  | .capturing c =>
    if c.broken then
      match c.page with
      | some _ => resumeTrace c s
      | none => resumeOrders (resumeTrace c s)
    else resumeOrders s
  | _ => resumeOrders s

/-- The resumption goes on to its first step not yet done (R164). -/
def resumeProgress (s : State) : State :=
  if s.ex.resuming then
    match s.rw.page with
    | some p =>
      if p.phase = .closeEntry then s
      else { s with rw.page := some { p with phase := .closeEntry, closeWith := some (dirDamaged ||| p.noted) } }
    | none => resumeRest s
  else s

end Sys2Proof.Machine
end

