-- ==== Sys2Proof/Machine/Temperature.lean ====
section
/-!
DEFINITION. Poll rounds, probe filtering, row temperatures, the second's close and the summary (04).
-/

namespace Sys2Proof.Machine

/-- A reading in range (R66). -/
def readingInRange (r : Int) : Bool := decide (-400 ≤ r) && decide (r ≤ 850)

/-- F for a temperature in tenths (R66). -/
def offsetF (t : Int) : Nat := (16 * (t + 400)).toNat

/-- The reported value for F (R66). -/
def reported (f : Nat) : Int := (roundDiv f 16 : Int) - 400

/-- The median of three readings (R67). -/
def median3 (a b c : Int) : Int := max (min a b) (min (max a b) c)

/-- STARTING with a miss run of 5 is FAILED (R67, R70). -/
def startingMiss (miss : Nat) : ProbeState := if 5 ≤ miss + 1 then .failed 0 else .starting [] (miss + 1)

/-- A reading added to a collection (R67). -/
def collect (coll : List Int) (t : Int) : ProbeState :=
  match coll with
  | [a, b] => .good a b t (offsetF (median3 a b t)) 0 0
  | _ => .starting (coll ++ [t]) 0

/-- A reading rejected by a GOOD probe; the tenth makes it STARTING (R69). -/
def reject (w1 w2 w3 : Int) (f rej : Nat) (t : Int) : ProbeState :=
  if 10 ≤ rej + 1 then .starting (if readingInRange t then [t] else []) 0 else .good w1 w2 w3 f 0 (rej + 1)

/-- The step test of R68. -/
def stepAccepts (limit f : Nat) (t : Int) : Bool := decide (absDiff (offsetF t) f ≤ 16 * limit)

/-- F after an accepted reading (R68). -/
def filterStep (f : Nat) (m : Int) : Nat := roundDiv (7 * f + offsetF m) 8

/-- What a probe does with an outcome (R67-R70). -/
def ProbeState.take (limit : Nat) (o : ProbeOutcome) : ProbeState → ProbeState
  | .absent => .absent
  | .starting coll miss =>
    match o with
    | .reading t => if readingInRange t then collect coll t else .starting [] 0
    | _ => startingMiss miss
  | .good w1 w2 w3 f miss rej =>
    match o with
    | .reading t =>
      if readingInRange t && stepAccepts limit f t then .good w2 w3 t (filterStep f (median3 w2 w3 t)) 0 0
      else reject w1 w2 w3 f rej t
    | _ => if 5 ≤ miss + 1 then .failed 0 else .good w1 w2 w3 f (miss + 1) rej
  | .failed goodRun =>
    match o with
    | .reading t =>
      if readingInRange t then (if 3 ≤ goodRun + 1 then .starting [] 0 else .failed (goodRun + 1)) else .failed 0
    | _ => .failed 0

/-- A probe at the change to READY from DISABLED or POWER_FAIL (R71). -/
def ProbeState.restart : ProbeState → ProbeState
  | .absent => .absent
  | .starting _ _ => .starting [] 0
  | .good .. => .starting [] 0
  | .failed _ => .failed 0

/-- The reported value of a GOOD probe. -/
def ProbeState.value? : ProbeState → Option Int
  | .good _ _ _ f _ _ => some (reported f)
  | _ => Option.none

/-- The reported value of an assigned probe that is GOOD. -/
def assignedValue (probes : Tab 6 ProbeState) (p : Option Probe) : Option Int := p.bind fun n => (probes.get n).value?

/-- A hold count raised at a close, with the HELD row that reaches the limit becoming STALE (R73). -/
def holdOn (limit : Nat) (v : Int) (hold : Nat) (stale : Bool) : RowTemp :=
  if stale || decide (limit ≤ satInc hold) then .stale v (satInc hold) else .held v (satInc hold)

/-- A row's evaluation at a second's close (R72, R73). -/
def evalRow (probes : Tab 6 ProbeState) (a : RowProbes) (limit : Nat) (r : RowTemp) : RowTemp :=
  match assignedValue probes a.primary, assignedValue probes a.secondary with
  | some v, _ => .live v
  | Option.none, some v => .secondary v
  | Option.none, Option.none =>
    match r with
    | .none => .none
    | .live v => .held v 0
    | .secondary v => .held v 0
    | .held v h => holdOn limit v h false
    | .stale v h => holdOn limit v h true

/-! ### Summary (R80-R82) -/

/-- A probe's share of a close (R80). -/
def sumProbe (p : ProbeState) (m : ProbeSum) : ProbeSum :=
  match p with
  | .good _ _ _ f _ _ =>
    { good := m.good + 1
      sumF := m.sumF + f
      range := match m.range with
        | some (lo, hi) => some (min lo (reported f), max hi (reported f))
        | Option.none => some (reported f, reported f) }
  | _ => m

/-- A row's share of a close (R80). -/
def sumRow (t : RowTemp) (m : RowSum) : RowSum :=
  match t with
  | .held _ _ => { m with held := m.held + 1 }
  | .stale _ _ => { m with stale := m.stale + 1 }
  | _ => m

/-- The running summary after a close (R80). -/
def TempUnit.accumulate (u : TempUnit) : Summary :=
  { u.summary with
    probes := u.probes.zipWith sumProbe u.summary.probes
    rows := { a := sumRow u.rows.a u.summary.rows.a, b := sumRow u.rows.b u.summary.rows.b } }

/-- The least multiple of an interval greater than a second count (R81). -/
def nextBoundary (interval sec : Nat) : Nat := (sec / interval + 1) * interval

/-- The interval check of a close: the record, and the next interval (R81, R82). -/
def intervalCheck (s : State) : State :=
  let m := s.temp.summary
  if m.next ≤ s.second then
    let s1 := createRecord .other (temperatureWords s.temp s.second (m.short || decide (m.next < s.second))) s
    { s1 with temp.summary := Summary.empty s.second (nextBoundary s.temp.interval s.second) false }
  else s

/-- The running summary restarts marked SHORT (R82). -/
def restartSummary (s : State) : State :=
  { s with temp.summary := Summary.empty s.second (nextBoundary s.temp.interval s.second) true }

/-- The running summary's boundary is cut anew and it is marked SHORT (R82). -/
def recutSummary (s : State) : State :=
  { s with temp.summary.next := nextBoundary s.temp.interval s.second, temp.summary.short := true }

/-- The running summary is marked SHORT (R82). -/
def shortSummary (s : State) : State := { s with temp.summary.short := true }

/-! ### Rounds (R65) -/

/-- The second's close: rows, hand-over, summary, interval (R65, R74). -/
def secondClose (s : State) : State :=
  let a := evalRow s.temp.probes s.temp.assign.a s.temp.holdLimit s.temp.rows.a
  let b := evalRow s.temp.probes s.temp.assign.b s.temp.holdLimit s.temp.rows.b
  let s1 := { s with temp.rows := { a := a, b := b }, temp.round := none }
  let s2 := updateRow .b b (updateRow .a a s1)
  intervalCheck { s2 with temp.summary := s2.temp.accumulate }

/-- The answer timer's start (R10). -/
def answerTicks : Nat := 164

/-- A probe is configured. -/
def State.configured (s : State) (p : Probe) : Bool := decide (s.temp.probes.get p ≠ .absent)

/-- The round goes on with a list: the next probe is polled, or the round closes (R65). SET PROBES takes
a probe it unconfigures off the list. -/
def pollNext (l : List Probe) (s : State) : State :=
  match l with
  | p :: rest => { s with temp.round := some rest, temp.line := some { probe := p, left := answerTicks, discard := false } }
  | [] => secondClose s

/-- A second boundary starts a poll round, when the unit runs and none is in progress (R65). A clock set onto a
boundary reaches it, and so does a part that becomes READY in the boundary's own tick, unless the present tick has
been used: a round started in it, or was in progress as it began (DESIGN CHOICES, log 12). -/
def startRound (s : State) : State :=
  if s.run.works ∧ s.temp.round = none ∧ s.clock % 8192 = 0 ∧ s.temp.secondUsed = false then
    pollNext ((indices 6).filter s.configured) { s with temp.secondUsed := true }
  else s

/-- The outcome of the outstanding exchange is delivered and handled, and the round goes on (R10,
R65). -/
def deliver (p : Polled) (o : ProbeOutcome) (s : State) : State :=
  let s1 := { s with temp.line := none }
  let s2 := if p.discard then s1
    else { s1 with temp.probes := s1.temp.probes.modify p.probe (ProbeState.take s1.temp.stepLimit o) }
  match s2.temp.round with
  | some l => pollNext l s2
  | none => s2

/-- An answer arrives on the probe line (R10, R11). -/
def takeAnswer (a : Answer) (s : State) : State :=
  match s.temp.line with
  | none => s
  | some p =>
    if a.checkOk ∧ a.addr = p.probe then
      deliver p (if a.error then .probeError else .reading (signed16 a.reading.toNat)) s
    else s

/-- The answer timer runs out (R10), when it has counted down. -/
def answerTimedOut (s : State) : State :=
  match s.temp.line with
  | some p => if p.left = 0 then deliver p .noAnswer s else s
  | none => s

/-- A round in progress and the outstanding exchange are abandoned (R11, R65). -/
def abandonRound (s : State) : State := { s with temp.round := none, temp.line := none }

end Sys2Proof.Machine
end

