-- ==== Sys2Proof/Machine/RunControl.lean ====
section
/-!
DEFINITION. The Run Controller: the changes of run state, the power-fail sequence, the register writes
behind them, and what follows every command (09; R146, R147, R164).
-/

namespace Sys2Proof.Machine

/-! ### After every command -/

/-- The quiet condition (R174). -/
def State.quietHolds (s : State) : Bool :=
  ((indices 4).all fun lane => !s.tracked lane || s.loopClear lane)
    && (s.noContext && s.det.chans.items.all fun c => !c.active)

/-- The quiet idle timer runs in RUNNING with quiet enabled while the condition holds, from the command
that makes it hold (R174, log 27). -/
def quietUpdate (s : State) : State :=
  let runs := decide (s.run = .running) && (s.ctrl.quietEnable && (s.powerIdle && s.quietHolds))
  { s with ctrl.quietTimer := if runs then some (s.ctrl.quietTimer.getD 0) else none }

/-- What follows every command: each requester at rest takes up its next work, the port is granted, and
the quiet idle timer starts or stops. -/
def settleDown (s : State) : State := arbitrate (advanceSweeper (advanceTrace (advanceWriter (quietUpdate s))))

/-- A command's whole answer from its own effect. -/
def answerNext (s : State) : Answered := .next (settleDown s)

/-! ### The change to READY (R167, R178) -/

/-- A loop begins to be tracked: it takes up its level without an event (R9). -/
def takeUpLoop (s : State) (lane : Lane) : LoopState := if s.pins.lp.get lane then .occupied s.clock 0 else .vacant

/-- Every tracked loop takes up its level; the others are VACANT (R9). -/
def takeUpLoops (s : State) : State :=
  { s with
    loops := Tab.ofNat 4 fun i =>
      if h : i < 4 then (if s.tracked ⟨i, h⟩ then takeUpLoop s ⟨i, h⟩ else .vacant) else .vacant }

/-- What both changes to READY do: loops, receiver, probes, input lines (R9, R15, R71, R126). -/
def beginReady (s : State) : State :=
  takeUpInputs (takeUpLoops
    { s with
      run := .ready
      link.ref := none
      link.silence := some 0
      temp.probes := s.temp.probes.map ProbeState.restart })

/-- POWER_FAIL is left for READY (R178): the timers resume and the sweep timer starts. -/
def leavePowerFail (s : State) : State :=
  let s1 := resumeTimers (beginReady s)
  { s1 with ex.sweepTimer := if s.regs.busFault then none else some (0, msTicks s.ex.sweepMs) }

/-! ### The steps of HALT (R171) -/

/-- Drain, quiet and settle counters stop. -/
def stopRunTimers (s : State) : State := { s with ctrl.drain := none, ctrl.quietTimer := none, ctrl.settle := none }

/-- Steps 1 to 4 of HALT, with the end reason of a capture (R171). -/
def haltSteps (r : EndReason) (s : State) : State :=
  emptyRowLists (truncateAll (stopMeasuring (stopCapture r (stopRunTimers s))))

/-- An ARMED capture unit returns to IDLE. -/
def disarm (s : State) : State :=
  match s.cap.st with
  | .armed _ => { s with cap.st := .idle }
  | _ => s

/-- HALT by the run state: from RUNNING, QUIET and WAKING to READY; in READY it disarms (R171). -/
def halt (s : State) : State := if s.run.opens then { haltSteps .halted s with run := .ready } else disarm s

/-! ### Power failure (R177, R178) -/

/-- What entry into DISABLED and into POWER_FAIL does alike to the sensor side: loops VACANT and
untracked, the receiver stops, a poll round is abandoned, the summary is SHORT, waiting trigger events go
(R9, R15, R65, R82, R129, log 10). -/
def stopSensors (s : State) : State :=
  shortSummary (abandonRound
    { s with
      loops := Tab.fill 4 .vacant
      link.ref := none
      link.silence := none
      link.fault := false
      trig.waiting := [] })

/-- Steps 7 and 8 of the power-fail sequence; a PFI already released is then acted on (R177). -/
def endPowerFail (s : State) : State :=
  let s1 := disarm (dropShadows (discardPulses (holdTimers (loseAllRecords s))))
  let s2 := stopSensors { s1 with run := .powerFail, regs.powerFail := true, ctrl.power := none }
  if s.pins.pfi then s2 else leavePowerFail s2

/-- Step 5 has nothing left to place: sixteen placed, or the queue empty (R177). -/
def PowerSeq.spent (q : PowerSeq) (queue : List Rec) : Bool := decide (16 ≤ q.placed) || queue.isEmpty

/-- The sequence goes on, once nothing of an earlier step waits for the bus: steps 5 and 6, then its end
(R177). A bus fault ends it at once, its close noted. -/
def pfProgress (s : State) : State :=
  match s.ctrl.power with
  | none => s
  | some q =>
    if s.ex.resuming then s
    else if s.regs.busFault then endPowerFail (closeResultPage dirPowerFail s)
    else if s.ex.taken.isSome = true ∨ s.capturing = true then s
    else
      match s.rw.page with
      | none =>
        if q.closing ∨ q.spent s.rw.queue = true ∨ s.ex.resultList.isEmpty = true then endPowerFail s else takeResultHead s
      | some p =>
        if p.phase = .rest ∧ p.closeWith.isNone = true ∧ q.spent s.rw.queue = true then
          { s with rw.page := some { p with closeWith := some dirPowerFail }, ctrl.power := some { q with closing := true } }
        else s

/-- Steps 1 to 4 of the power-fail sequence, and as much of the rest as can be done at once (R177). -/
def beginPowerFail (s : State) : State :=
  let s1 := stopSweeper (stopRunTimers { s with ctrl.power := some { placed := 0, closing := false } })
  pfProgress (abandonOrders dirPowerFail (emptyRowLists (truncateAll (stopMeasuring (stopCapture .powerFail s1)))))

/-! ### ENABLE, RESTART, disable (R167, R172, R173) -/

/-- DISABLED is left for READY (R167): the summary restarts and the region is swept at once; a PFI already
asserted begins the power-fail sequence. -/
def enablePart (s : State) : State :=
  let s1 := restartSummary (beginReady s)
  let s2 := if s.regs.busFault then s1 else startSweep s1
  if s.pins.pfi then beginPowerFail s2 else s2

/-- The record at the head of the queue is being written. -/
def State.writingRecord (s : State) : Bool :=
  match s.rw.page with
  | some p => (match p.phase with | .record _ => true | _ => false)
  | none => false

/-- The close of the result page at a soft restart (R172 step 4). A close that would leave records queued
and no page lent sets NO_PAGE, before the queue is emptied (R155, R166). -/
def closeForRestart (s : State) : State :=
  let unplaced := s.rw.queue.length - b2n s.writingRecord
  let noPage := s.rw.page.isSome && (!s.regs.busFault && (s.ex.resultList.isEmpty && decide (0 < unplaced)))
  let s1 := closeResultPage dirRestart s
  { s1 with regs.noPage := s.regs.noPage || noPage }

/-- The records queued are discarded uncounted; one whose writing is in progress completes first (R157,
R166, R172). -/
def discardQueue (s : State) : State :=
  { s with rw.queue := if s.writingRecord then s.rw.queue.take 1 else [], rw.pinned := s.writingRecord }

/-- The counters of the status record, and the lost counts of the next page header (R166, R172, R180). -/
def clearCounters (s : State) : State :=
  { s with
    veh.vehicles := 0
    veh.axles := 0
    det.aborted := 0
    det.lost := 0
    rw.lostVehicle := 0
    rw.lostOther := 0
    rw.headerVehicle := 0
    rw.headerOther := 0
    ex.stray := 0
    link.gaps := 0
    trig.dropped := 0
    trig.discarded := 0
    cal.rejected := 0 }

/-- A soft restart, in the order of R172. -/
def softRestart (s : State) : State :=
  let s1 := haltSteps .restart (quietTriggers (abandonOrders dirRestart (stopRunTimers s)))
  let s2 := restartSummary (clearCounters (discardQueue (closeForRestart s1)))
  pfProgress { s2 with run := .ready }

/-- The pages, lists, handovers and sweep are forgotten (R166, R173 step 3). -/
def forgetPages (s : State) : State :=
  { s with
    rw.page := none
    ex.table := Tab.fill 64 .notMine
    ex.resultList := []
    ex.traceList := []
    ex.orderList := []
    ex.taken := none
    ex.handovers := []
    ex.work := none
    ex.sweepAt := none
    ex.sweepTimer := none
    ex.resuming := false
    ex.grant := none }

/-- A disable, in the order of R173. -/
def disablePart (s : State) : State :=
  let s1 := discardPulses (quietTriggers (stopRunTimers { s with ctrl.power := none, cap.st := .idle }))
  let s2 := if s.run.measures then emptyRowLists (truncateAll (stopMeasuring s1)) else s1
  let s3 := dropShadows (forgetPages s2)
  loseAllRecords (stopSensors { s3 with run := .disabled, history.frames := [] })

/-! ### Register writes (R146, R147, R164) -/

/-- A write to CONTROL by its three bits (R146). -/
def controlWrite (enable restart attn : Bool) (s : State) : State :=
  let s1 := { s with regs.enable := enable, regs.attnEn := attn }
  if enable then
    if s.regs.enable then (if restart ∧ s.run ≠ .powerFail then softRestart s1 else s1)
    else enablePart s1
  else if s.regs.enable then disablePart s1
  else s1

/-- The capture in progress is one the resumption ends (R38, R164). -/
def breakCapture (s : State) : State :=
  match s.cap.st with
  | .capturing c => { s with cap.st := .capturing { c with broken := true } }
  | _ => s

/-- BUS_FAULT is cleared, and outside DISABLED the exchange resumes (R164). -/
def clearBusFault (s : State) : State :=
  let s1 := { s with regs.busFault := false }
  if s.run = .disabled then s1 else resumeProgress { breakCapture s1 with ex.resuming := true }

/-- A write to STATUS: each 1 clears its bit (R147); BUS_FAULT's clearing resumes the exchange. -/
def statusWrite (v : Word) (s : State) : State :=
  let s1 :=
    { s with
      regs.powerFail := s.regs.powerFail && !(bitAt v 9 && decide (s.run ≠ .powerFail))
      regs.pageClosed := s.regs.pageClosed && !bitAt v 10
      regs.orderAnswered := s.regs.orderAnswered && !bitAt v 11
      regs.noPage := s.regs.noPage && !bitAt v 12 }
  if bitAt v 8 && s.regs.busFault then clearBusFault s1 else s1

/-! ### The bus (R162, R163) -/

/-- The granted access completes; nothing happens where none is granted. -/
def takeCompletion (data : List Word) (s : State) : State :=
  match s.ex.grant with
  | none => s
  | some r =>
    match s.request r with
    | none => s
    | some a =>
      let (m, ws) := a.perform data s.mem
      pfProgress (resumeProgress (completeFor r ws { s with mem := m, ex.grant := none }))

/-- The granted access answers with an error; nothing happens where none is granted. -/
def takeError (s : State) : State :=
  match s.ex.grant with
  | none => s
  | some r => pfProgress (takeBusError r s)

end Sys2Proof.Machine
end

