-- ==== Sys2Proof/Machine/OrderOps.lean ====
section
/-!
DEFINITION. The order in hand: how an order command takes it and answers it (R159, R183).
-/

namespace Sys2Proof.Machine

/-- The length and parameter words of the order in hand, if it is of a kind and the part executes orders
now (R158, R159, R163, R177). -/
def State.inHand (s : State) (k : OrderKind) : Option (Nat × List Word) :=
  if s.run.works && (!s.regs.busFault && s.powerIdle) then
    match s.ex.taken with
    | some t =>
      match t.phase with
      | .ready kind len params => if kind = k then some (len, params) else none
      | _ => none
    | none => none
  else none

/-- The inline words of the LOAD in hand whose data has all been read, with its length. -/
def State.loadedInHand (s : State) (k : OrderKind) : Option Nat :=
  if s.run.works && (!s.regs.busFault && s.powerIdle) then
    match s.ex.taken with
    | some t =>
      match t.phase with
      | .loaded kind len _ => if kind = k then some len else none
      | _ => none
    | none => none
  else none

/-- The order in hand is carried out; with no order of the kind in hand nothing happens. -/
def runOrder (k : OrderKind) (f : Nat → List Word → State → State) (s : State) : Answered :=
  match s.inHand k with
  | some (len, ps) => answerNext (f len ps s)
  | none => .next s

/-- The order is answered DONE. -/
def done (s : State) : State := fixOutcome .done 0 s

/-- The order is answered with the outcome of its clamped fields. -/
def answerClamped (c : Option Nat) (s : State) : State := fixOutcome (clampOutcome c).1 (clampOutcome c).2 s

/-- A wrong length is INVALID with detail 0 (R183); otherwise the order goes on. -/
def ifLength (k : OrderKind) (len : Nat) (f : State → State) (s : State) : State :=
  if k.lengthOk len then f s else fixOutcome .invalid 0 s

/-- In a run state other than READY the order is answered WRONG_STATE. -/
def ifReady (f : State → State) (s : State) : State := if s.run = .ready then f s else fixOutcome .wrongState 0 s

/-- With the calibration lock set the order is answered LOCKED. -/
def ifUnlocked (f : State → State) (s : State) : State := if s.cal.lock then fixOutcome .locked 0 s else f s

/-- A bad field makes the order INVALID with its position; otherwise the order goes on. -/
def ifFields (bad : Option Nat) (f : State → State) (s : State) : State :=
  match bad with
  | some pos => fixOutcome .invalid pos s
  | none => f s

/-- A numeric parameter with its position, before and after its clamp. -/
def clamped (pos lo hi v : Nat) : Nat × Int × Int := (pos, (v : Int), (clamp lo hi v : Int))

end Sys2Proof.Machine
end

