-- ==== Sys2Proof/Machine/SiteOrders.lean ====
section
/-!
DEFINITION. The meanings of the orders that set the site, detection, capture, weighing, assembly and
classing (R3, R4, R32, R34, R37, R63, R104, R105, R108).
-/

namespace Sys2Proof.Machine

/-! ### Site (R3, R4) -/

/-- The three distances of a lane as the order gives them, clamped (R3). -/
def geomOf (ps : List Word) (lane : Nat) : LaneGeom :=
  { d := clamp 2000 5000 (paramNat ps (3 + 3 * lane)), dOA := clamp 1000 10000 (paramNat ps (4 + 3 * lane)),
    lp := clamp 1000 3000 (paramNat ps (5 + 3 * lane)) }

/-- The distance fields of a lane with their positions. -/
def geomFields (ps : List Word) (lane : Nat) : List (Nat × Int × Int) :=
  [ clamped (3 + 3 * lane) 2000 5000 (paramNat ps (3 + 3 * lane)),
    clamped (4 + 3 * lane) 1000 10000 (paramNat ps (4 + 3 * lane)),
    clamped (5 + 3 * lane) 1000 3000 (paramNat ps (5 + 3 * lane)) ]

/-- Loop tracking follows a change of the lane count: a lane raised over is taken up, one no longer
tracked is VACANT (R9). -/
def retrackLoops (oldCount : Nat) (s : State) : State :=
  { s with
    loops := Tab.ofNat 4 fun i =>
      if h : i < 4 then
        (if s.site.laneCount ≤ i then .vacant else if oldCount ≤ i then takeUpLoop s ⟨i, h⟩ else s.loops.get ⟨i, h⟩)
      else .vacant }

/-- SET SITE GEOMETRY (R3). -/
def orderSetSiteGeometry (len : Nat) (ps : List Word) (s : State) : State :=
  ifReady (ifUnlocked (ifLength .setSiteGeometry len
    (ifFields (firstBad [(2, decide (1 ≤ paramNat ps 2) && decide (paramNat ps 2 ≤ 4))])
      fun s =>
        answerClamped (firstClamped (geomFields ps 0 ++ geomFields ps 1 ++ geomFields ps 2 ++ geomFields ps 3))
          (raiseGeneration (retrackLoops s.site.laneCount
            { s with site.laneCount := paramNat ps 2, site.geom := Tab.ofNat 4 (geomOf ps) }))))) s

def execSetSiteGeometry (s : State) : Answered := runOrder .setSiteGeometry orderSetSiteGeometry s

/-- SET CHANNEL MASK (R4). -/
def orderSetChannelMask (len : Nat) (ps : List Word) (s : State) : State :=
  ifReady (ifLength .setChannelMask len
    fun s => done { s with site.mask := Tab.ofNat 16 fun i => bitAt (param ps 2) i }) s

def execSetChannelMask (s : State) : Answered := runOrder .setChannelMask orderSetChannelMask s

/-! ### Detection and capture (R32, R34, R37) -/

/-- SET DETECTION (R32): the off-threshold is clamped against the stored on-threshold. -/
def orderSetDetection (len : Nat) (ps : List Word) (s : State) : State :=
  ifReady (ifLength .setDetection len
    fun s =>
      let onThr := clamp 50 20000 (paramNat ps 2)
      answerClamped
        (firstClamped
          [ clamped 2 50 20000 (paramNat ps 2), clamped 3 25 onThr (paramNat ps 3), clamped 4 1 16 (paramNat ps 4),
            clamped 5 1 64 (paramNat ps 5), clamped 6 1024 65535 (paramNat ps 6) ])
        { s with
          det.par :=
            { onThr := onThr, offThr := clamp 25 onThr (paramNat ps 3), onCount := clamp 1 16 (paramNat ps 4),
              offCount := clamp 1 64 (paramNat ps 5), maxLen := clamp 1024 65535 (paramNat ps 6) } }) s

def execSetDetection (s : State) : Answered := runOrder .setDetection orderSetDetection s

/-- A lane number 1-4 as a lane. -/
def laneOf (n : Nat) : Lane := ⟨(n - 1) % 4, Nat.mod_lt _ (by decide)⟩

/-- The CAPTURE order after its structural checks (R34, steps 3 and 4). -/
def armByOrder (ps : List Word) (s : State) : State :=
  if s.captureBusy then fixOutcome .busy 0 s
  else
    answerClamped (firstClamped [clamped 3 0 1024 (paramNat ps 3), clamped 4 512 65535 (paramNat ps 4)])
      (armCapture
        { lane := laneOf (paramNat ps 2), pre := clamp 0 1024 (paramNat ps 3), maxFrames := clamp 512 65535 (paramNat ps 4) } s)

/-- CAPTURE (R34): executed in READY, RUNNING, QUIET and WAKING. -/
def orderCapture (len : Nat) (ps : List Word) (s : State) : State :=
  if s.run = .draining then fixOutcome .wrongState 0 s
  else
    ifLength .capture len
      (ifFields (firstBad [(2, decide (1 ≤ paramNat ps 2) && decide (paramNat ps 2 ≤ s.site.laneCount))]) (armByOrder ps)) s

def execCapture (s : State) : Answered := runOrder .capture orderCapture s

/-- CANCEL CAPTURE (R37). -/
def orderCancelCapture (_ : Nat) (_ : List Word) (s : State) : State := done (stopCapture .cancelled s)

def execCancelCapture (s : State) : Answered := runOrder .cancelCapture orderCancelCapture s

/-! ### Weighing and assembly (R63, R108) -/

/-- SET WEIGHING (R63): each band end is clamped against the values just clamped. -/
def orderSetWeighing (len : Nat) (ps : List Word) (s : State) : State :=
  ifReady (ifLength .setWeighing len
    fun s =>
      let vmin := clamp 1000 10000 (paramNat ps 2)
      let vmax := clamp 20000 55556 (paramNat ps 3)
      let low := clamp vmin vmax (paramNat ps 4)
      answerClamped
        (firstClamped
          [ clamped 2 1000 10000 (paramNat ps 2), clamped 3 20000 55556 (paramNat ps 3), clamped 4 vmin vmax (paramNat ps 4),
            clamped 5 low vmax (paramNat ps 5), clamped 6 5 50 (paramNat ps 6), clamped 7 8 512 (paramNat ps 7) ])
        { s with
          axle.par :=
            { vmin := vmin, vmax := vmax, bandLow := low, bandHigh := clamp low vmax (paramNat ps 5),
              tolerance := clamp 5 50 (paramNat ps 6), window := clamp 8 512 (paramNat ps 7) } }) s

def execSetWeighing (s : State) : Answered := runOrder .setWeighing orderSetWeighing s

/-- SET ASSEMBLY (R108). -/
def orderSetAssembly (len : Nat) (ps : List Word) (s : State) : State :=
  ifReady (ifLength .setAssembly len
    fun s =>
      answerClamped (firstClamped [clamped 2 6000 30000 (paramNat ps 2)])
        { s with veh.splitDist := clamp 6000 30000 (paramNat ps 2) }) s

def execSetAssembly (s : State) : Answered := runOrder .setAssembly orderSetAssembly s

/-! ### Class tables (R104, R105) -/

/-- A LOAD begins to read its inline data into a fresh shadow, holding its order page (R159). -/
def beginLoad (k : OrderKind) (len : Nat) (ps : List Word) (s : State) : State :=
  let s1 := if k = .loadTemperatureCurve then { s with temp.shadow := some [] } else { s with cls.shadow := some [] }
  setReader (.loading k len ps) s1

/-- LOAD CLASS TABLE, up to the reading of its entries (R104, check 1). An order too short to hold an entry
fails the walk at once. -/
def orderLoadClassTable (len : Nat) (ps : List Word) (s : State) : State :=
  let n := paramNat ps 2
  ifFields (firstBad [(2, decide (3 < len) && (decide (1 ≤ n) && decide (n ≤ 32)))]) (beginLoad .loadClassTable len ps) s

def execLoadClassTable (s : State) : Answered := runOrder .loadClassTable orderLoadClassTable s

/-- The gap window of a word (10, 10.6). -/
def windowOf (w : Word) : Nat × Nat := (field w 0 16, field w 16 16)

/-- The class entry of five words and its windows; fields whose present bit is 0 are not read. -/
def entryOf (w0 w1 w2 w3 w4 : Word) (windows : List Word) : ClassEntry :=
  { code := field w0 0 6, axMin := field w0 8 4, axMax := field w0 12 4, windows := windows.map windowOf,
    gross := if bitAt w0 20 then some (w1.toNat, w2.toNat) else none,
    firstMin := if bitAt w0 21 then some w3.toNat else none,
    reference := if bitAt w0 22 then some (field w4 0 4, field w4 16 16) else none }

/-- The walk of so many entries; none where it does not end exactly at the order's end (R183). -/
def walkEntries : Nat → List Word → Option (List ClassEntry)
  | 0, [] => some []
  | 0, _ :: _ => none
  | n + 1, w0 :: w1 :: w2 :: w3 :: w4 :: rest =>
    let w := field w0 16 4
    if rest.length < w then none
    else (walkEntries n (rest.drop w)).map fun es => entryOf w0 w1 w2 w3 w4 (rest.take w) :: es
  | _ + 1, _ => none

/-- An entry is good (R104, check 2). -/
def ClassEntry.good (e : ClassEntry) : Bool :=
  (decide (1 ≤ e.code) && decide (e.code ≤ 63))
    && (decide (1 ≤ e.axMin) && (decide (e.axMin ≤ e.axMax) && decide (e.axMax ≤ 12)))
    && (decide (e.windows.length ≤ 11) && e.windows.all fun w => decide (w.1 ≤ w.2))
    && (match e.gross with | none => true | some (lo, hi) => decide (lo ≤ hi))
    && (match e.reference with
      | none => true
      | some (idx, target) => decide (1 ≤ idx) && (decide (idx ≤ e.axMax) && decide (target ≠ 0)))

/-- The entries numbered from 1 with whether each is good. -/
def numberedFrom (n : Nat) : List ClassEntry → List (Nat × Bool)
  | [] => []
  | e :: rest => (n, e.good) :: numberedFrom (n + 1) rest

/-- The shadow table becomes the active one with the next loaded generation (R104). -/
def installClasses (es : List ClassEntry) (s : State) : State :=
  { s with cls.active := es, cls.gen := nextGen s.cls.lastGen, cls.lastGen := nextGen s.cls.lastGen, cls.shadow := none }

/-- The checks and the end of a LOAD CLASS TABLE whose data has been read (R104). -/
def finishClassTable (count : Nat) (words : List Word) (s : State) : State :=
  let dropped := { s with cls.shadow := none }
  match walkEntries count words with
  | none => fixOutcome .invalid 2 dropped
  | some es =>
    match firstBad (numberedFrom 1 es) with
    | some i => fixOutcome .invalid i dropped
    | none => done (installClasses es s)

/-- The entry count word of the LOAD in hand. -/
def State.loadCount (s : State) : Nat :=
  match s.ex.taken with
  | some t =>
    match t.phase with
    | .loaded _ _ ps => paramNat ps 2
    | _ => 0
  | none => 0

/-- All the data of a LOAD CLASS TABLE has been read and is checked (R104). -/
def execLoadClassTableDone (s : State) : Answered :=
  match s.loadedInHand .loadClassTable with
  | some _ => answerNext (finishClassTable s.loadCount (s.cls.shadow.getD []) s)
  | none => .next s

/-- SELECT BUILT-IN CLASS TABLE (R105). -/
def orderSelectBuiltInClassTable (_ : Nat) (_ : List Word) (s : State) : State :=
  done { s with cls.active := builtInClasses, cls.gen := 0 }

def execSelectBuiltInClassTable (s : State) : Answered := runOrder .selectBuiltInClassTable orderSelectBuiltInClassTable s

end Sys2Proof.Machine
end

