-- ==== Sys2Proof/Machine/CalibrationOrders.lean ====
section
/-!
DEFINITION. The meanings of the temperature and calibration orders (R76, R77, R79, R83, R110, R113, R114,
R119-R124).
-/

namespace Sys2Proof.Machine

/-! ### Probes (R83) -/

/-- An assignment field: a probe, NONE, or neither. -/
inductive Assign where
  | probe (p : Probe)
  | unassigned
  | bad
  deriving DecidableEq, Repr

/-- The assignment a word names: 0-5, or NONE 15 (10, 10.6). -/
def assignOf (w : Word) : Assign :=
  if h : w.toNat < 6 then .probe ⟨w.toNat, h⟩ else if w.toNat = 15 then .unassigned else .bad

/-- The probe of an assignment. -/
def Assign.probe? : Assign → Option Probe
  | .probe p => some p
  | _ => none

/-- A primary assignment is good under a configured mask (R83). -/
def primaryOk (mask : Word) (a : Assign) : Bool :=
  match a with
  | .probe p => bitAt mask p.val
  | .unassigned => true
  | .bad => false

/-- A secondary assignment is good beside its row's primary (R83). -/
def secondaryOk (mask : Word) (primary a : Assign) : Bool :=
  match a with
  | .probe p => bitAt mask p.val && (decide (primary ≠ .unassigned) && decide (primary ≠ .probe p))
  | .unassigned => true
  | .bad => false

/-- A probe under a new configuration (R83). -/
def ProbeState.configure (on : Bool) (p : ProbeState) : ProbeState :=
  if on then (if p = .absent then .starting [] 0 else p) else .absent

/-- The probes configured by a mask; a probe unconfigured leaves the round, and its outstanding exchange
is to be discarded (R65, R83). -/
def configureProbes (mask : Word) (s : State) : State :=
  { s with
    temp.probes := Tab.ofNat 6 fun i => if h : i < 6 then (s.temp.probes.get ⟨i, h⟩).configure (bitAt mask i) else .absent
    temp.round := s.temp.round.map fun l => l.filter fun p => bitAt mask p.val
    temp.line := s.temp.line.map fun x => if bitAt mask x.probe.val then x else { x with discard := true } }

/-- SET PROBES (R83). -/
def orderSetProbes (len : Nat) (ps : List Word) (s : State) : State :=
  let mask := param ps 2
  let pa := assignOf (param ps 3)
  let sa := assignOf (param ps 4)
  let pb := assignOf (param ps 5)
  let sb := assignOf (param ps 6)
  ifLength .setProbes len
    (ifFields
      (firstBad [(3, primaryOk mask pa), (4, secondaryOk mask pa sa), (5, primaryOk mask pb), (6, secondaryOk mask pb sb)])
      fun s =>
        done
          { configureProbes mask s with
            temp.assign :=
              { a := { primary := pa.probe?, secondary := sa.probe? }, b := { primary := pb.probe?, secondary := sb.probe? } } })
    s

def execSetProbes (s : State) : Answered := runOrder .setProbes orderSetProbes s

/-! ### The compensation curve (R76, R77) -/

/-- A curve becomes active: the generation rises and a record of kind curve changed is created (R76, R77,
R111, R122). -/
def installCurve (c : Curve) (s : State) : State :=
  let s1 := raiseGeneration { s with temp.curve := c, temp.shadow := none }
  calibrationRecord 4 0 0 0 0 (b2n c.loaded + put 8 c.points.length) 0 0 0 s1

/-- LOAD TEMPERATURE CURVE, up to the reading of its points (R76, checks 1 and 2). -/
def orderLoadTemperatureCurve (len : Nat) (ps : List Word) (s : State) : State :=
  let n := paramNat ps 2
  ifUnlocked
    (ifFields (firstBad [(2, decide (3 ≤ len) && (decide (2 ≤ n) && (decide (n ≤ 16) && decide (len = 3 + n))))])
      (beginLoad .loadTemperatureCurve len ps)) s

def execLoadTemperatureCurve (s : State) : Answered := runOrder .loadTemperatureCurve orderLoadTemperatureCurve s

/-- The curve point of a word (10, 10.6). -/
def pointOf (w : Word) : Int × Nat := (signed16 (field w 0 16), field w 16 16)

/-- The points numbered with whether each is good after the one before it (R76, checks 3 and 4). -/
def numberedPoints (n : Nat) (before : Option Int) : List (Int × Nat) → List (Nat × Bool)
  | [] => []
  | (t, k) :: rest =>
    (n, (match before with | none => true | some b => decide (b < t)) && (decide (8192 ≤ k) && decide (k ≤ 32767)))
      :: numberedPoints (n + 1) (some t) rest

/-- The checks and the end of a LOAD TEMPERATURE CURVE whose data has been read (R76). -/
def finishCurve (words : List Word) (s : State) : State :=
  let points := words.map pointOf
  match firstBad (numberedPoints 1 none points) with
  | some i => fixOutcome .invalid i { s with temp.shadow := none }
  | none => done (installCurve { points := points, loaded := true } s)

/-- All the data of a LOAD TEMPERATURE CURVE has been read and is checked (R76). -/
def execLoadTemperatureCurveDone (s : State) : Answered :=
  match s.loadedInHand .loadTemperatureCurve with
  | some _ => answerNext (finishCurve (s.temp.shadow.getD []) s)
  | none => .next s

/-- SELECT BUILT-IN CURVE (R77). -/
def orderSelectBuiltInCurve (_ : Nat) (_ : List Word) (s : State) : State :=
  ifUnlocked (fun s => done (installCurve builtInCurve s)) s

def execSelectBuiltInCurve (s : State) : Answered := runOrder .selectBuiltInCurve orderSelectBuiltInCurve s

/-! ### Temperature parameters (R79) -/

/-- The seven boundaries an order gives, at words 5 to 11. -/
def boundsOf (ps : List Word) : List Int := (List.range 7).map fun i => paramInt ps (5 + i)

/-- Boundaries with their positions and whether each is good after the one before it (R79). -/
def numberedBounds (pos : Nat) (before : Option Int) : List Int → List (Nat × Bool)
  | [] => []
  | b :: rest =>
    (pos, readingInRange b && (match before with | none => true | some p => decide (p < b)))
      :: numberedBounds (pos + 1) (some b) rest

/-- Two signed halves in a word. -/
def halves (lo hi : Int) : Nat := low16 lo + put 16 (low16 hi)

/-- New boundaries: tallies cleared, generation raised, record of kind bands changed (R79, R122). -/
def changeBounds (bs : List Int) (s : State) : State :=
  let b := fun i => bs.getD i 0
  calibrationRecord 5 0 0 0 0 (halves (b 0) (b 1)) (halves (b 2) (b 3)) (halves (b 4) (b 5)) (halves (b 6) 0)
    (raiseGeneration (clearTallies { s with temp.bounds := bs }))

/-- The fields of SET TEMPERATURE stored together (R79, R82). -/
def storeTemperature (hold step interval : Nat) (bs : List Int) (s : State) : State :=
  let s1 := { s with temp.holdLimit := hold, temp.stepLimit := step, temp.interval := interval }
  let s2 := if interval = s.temp.interval then s1 else recutSummary s1
  if bs = s.temp.bounds then s2 else changeBounds bs s2

/-- SET TEMPERATURE (R79). -/
def orderSetTemperature (len : Nat) (ps : List Word) (s : State) : State :=
  let bs := boundsOf ps
  ifLength .setTemperature len
    (fun s =>
      if s.cal.lock ∧ bs ≠ s.temp.bounds then fixOutcome .locked 0 s
      else
        ifFields (firstBad (numberedBounds 5 none bs))
          (fun s =>
            answerClamped
              (firstClamped
                [clamped 2 60 86400 (paramNat ps 2), clamped 3 2 100 (paramNat ps 3), clamped 4 60 3600 (paramNat ps 4)])
              (storeTemperature (clamp 60 86400 (paramNat ps 2)) (clamp 2 100 (paramNat ps 3)) (clamp 60 3600 (paramNat ps 4)) bs s))
          s)
    s

def execSetTemperature (s : State) : Answered := runOrder .setTemperature orderSetTemperature s

/-! ### Channel factors and drift (R110, R113, R119-R121) -/

/-- SET CHANNEL FACTORS (R110). -/
def orderSetChannelFactors (len : Nat) (ps : List Word) (s : State) : State :=
  ifReady (ifUnlocked (ifLength .setChannelFactors len
    fun s =>
      let c := firstClamped ((List.range 16).map fun i => clamped (2 + i) 1 4294967295 (paramNat ps (2 + i)))
      answerClamped c
        (calibrationRecord 3 0 0 0 0 (b2n c.isSome) 0 0 0
          (raiseGeneration { s with cal.factors := Tab.ofNat 16 fun i => clamp 1 4294967295 (paramNat ps (2 + i)) })))) s

def execSetChannelFactors (s : State) : Answered := runOrder .setChannelFactors orderSetChannelFactors s

/-- The fields of SET DRIFT stored together: a new window clears the tallies, narrowed limits clamp the
factors (R113, R114). -/
def storeDrift (window maxStep lower upper : Nat) (enables : Tab 4 Bool) (s : State) : State :=
  let s1 := if window = s.cal.window then s else clearTallies s
  narrowAll
    { s1 with cal.window := window, cal.maxStep := maxStep, cal.lower := lower, cal.upper := upper, cal.enables := enables }

/-- SET DRIFT (R113). -/
def orderSetDrift (len : Nat) (ps : List Word) (s : State) : State :=
  ifLength .setDrift len
    (fun s =>
      if s.cal.lock ∧ (paramNat ps 4 ≠ s.cal.lower ∨ paramNat ps 5 ≠ s.cal.upper) then fixOutcome .locked 0 s
      else
        answerClamped
          (firstClamped
            [ clamped 2 8 1024 (paramNat ps 2), clamped 3 16 1638 (paramNat ps 3), clamped 4 8192 16384 (paramNat ps 4),
              clamped 5 16384 24576 (paramNat ps 5) ])
          (storeDrift (clamp 8 1024 (paramNat ps 2)) (clamp 16 1638 (paramNat ps 3)) (clamp 8192 16384 (paramNat ps 4))
            (clamp 16384 24576 (paramNat ps 5)) (Tab.ofNat 4 fun i => bitAt (param ps 6) i) s))
    s

def execSetDrift (s : State) : Answered := runOrder .setDrift orderSetDrift s

/-- FREEZE DRIFT (R119). -/
def orderFreezeDrift (_ : Nat) (_ : List Word) (s : State) : State := done { s with cal.frozen := true }

def execFreezeDrift (s : State) : Answered := runOrder .freezeDrift orderFreezeDrift s

/-- RESUME DRIFT (R119). -/
def orderResumeDrift (_ : Nat) (_ : List Word) (s : State) : State := done { s with cal.frozen := false }

def execResumeDrift (s : State) : Answered := runOrder .resumeDrift orderResumeDrift s

/-- RESET DRIFT (R120). -/
def orderResetDrift (_ : Nat) (_ : List Word) (s : State) : State :=
  ifUnlocked (fun s =>
    done (calibrationRecord 6 0 0 0 0 0 0 0 0 { s with cal.cells := Tab.fill 4 (Tab.fill 8 Cell.reset) })) s

def execResetDrift (s : State) : Answered := runOrder .resetDrift orderResetDrift s

/-- A restored cell (R121). -/
def Cell.restored (kd : Nat) : Cell := { Cell.reset with kd := kd }

/-- The restored table: word 2 + 8 × lane + band, clamped to the limits held (R121). -/
def restoredCells (lower upper : Nat) (ps : List Word) : Tab 4 (Tab 8 Cell) :=
  Tab.ofNat 4 fun l => Tab.ofNat 8 fun b => Cell.restored (clamp lower upper (paramNat ps (2 + 8 * l + b)))

/-- RESTORE DRIFT (R121). -/
def orderRestoreDrift (len : Nat) (ps : List Word) (s : State) : State :=
  ifUnlocked (ifLength .restoreDrift len
    fun s =>
      let fields := (List.range 32).map fun i => clamped (2 + i) s.cal.lower s.cal.upper (paramNat ps (2 + i))
      answerClamped (firstClamped fields)
        (calibrationRecord 7 0 0 0 0 (fields.countP fun f => decide (f.2.1 ≠ f.2.2)) 0 0 0
          { s with cal.cells := restoredCells s.cal.lower s.cal.upper ps })) s

def execRestoreDrift (s : State) : Answered := runOrder .restoreDrift orderRestoreDrift s

/-- REPORT CALIBRATION (R123). -/
def orderReportCalibration (_ : Nat) (_ : List Word) (s : State) : State := done (createRecord .other (snapshotWords s) s)

def execReportCalibration (s : State) : Answered := runOrder .reportCalibration orderReportCalibration s

/-- LOCK CALIBRATION (R124). -/
def orderLockCalibration (_ : Nat) (_ : List Word) (s : State) : State :=
  done (if s.cal.lock then s else calibrationRecord 8 0 0 0 0 0 0 0 0 { s with cal.lock := true })

def execLockCalibration (s : State) : Answered := runOrder .lockCalibration orderLockCalibration s

end Sys2Proof.Machine
end

