-- ==== Sys2Proof/Machine/ExchangeCommands.lean ====
section
/-!
DEFINITION. The meanings of the exchange's own events: sweeps, flushes, bus accesses and page takes.
-/

namespace Sys2Proof.Machine

/-- The sweep timer expires (R152). -/
def execSweep (s : State) : Answered :=
  answerNext
    (match s.ex.sweepTimer with
    | some (n, period) => if s.exchangeFree = true ∧ period ≤ n then startSweep s else s
    | none => s)

/-- The flush timer of the filling page expires (R156, R163). -/
def execFlushTimeout (s : State) : Answered :=
  answerNext
    (match s.rw.page with
    | some p =>
      match p.flush with
      | some (n, limit) =>
        if limit ≤ n then closeResultPage dirFlushed { s with rw.page := some { p with flush := none } } else s
      | none => s
    | none => s)

/-- The granted access completes (R162). -/
def execAccessComplete (data : List Word) (s : State) : Answered := answerNext (takeCompletion data s)

/-- The granted access answers with an error (R163). -/
def execBusError (s : State) : Answered := answerNext (takeError s)

/-- The Record Writer takes a result page (R155). -/
def execTakeResultPage (s : State) : Answered :=
  answerNext
    (if s.exchangeFree = true ∧ s.rw.queue ≠ [] ∧ s.rw.page.isNone = true then takeResultHead s else s)

/-- The order reader takes an order page (R158). While a drain outlives the page of its STOP the reader
has not resumed (R164). -/
def execTakeOrderPage (s : State) : Answered :=
  answerNext
    (if s.exchangeFree = true ∧ s.ex.taken.isNone = true ∧ s.run ≠ .draining then takeOrderHead s else s)

/-- The oldest pending handover is handled (R151): a page already held is a stray, any other has its
entry read, its index pending until the read is handled. -/
def pendingHandover (s : State) : State :=
  match s.ex.handovers with
  | [] => s
  | p :: rest =>
    if s.ex.table.get p = .notMine then { s with ex.work := some (.readEntry p true) }
    else countStray { s with ex.handovers := rest }

/-- A pending handover reaches the sweeper, when it has no work in hand (R151). -/
def execPendingHandover (s : State) : Answered :=
  answerNext (if s.exchangeFree = true ∧ s.ex.work.isNone = true then pendingHandover s else s)

end Sys2Proof.Machine
end

