-- ==== Sys2Proof/Machine/RegisterCommands.lean ====
section
/-!
DEFINITION. The meanings of the register writes, of hard reset and of PFI.
-/

namespace Sys2Proof.Machine

/-- HRST: every block takes its hard-reset value (R167); the pins' levels, the board's memory and the
commands waiting are not the part's (log 9). -/
def execHardReset (s : State) : Answered := .next { State.reset with pins := s.pins, mem := s.mem, pending := s.pending }

/-- A CONTROL write with ENABLE 1 (R146, R167). -/
def execEnable (restart attn : Bool) (s : State) : Answered := answerNext (controlWrite true restart attn s)

/-- A CONTROL write with ENABLE 0 (R146, R173). -/
def execDisable (restart attn : Bool) (s : State) : Answered := answerNext (controlWrite false restart attn s)

/-- A CONTROL write with ENABLE 1 and RESTART 1 (R146, R172). -/
def execSoftRestart (attn : Bool) (s : State) : Answered := answerNext (controlWrite true true attn s)

/-- A CONTROL write that leaves ENABLE as it stands (R146, R147). -/
def execAttnEn (value : Bool) (s : State) : Answered := answerNext (controlWrite s.regs.enable false value s)

/-- A write to IDENT, XBASE or SERIAL (R146): XBASE takes it while ENABLE is 0, without its low 12 bits. -/
def execRegisterWrite (reg : WindowReg) (value : Word) (s : State) : Answered :=
  match reg with
  | .ident => .next s
  | .serial => .next s
  | .xbase => .next (if s.regs.enable then s else { s with regs.xbase := value &&& 0xFFFFF000 })

/-- The page a HANDOVER value names (R151). -/
def handoverPage (value : Word) : Page := ⟨field value 0 6, Nat.mod_lt _ (by decide)⟩

/-- A write to HANDOVER (R146, R151): stored, and pending where handovers are acted on. -/
def execHandover (value : Word) (s : State) : Answered :=
  let s1 := { s with regs.handover := value }
  let p := handoverPage value
  if s.run.works && (!s.regs.busFault && (s.powerIdle && !s.ex.handovers.contains p)) then
    answerNext { s1 with ex.handovers := s.ex.handovers ++ [p] }
  else answerNext s1

/-- A write to STATUS (R147). -/
def execStatusClear (value : Word) (s : State) : Answered := answerNext (statusWrite value s)

/-- A write to STATUS with 1 at BUS_FAULT (R147, R164). -/
def execBusFaultClear (value : Word) (s : State) : Answered := answerNext (statusWrite (value ||| 0x100) s)

/-- PFI is asserted (R177): in a working state the power-fail sequence begins. -/
def execPfiAsserted (s : State) : Answered :=
  let s1 := { s with pins.pfi := true }
  answerNext (if s.run.works ∧ s.powerIdle = true then beginPowerFail s1 else s1)

/-- PFI is released (R178): POWER_FAIL is left for READY; during the sequence it is acted on at its end. -/
def execPfiReleased (s : State) : Answered :=
  let s1 := { s with pins.pfi := false }
  answerNext (if s.run = .powerFail then leavePowerFail s1 else s1)

end Sys2Proof.Machine
end

