-- ==== Sys2Proof/Machine/RunOrders.lean ====
section
/-!
DEFINITION. The meanings of the orders of the Exchange Unit and the Run Controller (R165, R168-R171,
R176, R179, R180).
-/

namespace Sys2Proof.Machine

/-- NOP (R165). -/
def orderNop (_ : Nat) (_ : List Word) (s : State) : State := done s

def execNop (s : State) : Answered := runOrder .nop orderNop s

/-- SET EXCHANGE (R165). -/
def orderSetExchange (len : Nat) (ps : List Word) (s : State) : State :=
  ifLength .setExchange len
    (fun s =>
      let sweep := paramNat ps 2
      let flush := paramNat ps 3
      answerClamped (firstClamped [clamped 2 50 5000 sweep, clamped 3 100 60000 flush])
        { s with ex.sweepMs := clamp 50 5000 sweep, ex.flushMs := clamp 100 60000 flush })
    s

def execSetExchange (s : State) : Answered := runOrder .setExchange orderSetExchange s

/-- Each enabled channel enters LEARNING and each other stays OFF (R17, R168). -/
def startChannels (s : State) : State :=
  { s with
    det.chans := Tab.ofNat 16 fun i =>
      if h : i < 16 then (if s.site.enabled ⟨i, h⟩ then .learning 0 0 else .off) else .off }

/-- START (R168). -/
def orderStart (_ : Nat) (_ : List Word) (s : State) : State :=
  ifReady (fun s =>
    if s.site.laneCount = 0 then fixOutcome .notConfigured 0 s
    else done (startChannels { s with run := .running })) s

def execStart (s : State) : Answered := runOrder .start orderStart s

/-- STOP holds its page while its drain runs (R169). -/
def holdStop (len : Nat) (s : State) : State := setReader (.holding len) s

/-- STOP (R169, R170): it begins a drain in RUNNING and WAKING, and halts from QUIET. -/
def orderStop (len : Nat) (_ : List Word) (s : State) : State :=
  match s.run with
  | .running => testDrain (holdStop len { stopRunTimers s with run := .draining, ctrl.drain := some 0 })
  | .waking => testDrain (holdStop len { stopRunTimers s with run := .draining, ctrl.drain := some 0 })
  | .quiet => done (halt s)
  | _ => done s

def execStop (s : State) : Answered := runOrder .stop orderStop s

/-- HALT (R171). -/
def orderHalt (_ : Nat) (_ : List Word) (s : State) : State := done (halt s)

def execHalt (s : State) : Answered := runOrder .halt orderHalt s

/-- Steps 1 and 2 of SET CLOCK in a measuring state (R29, R48, R96, R179). -/
def clockBreak (s : State) : State :=
  if s.run.measures then releaseRowA (truncateAll (loseHitLists (loseOpenHits s))) else s

/-- Steps 3 to 5 of SET CLOCK: the clock is loaded, trigger ticks move with it, the summary is cut anew
(R82, R144, R179). -/
def loadClock (v : Nat) (s : State) : State :=
  recutSummary (shiftTriggerTicks ((v : Int) - s.clock) { s with clock := v })

/-- SET CLOCK (R179). -/
def orderSetClock (len : Nat) (ps : List Word) (s : State) : State :=
  ifLength .setClock len
    (ifFields (firstBad [(3, decide (paramNat ps 3 ≤ 65535))])
      fun s => done (loadClock (paramNat ps 2 + 4294967296 * paramNat ps 3) (clockBreak s)))
    s

def execSetClock (s : State) : Answered := runOrder .setClock orderSetClock s

/-- SET QUIET (R176): quiet turned off in QUIET wakes the part. -/
def orderSetQuiet (len : Nat) (ps : List Word) (s : State) : State :=
  ifLength .setQuiet len
    (ifFields (firstBad [(2, decide (paramNat ps 2 ≤ 1))])
      fun s =>
        let delay := paramNat ps 3
        let count := paramNat ps 4
        let on := decide (paramNat ps 2 = 1)
        let s1 :=
          { s with ctrl.quietEnable := on, ctrl.idleDelay := clamp 1 3600 delay, ctrl.settleCount := clamp 16 1024 count }
        answerClamped (firstClamped [clamped 3 1 3600 delay, clamped 4 16 1024 count]) (if on then s1 else wake s1))
    s

def execSetQuiet (s : State) : Answered := runOrder .setQuiet orderSetQuiet s

/-- REPORT STATUS (R180). -/
def orderReportStatus (_ : Nat) (_ : List Word) (s : State) : State := done (createRecord .other (statusWords s) s)

def execReportStatus (s : State) : Answered := runOrder .reportStatus orderReportStatus s

end Sys2Proof.Machine
end

