-- ==== Sys2Proof/Machine/SensorCommands.lean ====
section
/-!
DEFINITION. The meanings of the sensor events: loops, frames, probes, field lines.
-/

namespace Sys2Proof.Machine

/-- The occupancy limit of a loop, 60 s (R7). -/
def stuckLimit : Nat := 491520

/-- A loop unit's state is replaced. -/
def setLoop (lane : Lane) (l : LoopState) (s : State) : State := { s with loops := s.loops.set lane l }

/-- The onset of a tracked VACANT loop reaches its readers (R6, R7, R86, R175). -/
def loopOnset (lane : Lane) (s : State) : State :=
  let s1 := setLoop lane (.occupied s.clock 0) s
  handEvent (.loopOnset lane s.clock) (wake (if s.mayOpen then onsetContext lane s.clock s1 else s1))

/-- Presence goes on at a loop input (R7); an untracked loop, or one not VACANT, gives no event (R6). Every edge
commanded is seen, several of one tick too (DESIGN CHOICE, log 48). -/
def execLoopOnset (lane : Lane) (s : State) : Answered :=
  let s1 := { s with pins.lp := s.pins.lp.set lane true }
  answerNext (if s.tracked lane ∧ s.loops.get lane = .vacant then loopOnset lane s1 else s1)

/-- Presence goes off at a loop input (R7, R8): an OCCUPIED loop gives a loop end, a STUCK one none. Every edge
commanded is seen, several of one tick too (DESIGN CHOICE, log 48). -/
def execLoopEnd (lane : Lane) (s : State) : Answered :=
  let s1 := { s with pins.lp := s.pins.lp.set lane false }
  answerNext
    (if s.tracked lane then
      match s.loops.get lane with
      | .vacant => s1
      | .stuck _ => setLoop lane .vacant s1
      | .occupied _ _ =>
        let s2 := setLoop lane .vacant s1
        if s.run.measures then loopEndContext lane s.clock false s2 else s2
    else s1)

/-- The occupancy timer of an OCCUPIED loop has reached its limit (R7, R8). -/
def execStuckExpiry (lane : Lane) (s : State) : Answered :=
  answerNext
    (match s.loops.get lane with
    | .occupied onset timer =>
      if s.tracked lane ∧ stuckLimit ≤ timer then
        let s1 := setLoop lane (.stuck onset) s
        if s.run.measures then loopEndContext lane s.clock true s1 else s1
      else s
    | _ => s)

/-- A sample frame arrives (R12). -/
def execSampleFrame (frame : Frame) (s : State) : Answered := answerNext (takeFrame frame s)

/-- The silence timer has reached its limit (R14). -/
def execLinkLoss (s : State) : Answered := answerNext (loseLink s)

/-- A second boundary (R65). -/
def execPollRound (s : State) : Answered := answerNext (startRound s)

/-- An answer arrives on the probe line (R10, R11). -/
def execProbeAnswer (answer : Answer) (s : State) : Answered := answerNext (takeAnswer answer s)

/-- The answer timer has run out (R10). -/
def execAnswerTimeout (s : State) : Answered := answerNext (answerTimedOut s)

/-- The level on a field line changes (R126). On an input line a level that differs from the one last sampled is an
edge. A change back within the tick was never sampled: the edge it had given is withdrawn (log 46). -/
def execFieldEdge (line : Line) (level : Bool) (s : State) : Answered :=
  let s1 := { s with pins.field := s.pins.field.set line level }
  answerNext
    (match s.trig.lines.get line with
    | .input sampled =>
      if s.run.works ∧ sampled ≠ level then
        if s.trig.edgeTaken.get line then withdrawEdge line level s1
        else
          handEvent (.fieldEdge line level s.clock)
            { s1 with
              trig.lines := s1.trig.lines.set line (.input level)
              trig.edgeTaken := s1.trig.edgeTaken.set line true }
      else s1
    | .output _ => s1)

end Sys2Proof.Machine
end

