-- ==== Sys2Proof/Machine/TimedCommands.lean ====
section
/-!
DEFINITION. The meanings of the deadlines and expiries: vehicles, drain, quiet operation, timers, pulses and
waiting trigger events. One whose time has not come changes nothing (log 2).
-/

namespace Sys2Proof.Machine

/-- The clock reaches a CLOSING context's close deadline (R94). -/
def execCloseDeadline (lane : Lane) (s : State) : Answered := answerNext (closeTest lane .closingSlot s)

/-- The clock reaches a NO_LOOP context's idle deadline (R95). -/
def execIdleDeadline (lane : Lane) (slot : Slot) (s : State) : Answered :=
  answerNext
    (match s.context lane slot with
    | some c => if c.noLoop then closeTest lane slot s else s
    | none => s)

/-- The drain limit, 5 s (R170). -/
def drainLimit : Nat := 40960

/-- The drain timer has reached its limit (R170): the contexts still held close TRUNCATED, and with the
last the drain ends. -/
def execDrainTimeout (s : State) : Answered :=
  answerNext
    (match s.ctrl.drain with
    | some n => if s.run = .draining ∧ drainLimit ≤ n then testDrain (truncateAll s) else s
    | none => s)

/-- The quiet idle timer has reached the idle delay (R174). -/
def execQuietEntry (s : State) : Answered :=
  answerNext
    (match s.ctrl.quietTimer with
    | some n =>
      if s.run = .running ∧ s.ctrl.idleDelay * 8192 ≤ n ∧ s.ctrl.quietEnable = true ∧ s.quietHolds = true then
        { s with run := .quiet, ctrl.quietTimer := none }
      else s
    | none => s)

/-- The settle counter has reached its count (R175). -/
def execSettleEnd (s : State) : Answered :=
  answerNext
    (match s.ctrl.settle with
    | some (n, count) => if s.run = .waking ∧ count ≤ n then { s with run := .running, ctrl.settle := none } else s
    | none => s)

/-- A RUNNING timer has reached its due tick (R137). -/
def execTimerExpiry (tset : SetId) (s : State) : Answered :=
  let t := s.trig.sets.get tset
  answerNext
    (match t.timer with
    | .running due =>
      if s.run.works ∧ reached s.clock due = true then
        handEvent (.timer tset)
          { s with
            trig.sets := s.trig.sets.set tset
              { t with timer := if t.dfn.repeats then .running (tickAdd due t.dfn.period) else .stopped } }
      else s
    | _ => s)

/-- The first waiting pulse whose start has come becomes running (R140). -/
def startFirst (now : Nat) : List Pulse → List Pulse
  | [] => []
  | p :: rest => if reached now p.start then { p with running := true } :: rest else p :: rest

/-- The clock reaches a waiting pulse's start tick (R140), no other pulse running on the line. -/
def execPulseStart (line : Line) (s : State) : Answered :=
  answerNext
    (match s.trig.lines.get line with
    | .output ps =>
      if ps.any (·.running) then s
      else { s with trig.lines := s.trig.lines.set line (.output (startFirst s.clock ps)) }
    | .input _ => s)

/-- A running pulse whose end has come leaves the schedule, and the next one runs if it starts at that
tick (R140). -/
def endFirst (now : Nat) : List Pulse → List Pulse
  | [] => []
  | p :: rest =>
    if p.running && reached now p.stop then
      (match rest with
      | [] => []
      | q :: more => (if q.start = p.stop then { q with running := true } else q) :: more)
    else p :: rest

/-- The clock reaches the running pulse's end tick (R140). -/
def execPulseEnd (line : Line) (s : State) : Answered :=
  answerNext
    (match s.trig.lines.get line with
    | .output ps => { s with trig.lines := s.trig.lines.set line (.output (endFirst s.clock ps)) }
    | .input _ => s)

/-- A waiting trigger event is taken and its cascade runs (R129, R133). An edge of the present tick waits for the
tick's end (R126, log 46). -/
def execCascade (which : Nat) (s : State) : Answered :=
  answerNext
    (match s.trig.waiting[which]? with
    | some e =>
      if s.run.works ∧ s.edgeOpen which = false then (runCascade e { s with trig.waiting := s.trig.waiting.eraseIdx which }).1 else s
    | none => s)

end Sys2Proof.Machine
end

