-- ==== Sys2Proof/Machine/TriggerOrders.lean ====
section
/-!
DEFINITION. The meanings of the trigger orders (R127, R128, R143).
-/

namespace Sys2Proof.Machine

/-! ### SET TRIGGER (R128; 10, 10.6) -/

/-- The conditions of a VEHICLE factor; a mask of 0 is absent (R183). -/
def vehicleCondOf (ps : List Word) : VehicleCond :=
  let w4 := param ps 4
  let w7 := param ps 7
  { lanes := if field w4 0 4 = 0 then none else some (BitVec.ofNat 4 (field w4 0 4))
    classes := if bitAt w4 8 then some (field w4 16 6, field w4 24 6) else none
    grossMin := paramNat ps 5
    heaviestMin := paramNat ps 6
    grades := if bitAt w7 0 then some (field w7 4 2, field w7 8 2) else none
    flags := if field w7 16 4 = 0 then none else some (BitVec.ofNat 4 (field w7 16 4)) }

/-- A TEMPERATURE threshold before its clamp. -/
def thetaOf (ps : List Word) : Int := signed16 (field (param ps 4) 16 16)

/-- A number below 4 as a line. -/
def lineOf (n : Nat) : Line := ⟨n % 4, Nat.mod_lt _ (by decide)⟩

/-- A number below 8 as a set. -/
def setOf (n : Nat) : SetId := ⟨n % 8, Nat.mod_lt _ (by decide)⟩

/-- The factor code (10, 10.7). -/
def factorCode (ps : List Word) : Nat := field (param ps 2) 16 4

/-- The factor with its conditions. A DRIFT_LIMIT limit code 0 and a RECORD_LOST kind code 0, which the layout
does not assign, are accepted and match no event (DESIGN CHOICE, log 13). -/
def factorOf (ps : List Word) : Factor :=
  let w4 := param ps 4
  match factorCode ps with
  | 1 => .vehicle (vehicleCondOf ps)
  | 2 => .loopOnset (BitVec.ofNat 4 (field w4 0 4))
  | 3 => .timer
  | 4 => .fieldEdge (lineOf (field w4 0 4)) (bitAt w4 4) (bitAt w4 5)
  | 5 =>
    .temperature (if field w4 0 2 = 0 then .a else .b) (clampInt (-400) 850 (thetaOf ps)) (bitAt w4 4) (bitAt w4 5) (bitAt w4 8)
  | 6 =>
    .driftLimit (if field w4 0 4 = 0 then none else some (BitVec.ofNat 4 (field w4 0 4))) (bitAt w4 4) (bitAt w4 5)
  | 7 => .backlog
  | 8 => .recordLost (bitAt w4 0) (bitAt w4 1)
  | _ => .none

/-- Whether the timing is DISTANCE. -/
def distanceTiming (ps : List Word) : Bool := bitAt (param ps 8) 8

/-- The pulse action, if present. -/
def pulseOf (ps : List Word) : Option PulseAction :=
  let w8 := param ps 8
  if bitAt w8 0 then
    some
      { line := lineOf (field w8 4 4), width := clamp 1 8192 (field w8 16 14),
        timing :=
          if distanceTiming ps then .distance (clamp 0 100000 (paramNat ps 9)) else .fixed (clamp 0 65535 (paramNat ps 9)) }
  else none

/-- The timer action, if present. -/
def timerActionOf (ps : List Word) : Option TimerAction :=
  let w := param ps 10
  if bitAt w 0 then
    some
      { target := setOf (field w 4 4),
        op := match field w 8 2 with | 1 => .start | 2 => .stop | 3 => .restart | _ => .other }
  else none

/-- The capture action, if present. -/
def captureActionOf (ps : List Word) : Option CaptureAction :=
  let w := param ps 11
  if bitAt w 0 then
    some
      { lane := if bitAt w 1 then some ⟨(field w 4 3 - 1) % 4, Nat.mod_lt _ (by decide)⟩ else none,
        pre := clamp 0 1024 (field w 16 11), maxFrames := clamp 512 65535 (paramNat ps 12) }
  else none

/-- A chain mask of word 3. -/
def chainMask (ps : List Word) (lo : Nat) : BitVec 8 := BitVec.ofNat 8 (field (param ps 3) lo 8)

/-- The definition an order gives. -/
def triggerOf (ps : List Word) : TriggerDef :=
  { once := bitAt (param ps 2) 9, factor := factorOf ps, pulse := pulseOf ps, timerAct := timerActionOf ps,
    captureAct := captureActionOf ps, report := bitAt (param ps 2) 10, enableMask := chainMask ps 0, disableMask := chainMask ps 8,
    activateMask := chainMask ps 16, period := clamp 82 16777215 (paramNat ps 13), repeats := bitAt (param ps 14) 0 }

/-- Word 4 is good for the factor (R128). -/
def conditionOk (ps : List Word) : Bool :=
  let w4 := param ps 4
  match factorCode ps with
  | 1 => !bitAt w4 8 || decide (field w4 16 6 ≤ field w4 24 6)
  | 4 => decide (field w4 0 4 ≤ 3)
  | 5 => decide (field w4 0 2 ≤ 1)
  | _ => true

/-- A VEHICLE factor's grade range is good (R128). -/
def gradesOk (ps : List Word) : Bool :=
  let w7 := param ps 7
  decide (factorCode ps ≠ 1) || (!bitAt w7 0 || decide (field w7 4 2 ≤ field w7 8 2))

/-- The fields of a SET TRIGGER that can be bad, with their positions (R128); those of an absent action
are not checked (DESIGN CHOICE, log 13). -/
def triggerChecks (ps : List Word) : List (Nat × Bool) :=
  let w2 := param ps 2
  let n := setOf (field w2 0 4)
  let w8 := param ps 8
  let w10 := param ps 10
  let w11 := param ps 11
  [ (2, decide (field w2 0 4 ≤ 7) && decide (factorCode ps ≤ 8)),
    (3, !(inMask (chainMask ps 0) n || inMask (chainMask ps 8) n || inMask (chainMask ps 16) n)),
    (4, conditionOk ps),
    (7, gradesOk ps),
    (8, !bitAt w8 0 || (decide (field w8 4 4 ≤ 3) && (!distanceTiming ps || decide (factorCode ps = 1)))),
    (10, !bitAt w10 0 || decide (field w10 4 4 ≤ 7)),
    (11, !bitAt w11 0 || (!bitAt w11 1 || (decide (1 ≤ field w11 4 3) && decide (field w11 4 3 ≤ 4)))) ]

/-- The clamped fields of a SET TRIGGER with their positions (R128). -/
def triggerClamps (ps : List Word) : List (Nat × Int × Int) :=
  (if factorCode ps = 5 then [(4, thetaOf ps, clampInt (-400) 850 (thetaOf ps))] else [])
    ++ (if bitAt (param ps 8) 0 then
        [ clamped 8 1 8192 (field (param ps 8) 16 14),
          clamped 9 0 (if distanceTiming ps then 100000 else 65535) (paramNat ps 9) ]
      else [])
    ++ (if bitAt (param ps 11) 0 then
        [clamped 11 0 1024 (field (param ps 11) 16 11), clamped 12 512 65535 (paramNat ps 12)]
      else [])
    ++ [clamped 13 82 16777215 (paramNat ps 13)]

/-- SET TRIGGER (R128). -/
def orderSetTrigger (len : Nat) (ps : List Word) (s : State) : State :=
  ifLength .setTrigger len
    (ifFields (firstBad (triggerChecks ps))
      fun s =>
        answerClamped (firstClamped (triggerClamps ps))
          { s with
            trig.waiting := s.trig.waiting.map (TrigEvent.redefined (setOf (field (param ps 2) 0 4)))
            trig.sets := s.trig.sets.set (setOf (field (param ps 2) 0 4))
              { enabled := bitAt (param ps 2) 8, dfn := triggerOf ps, timer := .stopped, side := .unknown, degraded := false } })
    s

def execSetTrigger (s : State) : Answered := runOrder .setTrigger orderSetTrigger s

/-! ### SET FIELD LINES (R127) -/

/-- The function code of a line. -/
def functionCode (w : Word) (l : Nat) : Nat := field w (4 * l) 2

/-- A function code is OUTPUT or INPUT. -/
def functionOk (w : Word) (l : Nat) : Bool := decide (functionCode w l = 1) || decide (functionCode w l = 2)

/-- A line under a function code at a level (R127). -/
def FieldLine.assign (code : Nat) (level : Bool) (l : FieldLine) : FieldLine :=
  match l with
  | .input sampled => if code = 1 then .output [] else .input sampled
  | .output ps => if code = 2 then .input level else .output ps

/-- The pulses a line loses under a function code (R127). -/
def FieldLine.loses (code : Nat) (l : FieldLine) : Nat := if code = 2 then l.pulses.length else 0

/-- The functions of a word are given to the lines (R127). A line that becomes an input takes up its level, with no
edge of this tick to withdraw (R126). An edge that a line gave at this tick stays among the waiting events when the line
becomes an output, and no later change withdraws it (DESIGN CHOICE, log 46). -/
def assignLines (w : Word) (s : State) : State :=
  { s with
    trig.edgeTaken := s.trig.edgeTaken.zipWith (fun taken l => match l with
      | .input _ => taken
      | .output _ => false) s.trig.lines
    trig.discarded := satAdd s.trig.discarded (((indices 4).map fun l => (s.trig.lines.get l).loses (functionCode w l.val)).sum)
    trig.lines := Tab.ofNat 4 fun i =>
      if h : i < 4 then (s.trig.lines.get ⟨i, h⟩).assign (functionCode w i) (s.pins.field.get ⟨i, h⟩) else .input false }

/-- SET FIELD LINES (R127): the four functions stand in one word, so a bad one has position 2. -/
def orderSetFieldLines (len : Nat) (ps : List Word) (s : State) : State :=
  let w := param ps 2
  ifLength .setFieldLines len
    (ifFields (firstBad [(2, functionOk w 0 && (functionOk w 1 && (functionOk w 2 && functionOk w 3)))])
      fun s => done (assignLines w s))
    s

def execSetFieldLines (s : State) : Answered := runOrder .setFieldLines orderSetFieldLines s

/-! ### CONTROL TRIGGERS (R143) -/

/-- CONTROL TRIGGERS (R143). -/
def orderControlTriggers (len : Nat) (ps : List Word) (s : State) : State :=
  let w := param ps 2
  ifLength .controlTriggers len
    (fun s =>
      let s1 := applyMasks (BitVec.ofNat 8 (field w 0 8)) (BitVec.ofNat 8 (field w 8 8)) s
      done (controlCascade (BitVec.ofNat 8 (field w 16 8)) s1))
    s

def execControlTriggers (s : State) : Answered := runOrder .controlTriggers orderControlTriggers s

end Sys2Proof.Machine
end

