-- ==== Sys2Proof/Machine/Dispatch.lean ====
section
/-!
DEFINITION. One arm per command: which meaning it has.
-/

namespace Sys2Proof.Machine

def exec (i : Instr) (s : State) : Host.Outcome State Fault Refusal :=
  match i with
  | .hardReset => Sys2Proof.Machine.execHardReset s
  | .enable restart attn => Sys2Proof.Machine.execEnable restart attn s
  | .disable restart attn => Sys2Proof.Machine.execDisable restart attn s
  | .softRestart attn => Sys2Proof.Machine.execSoftRestart attn s
  | .attnEn value => Sys2Proof.Machine.execAttnEn value s
  | .registerWrite reg value => Sys2Proof.Machine.execRegisterWrite reg value s
  | .handover value => Sys2Proof.Machine.execHandover value s
  | .statusClear value => Sys2Proof.Machine.execStatusClear value s
  | .busFaultClear value => Sys2Proof.Machine.execBusFaultClear value s
  | .pfiAsserted => Sys2Proof.Machine.execPfiAsserted s
  | .pfiReleased => Sys2Proof.Machine.execPfiReleased s
  | .loopOnset lane => Sys2Proof.Machine.execLoopOnset lane s
  | .loopEnd lane => Sys2Proof.Machine.execLoopEnd lane s
  | .stuckExpiry lane => Sys2Proof.Machine.execStuckExpiry lane s
  | .sampleFrame frame => Sys2Proof.Machine.execSampleFrame frame s
  | .linkLoss => Sys2Proof.Machine.execLinkLoss s
  | .pollRound => Sys2Proof.Machine.execPollRound s
  | .probeAnswer answer => Sys2Proof.Machine.execProbeAnswer answer s
  | .answerTimeout => Sys2Proof.Machine.execAnswerTimeout s
  | .fieldEdge line level => Sys2Proof.Machine.execFieldEdge line level s
  | .closeDeadline lane => Sys2Proof.Machine.execCloseDeadline lane s
  | .idleDeadline lane slot => Sys2Proof.Machine.execIdleDeadline lane slot s
  | .drainTimeout => Sys2Proof.Machine.execDrainTimeout s
  | .quietEntry => Sys2Proof.Machine.execQuietEntry s
  | .settleEnd => Sys2Proof.Machine.execSettleEnd s
  | .timerExpiry tset => Sys2Proof.Machine.execTimerExpiry tset s
  | .pulseStart line => Sys2Proof.Machine.execPulseStart line s
  | .pulseEnd line => Sys2Proof.Machine.execPulseEnd line s
  | .cascade which => Sys2Proof.Machine.execCascade which s
  | .sweep => Sys2Proof.Machine.execSweep s
  | .flushTimeout => Sys2Proof.Machine.execFlushTimeout s
  | .accessComplete data => Sys2Proof.Machine.execAccessComplete data s
  | .busError => Sys2Proof.Machine.execBusError s
  | .takeResultPage => Sys2Proof.Machine.execTakeResultPage s
  | .takeOrderPage => Sys2Proof.Machine.execTakeOrderPage s
  | .pendingHandover => Sys2Proof.Machine.execPendingHandover s
  | .loadClassTableDone => Sys2Proof.Machine.execLoadClassTableDone s
  | .loadTemperatureCurveDone => Sys2Proof.Machine.execLoadTemperatureCurveDone s
  | .nop => Sys2Proof.Machine.execNop s
  | .setExchange => Sys2Proof.Machine.execSetExchange s
  | .start => Sys2Proof.Machine.execStart s
  | .stop => Sys2Proof.Machine.execStop s
  | .halt => Sys2Proof.Machine.execHalt s
  | .setClock => Sys2Proof.Machine.execSetClock s
  | .setQuiet => Sys2Proof.Machine.execSetQuiet s
  | .reportStatus => Sys2Proof.Machine.execReportStatus s
  | .setSiteGeometry => Sys2Proof.Machine.execSetSiteGeometry s
  | .setChannelMask => Sys2Proof.Machine.execSetChannelMask s
  | .setDetection => Sys2Proof.Machine.execSetDetection s
  | .capture => Sys2Proof.Machine.execCapture s
  | .cancelCapture => Sys2Proof.Machine.execCancelCapture s
  | .setWeighing => Sys2Proof.Machine.execSetWeighing s
  | .setProbes => Sys2Proof.Machine.execSetProbes s
  | .loadTemperatureCurve => Sys2Proof.Machine.execLoadTemperatureCurve s
  | .selectBuiltInCurve => Sys2Proof.Machine.execSelectBuiltInCurve s
  | .setTemperature => Sys2Proof.Machine.execSetTemperature s
  | .loadClassTable => Sys2Proof.Machine.execLoadClassTable s
  | .selectBuiltInClassTable => Sys2Proof.Machine.execSelectBuiltInClassTable s
  | .setAssembly => Sys2Proof.Machine.execSetAssembly s
  | .setChannelFactors => Sys2Proof.Machine.execSetChannelFactors s
  | .setDrift => Sys2Proof.Machine.execSetDrift s
  | .freezeDrift => Sys2Proof.Machine.execFreezeDrift s
  | .resumeDrift => Sys2Proof.Machine.execResumeDrift s
  | .resetDrift => Sys2Proof.Machine.execResetDrift s
  | .restoreDrift => Sys2Proof.Machine.execRestoreDrift s
  | .reportCalibration => Sys2Proof.Machine.execReportCalibration s
  | .lockCalibration => Sys2Proof.Machine.execLockCalibration s
  | .setTrigger => Sys2Proof.Machine.execSetTrigger s
  | .setFieldLines => Sys2Proof.Machine.execSetFieldLines s
  | .controlTriggers => Sys2Proof.Machine.execControlTriggers s

end Sys2Proof.Machine
end

