-- ==== Sys2Proof/Safety.lean ====
section
/-!
DEFINITION. The terms the statements use: what only orders and register writes may change, the invariants
of the part, an order in hand, and the run of one command.
-/

namespace Sys2Proof.Machine

/-! ### What only orders, register writes, pins and time change -/

/-- The parts of the state that no event of traffic, temperature or exchange changes: the site clock, the
pins, every parameter an order sets, the calibration apart from the drift table, the class table, the
trigger definitions, the register window's host-written bits, board memory and the commands waiting. -/
structure Settings where
  clock : Nat
  pins : Pins
  site : Site
  detPar : DetPar
  weighPar : WeighPar
  splitDist : Nat
  curve : Curve
  bounds : List Int
  holdLimit : Nat
  stepLimit : Nat
  interval : Nat
  assign : PerRow RowProbes
  factors : Tab 16 Nat
  calGen : Nat
  window : Nat
  maxStep : Nat
  lower : Nat
  upper : Nat
  driftOn : Tab 4 Bool
  frozen : Bool
  lock : Bool
  classes : List ClassEntry
  clsGen : Nat
  clsLastGen : Nat
  sweepMs : Nat
  flushMs : Nat
  quietEnable : Bool
  idleDelay : Nat
  settleCount : Nat
  enable : Bool
  attnEn : Bool
  xbase : Word
  handover : Word
  triggers : Tab 8 TriggerDef
  mem : List Host.Cell
  pending : List Instr
  deriving DecidableEq, Repr

def State.settings (s : State) : Settings :=
  { clock := s.clock, pins := s.pins, site := s.site, detPar := s.det.par, weighPar := s.axle.par, splitDist := s.veh.splitDist,
    curve := s.temp.curve, bounds := s.temp.bounds, holdLimit := s.temp.holdLimit, stepLimit := s.temp.stepLimit,
    interval := s.temp.interval, assign := s.temp.assign, factors := s.cal.factors, calGen := s.cal.gen, window := s.cal.window,
    maxStep := s.cal.maxStep, lower := s.cal.lower, upper := s.cal.upper, driftOn := s.cal.enables, frozen := s.cal.frozen,
    lock := s.cal.lock, classes := s.cls.active, clsGen := s.cls.gen, clsLastGen := s.cls.lastGen, sweepMs := s.ex.sweepMs,
    flushMs := s.ex.flushMs, quietEnable := s.ctrl.quietEnable, idleDelay := s.ctrl.idleDelay, settleCount := s.ctrl.settleCount,
    enable := s.regs.enable, attnEn := s.regs.attnEn, xbase := s.regs.xbase, handover := s.regs.handover,
    triggers := s.trig.sets.map (·.dfn), mem := s.mem, pending := s.pending }

/-! ### Invariants -/

/-- The ports hold together: XBASE is a multiple of 4,096 (R146) and SERIAL shows the closures made (R157). -/
def State.PortsConsistent (s : State) : Prop := s.regs.xbase.toNat % 4096 = 0 ∧ s.regs.serial = toWord s.ex.closures

/-- The drift table lies inside its limits, the limits inside their ranges, and every tally below the
window (R113, R114, R116, R117). -/
def State.DriftBounded (s : State) : Prop :=
  (8192 ≤ s.cal.lower ∧ s.cal.lower ≤ 16384 ∧ 16384 ≤ s.cal.upper ∧ s.cal.upper ≤ 24576 ∧ 8 ≤ s.cal.window)
    ∧ ∀ lane band, s.cal.lower ≤ ((s.cal.cells.get lane).get band).kd ∧ ((s.cal.cells.get lane).get band).kd ≤ s.cal.upper
        ∧ ((s.cal.cells.get lane).get band).count < s.cal.window

/-- At most one pulse of a schedule runs (R140). -/
def oneRuns (ps : List Pulse) : Prop := (ps.filter (·.running)).length ≤ 1

/-- The lists and schedules stay within what the part holds: 64 records (R154), 32 hits a row (R31), 16
waiting row-A axles (R43), 1,024 frames (R33), four pulses a line, one of them running (R139, R140), 32 axles
a context (R91). -/
structure State.Bounded (s : State) : Prop where
  queue : s.rw.queue.length ≤ 64
  hitsA : s.det.hits.a.length ≤ 32
  hitsB : s.det.hits.b.length ≤ 32
  rowA : s.axle.rowA.length ≤ 16
  frames : s.history.frames.length ≤ 1024
  pulses : ∀ l, (s.trig.lines.get l).pulses.length ≤ 4 ∧ oneRuns (s.trig.lines.get l).pulses
  axles : ∀ lane slot c, s.context lane slot = some c → c.axles.length ≤ 32

/-- The result page the Record Writer fills. -/
def State.resultFilling (s : State) : Option Page := s.rw.page.map (·.page)

/-- The trace page the capture unit fills. -/
def State.traceFilling (s : State) : Option Page :=
  match s.cap.st with
  | .capturing c => c.page.map (·.page)
  | _ => none

/-- The order page the order reader has taken. -/
def State.orderTaken (s : State) : Option Page := s.ex.taken.map (·.page)

/-- The page a directory access of the sweeper is for. -/
def EntryWork.page : EntryWork → Page
  | .readEntry p _ => p
  | .refuse p _ _ => p

/-- The page table says where each page stands, and each page stands in at most one place (R150); the
sweeper works on a page that is not the part's (R151, R152). -/
structure State.PagesOwned (s : State) : Prop where
  resultNodup : s.ex.resultList.Nodup
  traceNodup : s.ex.traceList.Nodup
  orderNodup : (s.ex.orderList.map (·.1)).Nodup
  queuedResult : ∀ p, s.ex.table.get p = .queuedResult ↔ p ∈ s.ex.resultList
  queuedTrace : ∀ p, s.ex.table.get p = .queuedTrace ↔ p ∈ s.ex.traceList
  queuedOrder : ∀ p, s.ex.table.get p = .queuedOrder ↔ p ∈ s.ex.orderList.map (·.1)
  filling : ∀ p, s.ex.table.get p = .filling ↔ s.resultFilling = some p ∨ s.traceFilling = some p
  fillOnce : ∀ p, ¬(s.resultFilling = some p ∧ s.traceFilling = some p)
  taken : ∀ p, s.ex.table.get p = .taken ↔ s.orderTaken = some p
  work : ∀ w, s.ex.work = some w → s.ex.table.get w.page = .notMine

/-- The part is measuring: a measuring run state, and no power-fail sequence in progress, which stops the Hit
Detector and closes every context as it begins (R177). -/
def State.measuring (s : State) : Bool := s.run.measures && s.powerIdle

/-- The run state agrees with ENABLE and with what may stand in it: DISABLED stands exactly while ENABLE is 0
(R146, R167, R173); a power-fail sequence runs in a working run state (R177); while the part does not measure,
every channel is OFF, no hit and no row-A axle is held, and no context stands (R29, R48, R96, R177). -/
structure State.RunConsistent (s : State) : Prop where
  enable : s.run = .disabled ↔ s.regs.enable = false
  power : s.powerIdle = false → s.run.works = true
  channels : s.measuring = false → ∀ c, s.det.chans.get c = .off
  hits : s.measuring = false → s.det.hits.a = [] ∧ s.det.hits.b = []
  rowA : s.measuring = false → s.axle.rowA = []
  contexts : s.measuring = false → s.noContext = true

/-- The Record Writer holds together: a record being written is pinned at the head of the queue, so that no later record
displaces it (R154, R156); while BUS_FAULT stands no resumption is in progress and the page is at rest (R163, R164). -/
structure State.WriterConsistent (s : State) : Prop where
  writing : ∀ p k, s.rw.page = some p → p.phase = .record k → s.rw.pinned = true ∧ s.rw.queue ≠ []
  faulted : s.regs.busFault = true → s.ex.resuming = false ∧ ∀ p, s.rw.page = some p → p.phase = .rest

/-- The order reader is reading, or has read, the inline data of a LOAD TEMPERATURE CURVE. -/
def ReadPhase.loadsCurve : ReadPhase → Bool
  | .loading .loadTemperatureCurve _ _ => true
  | .loaded .loadTemperatureCurve _ _ => true
  | _ => false

/-- With the lock set, no LOAD TEMPERATURE CURVE is under way: it is answered LOCKED before its data is
read (R76), and orders are taken one at a time (R159). -/
def State.NoCurveUnderLock (s : State) : Prop :=
  s.cal.lock = true → ∀ t, s.ex.taken = some t → t.phase.loadsCurve = false

/-- The place of a requester in the fixed priority, 1 the highest (R162). -/
def Requester.place : Requester → Nat
  | .recordWriter => 1
  | .traceWriter => 2
  | .orderReader => 3
  | .sweeper => 4

/-! ### Quantities the spec defines, written out -/

/-- The close margin in ticks (R94): 24,576 without a last speed, else the distance (d_OA − Lp + D + 2,000) × 8,192 / v
rounded half up and clamped to 410..24,576. -/
def marginOf (g : LaneGeom) (v : Option Nat) : Nat :=
  match v with
  | none => 24576
  | some v => max 410 (min 24576 ((2 * ((g.dOA + g.d + 2000 - g.lp) * 8192) + v) / (2 * v)))

/-- The sequence finding of a frame against a reference number (R13). -/
def findingOf (ref : Option (BitVec 8 × Nat)) (seq : BitVec 8) : Finding :=
  match ref with
  | none => .first
  | some (r, _) =>
    let k := (seq.toNat + 255 - r.toNat) % 256
    if k = 0 then .inSequence else if k ≤ 8 then .gap k else .broken

/-- A frame accepted now: it becomes the reference, is counted where it shows a gap, and enters the history (R12 to R14, R33). -/
def State.accepted (s : State) (f : Frame) : State :=
  { s with
    link :=
      { ref := some (f.seq, s.clock), silence := some 0, fault := false,
        gaps := match findingOf s.link.ref f.seq with
          | .gap _ => min 4294967295 (s.link.gaps + 1)
          | .broken => min 4294967295 (s.link.gaps + 1)
          | _ => s.link.gaps }
    history :=
      { frames := ({ num := s.history.next, tick := s.clock, samples := f.samples, overRange := f.overRange,
                     finding := findingOf s.link.ref f.seq } :: s.history.frames).take 1024
        next := s.history.next + 1 } }

/-- A context just opened by a loop onset (R86). -/
def contextAtOnset (serial onset : Nat) : Context :=
  { serial := serial, onset := some onset, loopEnd := none, axles := [], total := 0, lastSpeed := none, closeDeadline := none,
    idleDeadline := none, lastJoin := 0, noLoop := false, stuckLoop := false, splitBefore := false }

/-- The middle one of three readings: it stands among them, with one of the others on either side (R67). -/
def isMedian (m a b c : Int) : Prop :=
  (m = a ∧ ((b ≤ a ∧ a ≤ c) ∨ (c ≤ a ∧ a ≤ b))) ∨ (m = b ∧ ((a ≤ b ∧ b ≤ c) ∨ (c ≤ b ∧ b ≤ a)))
    ∨ (m = c ∧ ((a ≤ c ∧ c ≤ b) ∨ (b ≤ c ∧ c ≤ a)))

/-- A number lies in a range, ends included. -/
def within (lo hi n : Nat) : Bool := decide (lo ≤ n) && decide (n ≤ hi)

/-- A number brought into a range (00_scope.md 4.3). -/
def bring (lo hi n : Nat) : Nat := max lo (min hi n)

/-- The answer to an order whose fields, given with their positions, are stored clamped: CLAMPED with the position of
the first one out of range, or DONE (R159). -/
def rangeAnswer (fields : List (Nat × Bool)) : OrderOutcome × Nat :=
  match fields.find? fun f => !f.2 with
  | some f => (.clamped, f.1)
  | none => (.done, 0)

/-- A record of the given kind and words joins a queue of fewer than 31 records with the next stream serial; NO_PAGE is
set when no result page is FILLING or lent (R153, R154, R155). -/
def State.recorded (s : State) (r : Rec) : State :=
  { s with
    rw.created := s.rw.created + 1
    rw.queue := s.rw.queue ++ [r]
    regs.noPage := s.regs.noPage || (s.rw.page.isNone && s.ex.resultList.isEmpty) }

/-- A quotient rounded half up (00_scope.md 4.3). -/
def halfUp (num den : Nat) : Nat := (2 * num + den) / (2 * den)

/-- A 32-bit counter raised by `k`, standing at its top (10, R181). -/
def raised (n k : Nat) : Nat := min 4294967295 (n + k)

/-- A number of 16 bits raised by one, 65,535 followed by 1. -/
def nextOf16 (n : Nat) : Nat := if n < 65535 then n + 1 else 1

/-- The state with a slot of a lane given a context. -/
def State.withSlot (s : State) (l : Lane) (k : Slot) (c : Context) : State :=
  { s with veh.lanes := s.veh.lanes.set l ((s.veh.lanes.get l).set k (some c)) }

/-! ### Hits and row axles, as chapter 3 words them -/

/-- A held hit is a candidate for an offered one (R39, R2): the other half of its lane and row, or its boundary
neighbour, with a centroid at most 16 × w away. -/
def State.PairCandidate (s : State) (h c : Hit) : Prop :=
  ((c.chan.val / 2 = h.chan.val / 2 ∧ c.chan ≠ h.chan)
    ∨ (h.chan.val % 2 = 1 ∧ c.chan.val = h.chan.val + 3 ∧ h.chan.val / 4 + 1 < s.site.laneCount)
    ∨ (h.chan.val % 2 = 0 ∧ c.chan.val + 3 = h.chan.val ∧ h.chan.val / 4 < s.site.laneCount))
  ∧ |(c.centroid : Int) - h.centroid| ≤ 16 * (s.axle.par.window : Int)

/-- Of two candidates for an offered hit, the first stands before the second or level with it (R40): the same lane,
then the smaller difference, the lower lane, the lower centroid. -/
def pairsBefore (h c d : Hit) : Prop :=
  let same (x : Hit) : Prop := x.chan.val / 4 = h.chan.val / 4
  let apart (x : Hit) : Int := |(x.centroid : Int) - h.centroid|
  (same c ∧ ¬same d)
    ∨ ((same c ↔ same d) ∧ (apart c < apart d ∨ (apart c = apart d ∧ (c.chan.val / 4 < d.chan.val / 4
        ∨ (c.chan.val / 4 = d.chan.val / 4 ∧ c.centroid ≤ d.centroid)))))

/-- The row axle of two hits (R41), `n` the one that gives the near wheel: the near half of a lane, or the hit of the
lower lane of a straddle. -/
def pairedAxle (n f : Hit) : RowAxle :=
  { row := chanRow n.chan, lane := chanLane n.chan, straddle := decide (n.chan.val / 4 ≠ f.chan.val / 4),
    centroid := halfUp (n.centroid + f.centroid) 2, near := some { chan := n.chan, area := n.area },
    far := some { chan := f.chan, area := f.area }, clipped := n.clipped || f.clipped, gap := n.gap || f.gap,
    long := n.long || f.long, settling := n.settling || f.settling, oneWheel := false }

/-- The row axle of one hit (R42). -/
def loneAxle (h : Hit) : RowAxle :=
  let w : Wheel := { chan := h.chan, area := h.area }
  { row := chanRow h.chan, lane := chanLane h.chan, straddle := false, centroid := h.centroid,
    near := if h.chan.val % 2 = 0 then some w else none, far := if h.chan.val % 2 = 1 then some w else none, clipped := h.clipped,
    gap := h.gap, long := h.long, settling := h.settling, oneWheel := true }

/-- An axle as it is handed on with one row part (R44). -/
def handedAxle (id : Nat) (a b : Option RowAxle) (stage : AxleStage) (flags : AxleFlags) : Axle :=
  { id := id, partA := a, partB := b, stage := stage, own := none, borrowed := none,
    loads := { aNear := 0, aFar := 0, bNear := 0, bFar := 0, near := 0, far := 0, totalA := 0, totalB := 0, load := 0 },
    flags := flags, grade := none, prov := 0 }

/-- The axle becomes SINGLE_ROW with flag 7 (R44). -/
def asSingleRow (x : Axle) : Axle := { x with stage := .singleRow, flags := x.flags ||| 0x00080 }

/-- One of the four channels of a lane of an axle's row parts is FAULTED or OFF (R60). -/
def State.ChannelFaultOn (s : State) (x : Axle) : Prop :=
  ∃ p, (x.partA = some p ∨ x.partB = some p) ∧ ∃ l ∈ p.lanes, ∃ c : Chan, c.val / 4 = l.val
    ∧ (s.det.chans.get c = .off ∨ ∃ b, s.det.chans.get c = .faulted b)

/-- An axle with own speed `v` may lend it to axle `x`, at distance `d`, its centroid of the row being `k`: both have a
part in the row of `x`, row A where `x` has a row A part (R50). -/
def Lends (x m : Axle) (d k v : Nat) : Prop :=
  m.own = some v
    ∧ ((∃ p q, x.partA = some p ∧ m.partA = some q ∧ k = q.centroid ∧ (d : Int) = |(p.centroid : Int) - q.centroid|)
      ∨ (x.partA = none ∧ ∃ p q, x.partB = some p ∧ m.partB = some q ∧ k = q.centroid
        ∧ (d : Int) = |(p.centroid : Int) - q.centroid|))

/-- The match horizon of a row-A axle in 1/16 tick (R45). -/
def State.matchHorizon (s : State) (p : RowAxle) : Nat :=
  p.centroid + 16 * (halfUp ((s.site.geom.get p.lane).d * 8192) s.axle.par.vmin + s.axle.par.window)

/-! ### Vehicles, as chapter 5 words them -/

/-- A lane holds a context (R88). -/
def State.Holds (s : State) (l : Lane) : Prop := ∃ k c, s.context l k = some c

/-- The latest provisional row-A time among a list of axles (R88, R93). -/
def IsLatest (xs : List Axle) (t : Int) : Prop := (∃ x ∈ xs, x.prov = t) ∧ ∀ x ∈ xs, x.prov ≤ t

/-- The held axles of a lane, both contexts together (R88). -/
def State.axlesOf (s : State) (l : Lane) : List Axle :=
  (match s.context l .closingSlot with | some c => c.axles | none => [])
    ++ (match s.context l .openSlot with | some c => c.axles | none => [])

/-- The onset tick of a lane: its OPEN context's, or its CLOSING one's where it has no OPEN one (R88 step 3). -/
def State.onsetOf (s : State) (l : Lane) : Option Nat :=
  match s.context l .openSlot, s.context l .closingSlot with
  | some c, _ => c.onset
  | none, some c => c.onset
  | none, none => none

/-- An axle straddling lanes `n` and `m` belongs to the upper lane `m` (R88 steps 1 to 4): it alone holds a context; or
both do and its axles are the nearer in time, or the only ones, or neither has any and its onset is the earlier. Ticks
are compared by their distance from the clock (log 5). -/
def State.UpperLane (s : State) (n m : Lane) (ref : Nat) : Prop :=
  (s.Holds m ∧ ¬s.Holds n)
    ∨ (s.Holds m ∧ s.Holds n
      ∧ ((∃ tn tm, IsLatest (s.axlesOf n) tn ∧ IsLatest (s.axlesOf m) tm ∧ |(ref : Int) - tm| < |(ref : Int) - tn|)
        ∨ (s.axlesOf n = [] ∧ s.axlesOf m ≠ [])
        ∨ (s.axlesOf n = [] ∧ s.axlesOf m = []
          ∧ ∃ a b, s.onsetOf n = some a ∧ s.onsetOf m = some b ∧ tickOffset s.clock b < tickOffset s.clock a)))

/-- `l` is the primary lane of an axle whose lane set is that of part `p` (R88). -/
def State.PrimaryLane (s : State) (p : RowAxle) (l : Lane) : Prop :=
  (p.straddle = false ∧ l = p.lane)
    ∨ (p.straddle = true ∧ ∃ m : Lane, m.val = p.lane.val + 1
        ∧ ((s.UpperLane p.lane m p.centroid ∧ l = m) ∨ (¬s.UpperLane p.lane m p.centroid ∧ l = p.lane)))

/-- The mean of the own speeds of some axles, rounded half up, or `d` where none has one (R89, R100). -/
def ownMeanOr (d : Nat) (xs : List Axle) : Nat :=
  let vs := xs.filterMap (·.own)
  if vs = [] then d else halfUp vs.sum vs.length

/-- The provisional row-A time of an axle in a context with a last speed (R91). -/
def State.provisional (s : State) (x : Axle) (last : Option Nat) : Int :=
  match x.partA, x.partB with
  | some p, _ => p.centroid
  | none, some p =>
    (p.centroid : Int) - (halfUp ((s.site.geom.get p.lane).d * 131072) (last.getD s.axle.par.vmax) : Nat)
  | none, none => 0

/-- The idle time of a NO_LOOP context in ticks (R95). -/
def State.idleTicks (s : State) (last : Option Nat) : Nat :=
  match last with
  | none => 24576
  | some v => halfUp (s.veh.splitDist * 8192) v

/-- An axle as the first of a context just opened (R90, R91, R93): no last speed yet, so vmax stands for it. -/
def State.firstOf (s : State) (x : Axle) (c : Context) : Context :=
  { c with
    axles := [{ x with prov := s.provisional x none }]
    total := 1
    lastSpeed := none
    lastJoin := s.clock
    idleDeadline := if c.noLoop then some ((s.clock + 24576) % 281474976710656) else none }

/-- The equivalent row-A time of an axle at its vehicle's close (R98). -/
def State.equivalent (s : State) (x : Axle) : Int :=
  match x.partA, x.partB, x.speed? with
  | some p, _, _ => p.centroid
  | none, some p, some v => (p.centroid : Int) - (halfUp ((s.site.geom.get p.lane).d * 131072) v : Nat)
  | none, some p, none => p.centroid
  | none, none, _ => 0

/-- The spacing of axle `i` of an order from the one before it, none where it is unknown (R99). -/
def State.gap (s : State) (xs : List Axle) (i : Nat) : Option Nat :=
  if i = 0 then some 0
  else match xs[i - 1]?, xs[i]? with
    | some x, some y =>
      match x.speed?, y.speed? with
      | some v, some w => some (min 65535 (halfUp ((s.equivalent y - s.equivalent x).toNat * (w + v)) 262144))
      | _, _ => none
    | _, _ => none

/-- A class entry holds for a vehicle (R102): `n` its axle count, `stored` its stored axles, `gap` their spacings. -/
def ClassEntry.Takes (e : ClassEntry) (n stored : Nat) (gap : Nat → Option Nat) (grade : Grade) (gross first : Nat) : Prop :=
  (e.axMin ≤ n ∧ n ≤ e.axMax)
    ∧ (∀ k w, e.windows[k]? = some w → k + 1 < stored → match gap (k + 1) with
        | some g => w.1 ≤ g ∧ g ≤ w.2
        | none => w = (0, 65535))
    ∧ (∀ lo hi, e.gross = some (lo, hi) → grade ≠ .unweighed ∧ lo ≤ gross ∧ gross ≤ hi)
    ∧ (∀ m, e.firstMin = some m → grade ≠ .unweighed ∧ m ≤ first)

/-- The worse of two grades by their codes (R61). -/
def worseOf (g h : Grade) : Grade := if g.code ≤ h.code then h else g

/-! ### Records -/

/-- A record created now: it takes the next stream serial, whose low ten bits stand in bits 22 to 31 of its first
word as the stamp (R153; 10, 10.4). -/
def State.newRecord (s : State) (k : RecKind) (ws : List Nat) : Rec :=
  { serial := s.rw.created + 1, kind := k,
    words := match ws with
      | [] => []
      | w :: rest => BitVec.ofNat 32 (w + 4194304 * ((s.rw.created + 1) % 1024)) :: rest.map (BitVec.ofNat 32) }

/-- A calibration record made now, of a kind with its lane number, band, limit and cause, 0 where the kind carries none
(log 50), and its words 3 to 6 (R122; 10, 10.4). -/
def State.calRecord (s : State) (kind limit cause lane band w3 w4 w5 w6 : Nat) : Rec :=
  s.newRecord .other
    [ 3 + 8 * (if s.cal.lock then 1 else 0) + 16 * kind + 256 * limit + 512 * cause, s.clock % 4294967296,
      s.cal.gen + 65536 * lane + 1048576 * band, w3, w4, w5, w6, s.clock / 4294967296 % 65536 ]

/-- The low 16 bits of a signed number (R181). -/
def half (i : Int) : Nat := (i % 65536).toNat

/-- What a probe's state at a second's close adds to the running summary (R80). -/
def summed (p : ProbeState) (m : ProbeSum) : ProbeSum :=
  match p with
  | .good _ _ _ f _ _ =>
    let v : Int := ((f + 8) / 16 : Nat) - 400
    { good := m.good + 1, sumF := m.sumF + f,
      range := some (match m.range with
        | some (lo, hi) => (min lo v, max hi v)
        | none => (v, v)) }
  | _ => m

/-- An event reaches the Trigger Unit, which takes events in the working run states (R129). -/
def State.told (s : State) (e : TrigEvent) : State :=
  { s with trig.waiting := if s.run.works then s.trig.waiting ++ [e] else s.trig.waiting }

/-- A record is lost (R154): it is counted by its kind, in the status counters and in the counts for the next page
header, and RECORD_LOST is handed on unless it is a trigger record. -/
def State.lost (s : State) (k : RecKind) : State :=
  match k with
  | .vehicle =>
    ({ s with rw.lostVehicle := raised s.rw.lostVehicle 1, rw.headerVehicle := s.rw.headerVehicle + 1 } : State).told (.recordLost true)
  | .other =>
    ({ s with rw.lostOther := raised s.rw.lostOther 1, rw.headerOther := s.rw.headerOther + 1 } : State).told (.recordLost false)
  | .trigger => { s with rw.lostOther := raised s.rw.lostOther 1, rw.headerOther := s.rw.headerOther + 1 }

/-! ### Chains of a cascade -/

/-- Set `n` fires in state `s` (R134, and R135 less its activate mask): pulse, timer, capture and report in order, a ONCE
set disabled, then the sets of its enable mask enabled and those of its disable mask disabled. -/
def FiresOnce (e : TrigEvent) (n : SetId) (activated : Bool) (s t : State) : Prop :=
  let d := (s.trig.sets.get n).dfn
  let p := firePulse e n s
  let c := fireCapture e n (fireTimer n p.1)
  let r := fireReport e n activated p.2 c.2 c.1
  ∃ sets : Tab 8 TriggerSet, t = { r with trig.sets := sets }
    ∧ ∀ m, sets.get m = { r.trig.sets.get m with
        enabled := if d.disableMask.getLsbD m.val then false
          else d.enableMask.getLsbD m.val || ((r.trig.sets.get m).enabled && !(d.once && decide (m = n))) }

/-- The sets of a mask among `ns` are taken in turn, from state `a.1` with the sets of `a.2` fired (R135): each enabled
one that has not fired fires, with its own activate mask done, before the next is taken. -/
inductive Activates (e : TrigEvent) : BitVec 8 → List SetId → State × BitVec 8 → State × BitVec 8 → Prop where
  | done (mask : BitVec 8) (a : State × BitVec 8) : Activates e mask [] a a
  | passed {mask : BitVec 8} {n : SetId} {ns : List SetId} {a b : State × BitVec 8}
      (h : ¬(mask.getLsbD n.val = true ∧ (a.1.trig.sets.get n).enabled = true ∧ a.2.getLsbD n.val = false))
      (rest : Activates e mask ns a b) : Activates e mask (n :: ns) a b
  | taken {mask : BitVec 8} {n : SetId} {ns : List SetId} {a b c : State × BitVec 8} {t : State}
      (inMask : mask.getLsbD n.val = true) (enabled : (a.1.trig.sets.get n).enabled = true) (unfired : a.2.getLsbD n.val = false)
      (fires : FiresOnce e n true a.1 t)
      (chain : Activates e (a.1.trig.sets.get n).dfn.activateMask (indices 8) (t, a.2 ||| BitVec.ofNat 8 (2 ^ n.val)) b)
      (rest : Activates e mask ns b c) : Activates e mask (n :: ns) a c

/-- The sets of `ns` are considered in turn for an event (R133): each enabled one that has not fired and whose factor
matches fires, with its activate mask done, before the next is considered. -/
inductive Considers (e : TrigEvent) : List SetId → State × BitVec 8 → State × BitVec 8 → Prop where
  | done (a : State × BitVec 8) : Considers e [] a a
  | passed {n : SetId} {ns : List SetId} {a b : State × BitVec 8}
      (h : ¬((a.1.trig.sets.get n).enabled = true ∧ a.2.getLsbD n.val = false ∧ factorMatches a.1 n e = true))
      (rest : Considers e ns a b) : Considers e (n :: ns) a b
  | taken {n : SetId} {ns : List SetId} {a b c : State × BitVec 8} {t : State}
      (enabled : (a.1.trig.sets.get n).enabled = true) (unfired : a.2.getLsbD n.val = false)
      (matches_ : factorMatches a.1 n e = true) (fires : FiresOnce e n false a.1 t)
      (chain : Activates e (a.1.trig.sets.get n).dfn.activateMask (indices 8) (t, a.2 ||| BitVec.ofNat 8 (2 ^ n.val)) b)
      (rest : Considers e ns b c) : Considers e (n :: ns) a c

/-! ### The power-fail sequence -/

/-- A power-fail sequence is in progress with nothing of its first four steps waiting for the bus: no order page, no
capture, no bus fault, no resumption (R177). -/
def State.FailPlaces (s : State) (q : PowerSeq) : Prop :=
  s.ctrl.power = some q ∧ s.ex.resuming = false ∧ s.regs.busFault = false ∧ s.ex.taken = none ∧ s.capturing = false

/-! ### The capture unit stopped, the order page abandoned -/

/-- What a stop of the capture unit with an end reason and its directory flag leaves once the command is over (R37, R38).
A unit not CAPTURING is IDLE, but for an arm request of a cascade that the command itself ran. A capture with no end
taken, or only CLOSE, copies no more: its page goes to its header with the reason, a frame half written given up, an
entry FILLING written first; an end taken before stands, but where its copying runs out of pages. During a bus fault, or
once BUS_FAULT has been cleared in it, the reason and the flag are noted. -/
def State.CaptureStopped (s t : State) (r : EndReason) (flag : BitVec 6) : Prop :=
  t.cap.number = s.cap.number
  ∧ (s.capturing = false →
    (t.cap.st = .idle ∨ ∃ req, t.cap.st = .armed req)
    ∧ (s.noContext = true ∨ (∀ n, (s.trig.sets.get n).dfn.captureAct = none) → t.cap.st = .idle))
  ∧ (∀ c, s.cap.st = .capturing c →
    (s.regs.busFault = true ∨ c.broken = true →
      t.cap.st = .capturing { c with faultEnd := some (c.faultEnd.getD r), noted := c.noted ||| flag })
    ∧ (∀ pg, s.regs.busFault = false → c.broken = false → c.page = some pg →
      ((∀ n q, c.stop = some (n, q) → q = .close) →
        ∃ d x, t.cap.st = .capturing d ∧ d.stop = some (c.pos, r) ∧ d.page = some x ∧ x.page = pg.page ∧ x.frames = pg.frames
          ∧ d.written = c.written
          ∧ (pg.phase = .takeEntry → x = pg) ∧ (pg.phase ≠ .takeEntry → x.phase = .header 0 ∧ x.reason = r))
      ∧ (∀ n q, c.stop = some (n, q) → q ≠ .close →
        (∃ d, t.cap.st = .capturing d ∧ (d.stop = c.stop ∨ ∃ m, d.stop = some (m, .truncated)))
        ∧ (pg.phase = .takeEntry ∨ pg.phase = .closeEntry ∨ (∃ k, pg.phase = .header k) → t.cap.st = s.cap.st))))

/-- A TAKEN order page abandoned with a flag (R161): an order in hand is to be answered ABANDONED. -/
def OrderPage.givenUp (x : OrderPage) (flag : BitVec 6) : OrderPage :=
  { x with
    flags := x.flags ||| flag
    abandon := true
    phase := match x.phase with
      | .params _ len _ _ => .outcome len .abandoned 0 false
      | .ready _ len _ => .outcome len .abandoned 0 false
      | .loading _ len _ => .outcome len .abandoned 0 false
      | .loaded _ len _ => .outcome len .abandoned 0 false
      | .holding len => .outcome len .abandoned 0 false
      | ph => ph }

/-- The pulses in the schedules of the lines (R139). -/
def State.pulseCount (s : State) : Nat := ((indices 4).map fun l => (s.trig.lines.get l).pulses.length).sum

/-! ### The sweep's place -/

/-- Where a sweep just begun stands once the command is over, the sweeper having had no work in hand (R152): at the entry
of the lowest page the table holds NOT_MINE, being read unless handovers pend, which go ahead of it; or, with no such
page, at its end, with the sweep timer at 0. -/
def State.SweepBegun (t : State) : Prop :=
  (∀ p : Page, t.ex.table.get p = .notMine → (∀ q : Page, q.val < p.val → t.ex.table.get q ≠ .notMine) →
    t.ex.sweepTimer = none
      ∧ (t.ex.handovers = [] → t.ex.work = some (.readEntry p false) ∧ t.ex.sweepAt = some (p.val + 1))
      ∧ (t.ex.handovers ≠ [] → t.ex.work = none ∧ t.ex.sweepAt = some 0))
  ∧ ((∀ p : Page, t.ex.table.get p ≠ .notMine) →
    t.ex.work = none ∧ t.ex.sweepAt = none ∧ t.ex.sweepTimer = some (0, halfUp (t.ex.sweepMs * 8192) 1000))

/-! ### An order in hand -/

/-- An order of kind `k`, length `len` and parameter words `ps` is in hand in order page `t`, and the part
executes orders: a working run state, BUS_FAULT clear, no power-fail sequence (R158, R159, R163, R177). -/
def OrderHeld (k : OrderKind) (len : Nat) (ps : List Word) (t : OrderPage) (s : State) : Prop :=
  s.run.works = true ∧ s.regs.busFault = false ∧ s.ctrl.power = none ∧ s.ex.taken = some t ∧ t.phase = .ready k len ps

/-- The inline data of a LOAD in hand has all been read. -/
def LoadHeld (k : OrderKind) (len : Nat) (ps : List Word) (t : OrderPage) (s : State) : Prop :=
  s.run.works = true ∧ s.regs.busFault = false ∧ s.ctrl.power = none ∧ s.ex.taken = some t ∧ t.phase = .loaded k len ps

/-- The state with the order of page `t` answered with an outcome and its detail: its outcome word waits to be
written (R159). -/
def State.answered (s : State) (t : OrderPage) (len : Nat) (a : OrderOutcome × Nat) : State :=
  { s with ex.taken := some { t with phase := .outcome len a.1 a.2 false } }

/-- The state with the reader of page `t` in another phase. -/
def State.reading (s : State) (t : OrderPage) (ph : ReadPhase) : State := { s with ex.taken := some { t with phase := ph } }

/-! ### Layouts of chapter 10 written out, for the round trips -/

/-- A word with values at the given bit positions. -/
def wordOf (fields : List (Nat × Nat)) : Word := BitVec.ofNat 32 ((fields.map fun f => f.2 * 2 ^ f.1).sum)

/-- A present flag as a value. -/
def present {α : Type} (x : Option α) : Nat := if x.isSome then 1 else 0

/-- A flag as a value. -/
def flagOf (b : Bool) : Nat := if b then 1 else 0

/-- The words of a class entry (10, 10.6). -/
def ClassEntry.words (e : ClassEntry) : List Word :=
  let gross := e.gross.getD (0, 0)
  let ref := e.reference.getD (0, 0)
  [ wordOf [(0, e.code), (8, e.axMin), (12, e.axMax), (16, e.windows.length), (20, present e.gross), (21, present e.firstMin),
      (22, present e.reference)],
    wordOf [(0, gross.1)], wordOf [(0, gross.2)], wordOf [(0, e.firstMin.getD 0)], wordOf [(0, ref.1), (16, ref.2)] ]
    ++ e.windows.map fun w => wordOf [(0, w.1), (16, w.2)]

/-- A good class entry (R104) whose values the fields of 10.6 hold. -/
def ClassEntry.fitsLayout (e : ClassEntry) : Prop :=
  (1 ≤ e.code ∧ e.code ≤ 63) ∧ (1 ≤ e.axMin ∧ e.axMin ≤ e.axMax ∧ e.axMax ≤ 12)
    ∧ (e.windows.length ≤ 11 ∧ ∀ w ∈ e.windows, w.1 ≤ w.2 ∧ w.2 ≤ 65535)
    ∧ (∀ lo hi, e.gross = some (lo, hi) → lo ≤ hi ∧ hi ≤ 4294967295)
    ∧ (∀ m, e.firstMin = some m → m ≤ 4294967295)
    ∧ (∀ idx target, e.reference = some (idx, target) → 1 ≤ idx ∧ idx ≤ e.axMax ∧ 1 ≤ target ∧ target ≤ 65535)

/-- A class entry whose values the bit fields of 10.6 hold, good or bad. -/
def ClassEntry.fitsFields (e : ClassEntry) : Prop :=
  e.code < 64 ∧ e.axMin < 16 ∧ e.axMax < 16 ∧ e.windows.length < 16 ∧ (∀ w ∈ e.windows, w.1 ≤ 65535 ∧ w.2 ≤ 65535)
    ∧ (∀ lo hi, e.gross = some (lo, hi) → lo ≤ 4294967295 ∧ hi ≤ 4294967295) ∧ (∀ m, e.firstMin = some m → m ≤ 4294967295)
    ∧ (∀ idx target, e.reference = some (idx, target) → idx < 16 ∧ target ≤ 65535)

/-- An entry with none of the faults of R104. -/
def ClassEntry.Sound (e : ClassEntry) : Prop :=
  (1 ≤ e.code ∧ e.code ≤ 63) ∧ (1 ≤ e.axMin ∧ e.axMin ≤ e.axMax ∧ e.axMax ≤ 12)
    ∧ (e.windows.length ≤ 11 ∧ ∀ w ∈ e.windows, w.1 ≤ w.2) ∧ (∀ lo hi, e.gross = some (lo, hi) → lo ≤ hi)
    ∧ (∀ idx target, e.reference = some (idx, target) → 1 ≤ idx ∧ idx ≤ e.axMax ∧ target ≠ 0)

/-- The words of so many entries, each of five words and as many windows as bits 16 to 19 of its first say, end exactly
at the end of the list (10, 10.6; R183). -/
inductive WalkEnds : Nat → List Word → Prop where
  | none : WalkEnds 0 []
  | entry {n : Nat} {w0 w1 w2 w3 w4 : Word} {windows rest : List Word}
      (count : windows.length = w0.toNat / 65536 % 16) (more : WalkEnds n rest) :
      WalkEnds (n + 1) (w0 :: w1 :: w2 :: w3 :: w4 :: (windows ++ rest))

/-- The value of `width` bits of a word from bit `lo` up. -/
def bitsOf (w : Word) (lo width : Nat) : Nat := w.toNat / 2 ^ lo % 2 ^ width

/-- The fields of a SET TRIGGER that can be bad, with their positions and whether each is good, from its parameter words,
the first of which stands at position 2 (R128; 10, 10.6). Those of an absent action are not looked at (log 13). -/
def triggerFaults (ps : List Word) : List (Nat × Bool) :=
  let w (pos : Nat) : Word := ps.getD (pos - 2) 0
  let set := bitsOf (w 2) 0 4
  let factor := bitsOf (w 2) 16 4
  let distance := (w 8).getLsbD 8
  [ (2, decide (set ≤ 7 ∧ factor ≤ 8)),
    (3, !((w 3).getLsbD (set % 8) || (w 3).getLsbD (8 + set % 8) || (w 3).getLsbD (16 + set % 8))),
    (4, (factor != 1 || !(w 4).getLsbD 8 || decide (bitsOf (w 4) 16 6 ≤ bitsOf (w 4) 24 6))
      && (factor != 4 || decide (bitsOf (w 4) 0 4 ≤ 3)) && (factor != 5 || decide (bitsOf (w 4) 0 2 ≤ 1))),
    (7, factor != 1 || !(w 7).getLsbD 0 || decide (bitsOf (w 7) 4 2 ≤ bitsOf (w 7) 8 2)),
    (8, !(w 8).getLsbD 0 || (decide (bitsOf (w 8) 4 4 ≤ 3) && (!distance || factor == 1))),
    (10, !(w 10).getLsbD 0 || decide (bitsOf (w 10) 4 4 ≤ 7)),
    (11, !(w 11).getLsbD 0 || !(w 11).getLsbD 1 || decide (1 ≤ bitsOf (w 11) 4 3 ∧ bitsOf (w 11) 4 3 ≤ 4)) ]

/-- The factor code (10, 10.7). -/
def Factor.code : Factor → Nat
  | .none => 0
  | .vehicle _ => 1
  | .loopOnset _ => 2
  | .timer => 3
  | .fieldEdge _ _ _ => 4
  | .temperature _ _ _ _ _ => 5
  | .driftLimit _ _ _ => 6
  | .backlog => 7
  | .recordLost _ _ => 8

/-- Words 4 to 7 of SET TRIGGER (10, 10.6). -/
def Factor.words : Factor → List Word
  | .vehicle c =>
    let classes := c.classes.getD (0, 0)
    let grades := c.grades.getD (0, 0)
    [ wordOf [(0, (c.lanes.getD 0).toNat), (8, present c.classes), (16, classes.1), (24, classes.2)],
      wordOf [(0, c.grossMin)], wordOf [(0, c.heaviestMin)],
      wordOf [(0, present c.grades), (4, grades.1), (8, grades.2), (16, (c.flags.getD 0).toNat)] ]
  | .loopOnset lanes => [wordOf [(0, lanes.toNat)], 0, 0, 0]
  | .fieldEdge line rising falling => [wordOf [(0, line.val), (4, flagOf rising), (5, flagOf falling)], 0, 0, 0]
  | .temperature row theta up down degraded =>
    [ wordOf [(0, if row = .a then 0 else 1), (4, flagOf up), (5, flagOf down), (8, flagOf degraded),
        (16, (BitVec.ofInt 16 theta).toNat)], 0, 0, 0 ]
  | .driftLimit lanes lower upper => [wordOf [(0, (lanes.getD 0).toNat), (4, flagOf lower), (5, flagOf upper)], 0, 0, 0]
  | .recordLost vehicles others => [wordOf [(0, flagOf vehicles), (1, flagOf others)], 0, 0, 0]
  | _ => [0, 0, 0, 0]

/-- Words 8 and 9 of SET TRIGGER. -/
def pulseWords : Option PulseAction → List Word
  | none => [0, 0]
  | some p =>
    match p.timing with
    | .fixed delay => [wordOf [(0, 1), (4, p.line.val), (16, p.width)], wordOf [(0, delay)]]
    | .distance dOut => [wordOf [(0, 1), (4, p.line.val), (8, 1), (16, p.width)], wordOf [(0, dOut)]]

/-- The code of a timer operation. -/
def TimerOp.code : TimerOp → Nat
  | .start => 1
  | .stop => 2
  | .restart => 3
  | .other => 0

/-- Word 10 of SET TRIGGER. -/
def timerWord : Option TimerAction → Word
  | none => 0
  | some a => wordOf [(0, 1), (4, a.target.val), (8, a.op.code)]

/-- Words 11 and 12 of SET TRIGGER. -/
def captureWords : Option CaptureAction → List Word
  | none => [0, 0]
  | some a =>
    match a.lane with
    | none => [wordOf [(0, 1), (16, a.pre)], wordOf [(0, a.maxFrames)]]
    | some l => [wordOf [(0, 1), (1, 1), (4, l.val + 1), (16, a.pre)], wordOf [(0, a.maxFrames)]]

/-- Words 2 to 14 of a SET TRIGGER that gives set `n` a definition and an enabled state (10, 10.6). -/
def TriggerDef.words (d : TriggerDef) (n : SetId) (en : Bool) : List Word :=
  [ wordOf [(0, n.val), (8, flagOf en), (9, flagOf d.once), (10, flagOf d.report), (16, d.factor.code)],
    wordOf [(0, d.enableMask.toNat), (8, d.disableMask.toNat), (16, d.activateMask.toNat)] ]
    ++ d.factor.words ++ pulseWords d.pulse ++ [timerWord d.timerAct] ++ captureWords d.captureAct
    ++ [wordOf [(0, d.period)], wordOf [(0, flagOf d.repeats)]]

/-- A factor whose conditions are in their ranges (R128, R130, R131). -/
def Factor.fitsLayout : Factor → Prop
  | .vehicle c =>
    c.lanes ≠ some 0 ∧ c.flags ≠ some 0 ∧ c.grossMin ≤ 4294967295 ∧ c.heaviestMin ≤ 4294967295
      ∧ (∀ lo hi, c.classes = some (lo, hi) → lo ≤ hi ∧ hi ≤ 63) ∧ (∀ lo hi, c.grades = some (lo, hi) → lo ≤ hi ∧ hi ≤ 3)
  | .temperature _ theta _ _ _ => -400 ≤ theta ∧ theta ≤ 850
  | .driftLimit lanes _ _ => lanes ≠ some 0
  | _ => True

/-- A definition for set `n` with every field in its range (R128). -/
def TriggerDef.fitsLayout (d : TriggerDef) (n : SetId) : Prop :=
  d.factor.fitsLayout ∧ (82 ≤ d.period ∧ d.period ≤ 16777215)
    ∧ (d.enableMask.getLsbD n.val = false ∧ d.disableMask.getLsbD n.val = false ∧ d.activateMask.getLsbD n.val = false)
    ∧ (∀ p, d.pulse = some p → 1 ≤ p.width ∧ p.width ≤ 8192
        ∧ (∀ delay, p.timing = .fixed delay → delay ≤ 65535)
        ∧ (∀ dOut, p.timing = .distance dOut → dOut ≤ 100000 ∧ d.factor.code = 1))
    ∧ (∀ a, d.captureAct = some a → a.pre ≤ 1024 ∧ 512 ≤ a.maxFrames ∧ a.maxFrames ≤ 65535)

end Sys2Proof.Machine
end

