-- ==== Sys2Proof/Certificates/Slice0/Obligations.lean ====
section
/-!
DEFINITION. The statements for the provers. Where a statement's next state is written `settleDown u`, `u` is the
state the command's own rule gives, and `settleDown` is what follows every command: requesters at rest take up
their next work, the free port is granted, the quiet idle timer starts or stops (Laws/Settle.lean says what it
leaves alone).
-/

open Sys2Proof Sys2Proof.Machine

/-! ### The machine -/

/-- A step with a command at the front of the queue is the command on the state with the queue's rest. The model's
choice (log 1): with no command waiting a step is one tick. The clock counts modulo 2⁴⁸, each running elapsed-time
counter of R179 counts one tick (the probe answer timer down), the new tick is open to a poll round unless one is in
progress (log 12), the edges of the tick that is over stand (log 46), and nothing else changes. -/
def Obligations.StepRunsFrontCommand : Prop :=
  (∀ (c : Instr) (rest : List Instr) (s : State), s.pending = c :: rest → step s = exec c { s with pending := rest })
  ∧ (∀ s : State, s.pending = [] →
    step s = .next
      { s with
        clock := (s.clock + 1) % 281474976710656
        loops := s.loops.map fun l => match l with
          | .occupied onset n => .occupied onset (n + 1)
          | .vacant => .vacant
          | .stuck onset => .stuck onset
        link.silence := s.link.silence.map fun n => n + 1
        temp.line := s.temp.line.map fun p => { p with left := p.left - 1 }
        temp.secondUsed := s.temp.round.isSome
        trig.edgeTaken := Tab.fill 4 false
        rw.page := s.rw.page.map fun p => { p with flush := p.flush.map fun f => (f.1 + 1, f.2) }
        ex.sweepTimer := s.ex.sweepTimer.map fun t => (t.1 + 1, t.2)
        ctrl.drain := s.ctrl.drain.map fun n => n + 1
        ctrl.quietTimer := s.ctrl.quietTimer.map fun n => n + 1
        ctrl.settle := s.ctrl.settle.map fun t => (t.1 + 1, t.2) })

/-- Only a completed access changes board memory (R162). Each command answers a next state in every state, the same one where it has no
effect (the model's choice, logs 2 and 3), and none touches the queue of commands waiting; a hard reset keeps memory and queue
too (the model's choice, log 9). -/
def Obligations.EveryCommandAnswersNext : Prop :=
  ∀ (c : Instr) (s : State), ∃ t, exec c s = .next t ∧ t.pending = s.pending
    ∧ ((∀ data, c ≠ .accessComplete data) → t.mem = s.mem)

/-- A completed access that writes changes no byte outside the words it was granted for, and one that reads
changes no byte outside the words read, which the command's operand brings (log 3). -/
def Obligations.CompletedAccessStaysInItsWords : Prop :=
  ∀ (data : List Word) (s t : State) (r : Requester),
    Memory.wf s.mem = true → s.ex.grant = some r → exec (.accessComplete data) s = .next t →
      (∀ a ws, s.request r = some (.write a ws) → ∀ b, b < a ∨ a + 4 * ws.length ≤ b → Memory.read t.mem b = Memory.read s.mem b)
      ∧ (∀ a n, s.request r = some (.read a n) → ∀ b, b < a ∨ a + 4 * n ≤ b → Memory.read t.mem b = Memory.read s.mem b)

/-- Hard reset, in any state, leaves the reset state (R167); the pins' levels, board memory and the waiting commands are
not the part's and stay (the model's choice, log 9). The reset state has the values the spec gives (R5, R9, R15,
R29, R32, R38, R64, R84, R103, R109, R125, R145, R166, R167, R176, R179). It meets every invariant
stated below. -/
def Obligations.ResetValues : Prop :=
  ((∀ s : State, exec .hardReset s = .next { State.reset with pins := s.pins, mem := s.mem, pending := s.pending })
  ∧ State.reset.run = .disabled ∧ State.reset.clock = 0
  ∧ (State.reset.regs.enable = false ∧ State.reset.regs.attnEn = false ∧ State.reset.regs.xbase = 0 ∧ State.reset.regs.handover = 0
    ∧ State.reset.regs.serial = 0 ∧ State.reset.regs.busFault = false ∧ State.reset.regs.powerFail = false
    ∧ State.reset.regs.pageClosed = false ∧ State.reset.regs.orderAnswered = false ∧ State.reset.regs.noPage = false)
  ∧ (State.reset.site.laneCount = 0 ∧ (∀ l, State.reset.site.geom.get l = { d := 3000, dOA := 4500, lp := 2000 })
    ∧ ∀ c, State.reset.site.mask.get c = true)
  ∧ (∀ l, State.reset.loops.get l = .vacant) ∧ State.reset.link = { ref := none, silence := none, fault := false, gaps := 0 }
  ∧ State.reset.det.par = { onThr := 400, offThr := 200, onCount := 3, offCount := 4, maxLen := 16384 }
  ∧ (∀ c, State.reset.det.chans.get c = .off) ∧ State.reset.history.frames = [] ∧ State.reset.cap = { st := .idle, number := 0 }
  ∧ State.reset.axle.par = { vmin := 1389, vmax := 55556, bandLow := 8333, bandHigh := 36111, tolerance := 15, window := 64 }
  ∧ ((∀ p, State.reset.temp.probes.get p = .absent) ∧ State.reset.temp.rows = { a := .none, b := .none }
    ∧ State.reset.temp.curve.points = [(-300, 17039), (0, 16630), (200, 16384), (400, 16056), (700, 15647)]
    ∧ State.reset.temp.bounds = [-100, 0, 100, 200, 300, 400, 500]
    ∧ State.reset.temp.holdLimit = 1800 ∧ State.reset.temp.stepLimit = 10 ∧ State.reset.temp.interval = 900)
  ∧ (State.reset.veh.serial = 0 ∧ State.reset.veh.splitDist = 13000 ∧ State.reset.noContext = true)
  ∧ (State.reset.cls.active.map (·.code) = [1, 2, 3, 4, 5, 6, 7, 8] ∧ State.reset.cls.gen = 0 ∧ State.reset.cls.lastGen = 0)
  ∧ ((∀ c, State.reset.cal.factors.get c = 46000) ∧ State.reset.cal.gen = 0
    ∧ (∀ l b, (State.reset.cal.cells.get l).get b
        = { kd := 16384, count := 0, sum := 0, target := none, updates := 0, lastTick := 0, limit := false })
    ∧ State.reset.cal.window = 64 ∧ State.reset.cal.maxStep = 164 ∧ State.reset.cal.lower = 13107 ∧ State.reset.cal.upper = 19661
    ∧ (∀ l, State.reset.cal.enables.get l = true) ∧ State.reset.cal.frozen = false ∧ State.reset.cal.lock = false
    ∧ State.reset.cal.rejected = 0)
  ∧ ((∀ n, (State.reset.trig.sets.get n).enabled = false ∧ (State.reset.trig.sets.get n).dfn.factor = .none
        ∧ (State.reset.trig.sets.get n).timer = .stopped)
    ∧ (∀ l, (State.reset.trig.lines.get l).pulses = [] ∧ State.reset.isInput l = true))
  ∧ ((∀ p, State.reset.ex.table.get p = .notMine) ∧ State.reset.ex.sweepMs = 250 ∧ State.reset.ex.flushMs = 1000
    ∧ State.reset.ex.closures = 0 ∧ State.reset.rw.created = 0 ∧ State.reset.rw.queue = [] ∧ State.reset.rw.pages = 0)
  ∧ (State.reset.ctrl.quietEnable = false ∧ State.reset.ctrl.idleDelay = 60 ∧ State.reset.ctrl.settleCount = 256))
  ∧ (Memory.wf State.reset.mem = true ∧ State.reset.PortsConsistent ∧ State.reset.DriftBounded ∧ State.reset.Bounded
    ∧ State.reset.PagesOwned ∧ State.reset.RunConsistent ∧ State.reset.NoCurveUnderLock ∧ State.reset.WriterConsistent)

/-- Every step keeps board memory in its canonical form. -/
def Obligations.MemoryStaysCanonical : Prop :=
  ∀ s t : State, Memory.wf s.mem = true → step s = .next t → Memory.wf t.mem = true

/-- Every step keeps XBASE a multiple of 4,096 (R146) and SERIAL at the count of closures modulo 2³² (R157). -/
def Obligations.PortsStayConsistent : Prop :=
  ∀ s t : State, s.PortsConsistent → step s = .next t → t.PortsConsistent

/-- Every step keeps the drift limits in their ranges, every drift factor within them, and every tally below
the drift window (R113, R114, R116, R117). -/
def Obligations.DriftFactorsStayInLimits : Prop :=
  ∀ s t : State, s.DriftBounded → step s = .next t → t.DriftBounded

/-- Every step keeps the bounds of the part's lists: queue, hit lists, row-A list, history, schedules, axles. -/
def Obligations.ListsStayBounded : Prop := ∀ s t : State, s.Bounded → step s = .next t → t.Bounded

/-- Every step keeps each page in at most one place, the one the page table says (R150). -/
def Obligations.PagesKeepOneOwner : Prop := ∀ s t : State, s.PagesOwned → step s = .next t → t.PagesOwned

/-- Every step keeps the run state in agreement with ENABLE, and nothing measured while the part does not measure
(R29, R48, R96, R146, R173, R177); and every step keeps a record being written pinned at the head of the queue, and
the page at rest with no resumption in progress while BUS_FAULT stands (R154, R156, R163, R164; pinned: log 43). -/
def Obligations.RunStateStaysConsistent : Prop :=
  (∀ s t : State, s.RunConsistent → step s = .next t → t.RunConsistent)
  ∧ (∀ s t : State, s.WriterConsistent → step s = .next t → t.WriterConsistent)

/-- With the calibration lock set, every step but a hard reset keeps the lock, the channel factors, the site geometry,
the compensation curve, the band boundaries and the drift limits (R124), and no LOAD TEMPERATURE CURVE comes under
way. The drift limits held lie in their ranges (R113), as DriftFactorsStayInLimits says every step keeps them, so a
SET DRIFT that gives them again clamps nothing. -/
def Obligations.LockHoldsSurvey : Prop :=
  ∀ s t : State, s.NoCurveUnderLock → s.DriftBounded → s.cal.lock = true → s.pending.head? ≠ some .hardReset →
    step s = .next t →
    t.cal.lock = true ∧ t.cal.factors = s.cal.factors ∧ t.site.laneCount = s.site.laneCount ∧ t.site.geom = s.site.geom
      ∧ t.temp.curve = s.temp.curve ∧ t.temp.bounds = s.temp.bounds ∧ t.cal.lower = s.cal.lower ∧ t.cal.upper = s.cal.upper
      ∧ t.NoCurveUnderLock

/-- What follows every command, and the port. The quiet idle timer starts or stops (RunTimersExpire), then the Record
Writer (AccessesComplete), the trace writer (CaptureCopiesFrames) and the sweeper (PageEvents), each at rest, take up
their next work, then the port is granted: what each part does has its statement. A free port is granted to the
waiting requester of highest priority, and stays free only when none waits (R162). After a command the port keeps the
access it was granted while its requester asks for anything: that the grant then stands, and that one whose work is
given up frees the port, is the model's choice (log 8). A completed access is written to or read from memory (words
missing from a read are the memory's own, log 3), then its requester goes on, then a resumption in progress
(BusErrorStopsExchange) and a power-fail sequence in progress (PowerFailEnds) go on to their next step; one not in
progress does nothing. A bus error stops the exchange (BusErrorStopsExchange), and a power-fail sequence then goes on.
Without an access granted, neither command has an effect of its own. -/
def Obligations.GrantGoesToHighest : Prop :=
  (∀ s : State,
    (∀ r, s.ex.grant = some r → ((settleDown s).request r).isSome = true → (settleDown s).ex.grant = some r)
    ∧ (∀ r, s.ex.grant = none → (settleDown s).ex.grant = some r →
        ((settleDown s).request r).isSome = true
          ∧ ∀ q, ((settleDown s).request q).isSome = true → r.place ≤ q.place)
    ∧ ((settleDown s).ex.grant = none → ∀ q, (settleDown s).request q = none))
  ∧ (∀ s : State,
    settleDown s = arbitrate (advanceSweeper (advanceTrace (advanceWriter (quietUpdate s))))
    ∧ (∀ r, s.ex.grant = some r → (s.request r).isSome = true → arbitrate s = s)
    ∧ ((∀ r, s.ex.grant = some r → s.request r = none) →
      (∀ r, (s.request r).isSome = true → (∀ q, (s.request q).isSome = true → r.place ≤ q.place) →
        arbitrate s = { s with ex.grant := some r })
      ∧ ((∀ q, s.request q = none) → arbitrate s = { s with ex.grant := none })))
  ∧ (∀ (data : List Word) (s : State),
    (∀ r a, s.ex.grant = some r → s.request r = some a →
      exec (.accessComplete data) s = .next (settleDown (pfProgress (resumeProgress
        (completeFor r (a.perform data s.mem).2 { s with mem := (a.perform data s.mem).1, ex.grant := none })))))
    ∧ ((∀ r, s.ex.grant = some r → s.request r = none) → exec (.accessComplete data) s = .next (settleDown s))
    ∧ (∀ a ws, Access.perform data s.mem (.write a ws) = (Memory.writeWords s.mem a ws, []))
    ∧ (∀ a n, Access.perform data s.mem (.read a n)
      = (Memory.writeWords s.mem a (data.take n), Memory.readWords (Memory.writeWords s.mem a (data.take n)) a n)))
  ∧ (∀ s : State,
    (∀ r, s.ex.grant = some r → exec .busError s = .next (settleDown (pfProgress (takeBusError r s))))
    ∧ (s.ex.grant = none → exec .busError s = .next (settleDown s))
    ∧ (s.powerIdle = true → pfProgress s = s) ∧ (s.ex.resuming = false → resumeProgress s = s))

/-! ### Register writes, hard reset, PFI -/

/-- ENABLE from 0 to 1 in DISABLED with PFI released: READY begins (R167). Loops of lanes up to the lane count take up
their levels and the others are VACANT (R9); the receiver listens with no reference (R15); probes restart (R71); input
lines take up their levels (R126); the summary restarts SHORT (R82); a sweep begins (R146) unless BUS_FAULT stands, at
the lowest page the table holds NOT_MINE, or at its end with the timer at 0 where there is none (R152); of the
settings only ENABLE and ATTN_EN change. RESTART in the same write is ignored. With PFI asserted the part begins READY
and at once the power-fail sequence: no sweep stands, and with nothing held it is in POWER_FAIL. -/
def Obligations.EnableBeginsReady : Prop :=
  (∀ (restart attn : Bool) (s : State), s.run = .disabled → s.regs.enable = false → s.pins.pfi = false → s.powerIdle = true →
    ∃ t, exec (.enable restart attn) s = .next t
      ∧ t.run = .ready ∧ t.settings = { s.settings with enable := true, attnEn := attn }
      ∧ (∀ l : Lane, t.loops.get l
          = if l.val < s.site.laneCount ∧ s.pins.lp.get l = true then .occupied s.clock 0 else .vacant)
      ∧ t.link = { s.link with ref := none, silence := some 0 }
      ∧ (∀ p, t.temp.probes.get p = match s.temp.probes.get p with
          | .absent => .absent
          | .starting _ _ => .starting [] 0
          | .good .. => .starting [] 0
          | .failed _ => .failed 0)
      ∧ (∀ l, ∀ v, s.trig.lines.get l = .input v → t.trig.lines.get l = .input (s.pins.field.get l))
      ∧ t.temp.summary.short = true ∧ t.temp.summary.start = s.clock / 8192
      ∧ t.temp.summary.next = (s.clock / 8192 / s.temp.interval + 1) * s.temp.interval
      ∧ (s.regs.busFault = false → t.ex.sweepAt.isSome = true ∨ t.ex.sweepTimer.isSome = true)
      ∧ (s.regs.busFault = false →
        (s.ex.work = none → s.ex.resuming = false → t.SweepBegun)
        ∧ (s.ex.work ≠ none ∨ s.ex.resuming = true → t.ex.sweepAt = some 0 ∧ t.ex.sweepTimer = none))
      ∧ t.det = s.det ∧ t.cal = s.cal ∧ t.cls = s.cls ∧ t.veh = s.veh ∧ t.axle = s.axle)
  ∧ (∀ (restart attn : Bool) (s : State), s.run = .disabled → s.regs.enable = false → s.pins.pfi = true → s.powerIdle = true →
    ∃ t, exec (.enable restart attn) s = .next t ∧ t.settings = { s.settings with enable := true, attnEn := attn }
      ∧ (t.run = .powerFail ∨ (t.run = .ready ∧ t.powerIdle = false))
      ∧ t.ex.sweepAt = none ∧ t.ex.sweepTimer = none ∧ t.ex.handovers = [] ∧ (∀ c, t.det.chans.get c = .off) ∧ t.noContext = true
      ∧ t.temp.summary.short = true
      ∧ (s.noContext = true → s.ex.taken = none → s.cap.st = .idle → s.rw.page = none → s.rw.queue = [] → s.ex.resuming = false →
          s.regs.busFault = false → t.run = .powerFail ∧ t.regs.powerFail = true ∧ t.powerIdle = true ∧ ∀ l, t.loops.get l = .vacant))

/-- ENABLE from 1 to 0: the part is disabled (R173). Pages, lists and handovers are forgotten, the queue and the
history empty, loops VACANT, the receiver off, every set disabled and its timer STOPPED, every schedule empty with
each pulse counted discarded (R140), no shadow, the capture unit IDLE; where the part measured, no channel measures
and no context stands. Each record queued, those of the contexts just closed among them, is counted lost under its
kind (R166): exactly where the part does not measure; where it does, short of the counters' top, at least those queued
under each kind and with those created exactly in all. Of the settings only ENABLE and ATTN_EN change. That the access
granted is given up is the model's choice (log 8). -/
def Obligations.DisableForgets : Prop :=
  ∀ (restart attn : Bool) (s : State), s.regs.enable = true →
    ∃ t, exec (.disable restart attn) s = .next t
      ∧ t.run = .disabled ∧ t.settings = { s.settings with enable := false, attnEn := attn }
      ∧ (∀ p, t.ex.table.get p = .notMine) ∧ t.ex.resultList = [] ∧ t.ex.traceList = [] ∧ t.ex.orderList = []
      ∧ t.ex.handovers = [] ∧ t.ex.taken = none ∧ t.ex.sweepTimer = none ∧ t.ex.grant = none ∧ t.rw.page = none
      ∧ t.rw.queue = [] ∧ t.history.frames = [] ∧ (∀ l, t.loops.get l = .vacant)
      ∧ t.link.ref = none ∧ t.link.silence = none ∧ t.link.fault = false
      ∧ (∀ n, (t.trig.sets.get n).enabled = false ∧ (t.trig.sets.get n).timer = .stopped)
      ∧ (∀ l, (t.trig.lines.get l).pulses = []) ∧ t.temp.shadow = none ∧ t.cls.shadow = none ∧ t.temp.line = none
      ∧ t.cap.st = .idle ∧ t.temp.summary.short = true
      ∧ (s.run.measures = true → (∀ c, t.det.chans.get c = .off) ∧ t.noContext = true ∧ t.axle.rowA = [])
      ∧ t.trig.discarded = raised s.trig.discarded s.pulseCount
      ∧ (let queued (vehicle : Bool) : Nat := s.rw.queue.countP fun r => decide (r.kind = .vehicle) == vehicle
        let lostOf (n k : Nat) : Nat := if k = 0 then n else raised n k
        (s.run.measures = false →
          t.rw.lostVehicle = lostOf s.rw.lostVehicle (queued true) ∧ t.rw.lostOther = lostOf s.rw.lostOther (queued false))
        ∧ (s.rw.lostVehicle + s.rw.lostOther + s.rw.queue.length + (t.rw.created - s.rw.created) ≤ 4294967295 →
          s.rw.lostVehicle + queued true ≤ t.rw.lostVehicle ∧ s.rw.lostOther + queued false ≤ t.rw.lostOther
            ∧ t.rw.lostVehicle + t.rw.lostOther
              = s.rw.lostVehicle + s.rw.lostOther + s.rw.queue.length + (t.rw.created - s.rw.created)))

/-- A soft restart, by either command that makes one (R146, R172): READY, no context, no channel measuring, every set
disabled and its timer STOPPED, every counter of the status record 0, the queue emptied but for a record whose writing
is in progress (logs 36 and 43), the summary restarted SHORT. The page is closed before the queue is emptied, so
NO_PAGE is set where that leaves records queued and no page lent (R155, R166). The result page is asked to close with
RESTART, beside no flag of a close asked for before (log 16); the order page is abandoned with RESTART, the order in
hand ABANDONED, a LOAD's shadow dropped (one being refused, or refused when its first header is read, stays so, log
44; one abandoned before for POWER_FAIL keeps that flag too, log 54); a capture ends RESTART where no end but CLOSE
was taken, a frame being copied given up (log 17). During a bus fault all three are noted, and by the model's choice
for the order page in a resumption (log 45) and for a broken capture till its page is closed (log 29). These closes
are asked for here and written by later accesses (the model's choice, log 7). Of the settings only ATTN_EN changes,
and the stream, closure and vehicle serial counts do not fall. -/
def Obligations.SoftRestartClears : Prop :=
  ∀ (attn : Bool) (s : State), s.regs.enable = true → s.run.works = true → s.powerIdle = true →
    ∃ t, exec (.softRestart attn) s = .next t ∧ exec (.enable true attn) s = .next t
      ∧ t.run = .ready ∧ t.settings = { s.settings with attnEn := attn }
      ∧ (∀ c, t.det.chans.get c = .off) ∧ t.det.hits.a = [] ∧ t.det.hits.b = [] ∧ t.axle.rowA = [] ∧ t.noContext = true
      ∧ (∀ n, (t.trig.sets.get n).enabled = false ∧ (t.trig.sets.get n).timer = .stopped)
      ∧ (t.veh.vehicles = 0 ∧ t.veh.axles = 0 ∧ t.det.aborted = 0 ∧ t.det.lost = 0 ∧ t.rw.lostVehicle = 0 ∧ t.rw.lostOther = 0
        ∧ t.ex.stray = 0 ∧ t.link.gaps = 0 ∧ t.trig.dropped = 0 ∧ t.trig.discarded = 0 ∧ t.cal.rejected = 0)
      ∧ ((∀ p k, s.rw.page = some p → p.phase ≠ .record k) → t.rw.queue = [])
      ∧ (∀ p k, s.WriterConsistent → s.rw.page = some p → p.phase = .record k → ∃ r rest, s.rw.queue = r :: rest ∧ t.rw.queue = [r])
      ∧ (∀ p, s.rw.page = some p → (∀ k, p.phase ≠ .record k) → s.rw.queue ≠ [] → s.regs.busFault = false → s.ex.resultList = [] →
          t.regs.noPage = true)
      ∧ (s.rw.page = none → t.rw.page = none)
      ∧ (∀ p, s.rw.page = some p →
          (s.regs.busFault = true → t.rw.page = some { p with noted := p.noted ||| 0x08 })
          ∧ (s.regs.busFault = false → s.ex.resuming = false → t.rw.page = some
              { p with closeWith := some (p.closeWith.getD 0x08), phase := if p.phase = .rest then .closeEntry else p.phase }))
      ∧ (∀ x, s.ex.taken = some x →
          (s.regs.busFault = true ∨ s.ex.resuming = true → t.ex.taken = some { x with flags := x.flags ||| 0x08 })
          ∧ (s.regs.busFault = false → s.ex.resuming = false →
              (x.phase = .refuse → t.ex.taken = some x)
              ∧ (x.phase ≠ .refuse → t.temp.shadow = none ∧ t.cls.shadow = none ∧ t.ex.taken = some
                  { x with
                    flags := x.flags ||| 0x08
                    abandon := true
                    phase := match x.phase with
                      | .params _ len _ _ => .outcome len .abandoned 0 false
                      | .ready _ len _ => .outcome len .abandoned 0 false
                      | .loading _ len _ => .outcome len .abandoned 0 false
                      | .loaded _ len _ => .outcome len .abandoned 0 false
                      | .holding len => .outcome len .abandoned 0 false
                      | ph => ph })))
      ∧ (s.capturing = false → t.cap.st = .idle)
      ∧ (∀ c, s.cap.st = .capturing c →
          (s.regs.busFault = true ∨ c.broken = true →
            t.cap.st = .capturing { c with faultEnd := some (c.faultEnd.getD .restart), noted := c.noted ||| 0x08 })
          ∧ (∀ pg, s.regs.busFault = false → c.broken = false → c.page = some pg → (∀ n r, c.stop = some (n, r) → r = .close) →
              ∃ d x, t.cap.st = .capturing d ∧ d.stop = some (c.pos, .restart) ∧ d.page = some x ∧ x.page = pg.page
                ∧ x.frames = pg.frames ∧ d.written = c.written
                ∧ (pg.phase = .takeEntry → x = pg) ∧ (pg.phase ≠ .takeEntry → x.phase = .header 0 ∧ x.reason = .restart)))
      ∧ t.temp.summary.short = true ∧ t.temp.summary.start = s.clock / 8192
      ∧ s.rw.created ≤ t.rw.created ∧ t.ex.closures = s.ex.closures ∧ t.veh.serial = s.veh.serial

/-- The register window (R146, R147, R151; 10, 10.2). Writes: ATTN_EN is stored, and ATN follows it and the five bits;
XBASE takes a value while ENABLE is 0, without its low 12 bits; IDENT and SERIAL ignore writes; HANDOVER is stored,
and its page waits once, in a working run state with BUS_FAULT clear and no power-fail sequence. Reads: CONTROL,
XBASE, HANDOVER and SERIAL as stored; STATUS with the run state and its nine bits, CHANNEL_FAULT and PROBE_FAULT being
the summaries of the channels FAULTED and the probes FAILED (R29, R71); IDENT with the vendor and part codes; that the
bits of CONTROL the table gives no meaning read 0 is the model's choice (log 21). A write to STATUS clears each bit
written 1, POWER_FAIL only outside its run state (R147). Writing 1 to a standing BUS_FAULT resumes the exchange
(R164): in DISABLED the bit alone is cleared; with no page held the sweep starts at once; a filling result page with
nothing at the bus is first closed DAMAGED with the flags noted, and a capture in progress is one that step 2 ends.
With no result page held the trace page is closed with the end reason first taken during the fault, or BUS_FAULT; with
no trace page the TAKEN order page is answered with DAMAGED beside the flags noted (R38, R164). That events and flags
from before the fault or after its clearing stand so is the model's choice (logs 29 and 45). RATE asks for full rate
in RUNNING, WAKING and DRAINING and for reduced rate in every other run state (R16). An output line is driven active
while a pulse of its schedule runs (R140), and an input line is not driven. -/
def Obligations.RegisterWindow : Prop :=
  (∀ (v : Bool) (s : State), exec (.attnEn v) s = .next (settleDown { s with regs.attnEn := v })
    ∧ (settleDown { s with regs.attnEn := v }).atn
      = (v && (s.regs.pageClosed || s.regs.orderAnswered || s.regs.noPage || s.regs.busFault || s.regs.powerFail)))
  ∧ (∀ (v : Word) (s : State), exec (.registerWrite .ident v) s = .next s ∧ exec (.registerWrite .serial v) s = .next s
    ∧ (s.regs.enable = true → exec (.registerWrite .xbase v) s = .next s)
    ∧ (s.regs.enable = false → ∃ x : Word, x.toNat = v.toNat / 4096 * 4096
        ∧ exec (.registerWrite .xbase v) s = .next { s with regs.xbase := x }))
  ∧ (∀ (v : Word) (p : Page) (s : State), p.val = v.toNat % 64 →
    (s.run.works = true → s.regs.busFault = false → s.powerIdle = true → p ∉ s.ex.handovers →
      exec (.handover v) s = .next (settleDown { s with regs.handover := v, ex.handovers := s.ex.handovers ++ [p] }))
    ∧ (s.run.works = false ∨ s.regs.busFault = true ∨ s.powerIdle = false ∨ p ∈ s.ex.handovers →
      exec (.handover v) s = .next (settleDown { s with regs.handover := v })))
  ∧ (∀ s : State,
      let w := s.readRegister 0x10
      s.readRegister 0x04 = BitVec.ofNat 32 (flagOf s.regs.enable + 4 * flagOf s.regs.attnEn)
      ∧ s.readRegister 0x08 = s.regs.xbase ∧ s.readRegister 0x0C = s.regs.handover ∧ s.readRegister 0x14 = s.regs.serial
      ∧ (s.readRegister 0x00).toNat % 16777216 = 0x3B7 + 4096 * 0x824
      ∧ w.toNat % 16 = (match s.run with
          | .disabled => 0 | .ready => 1 | .running => 2 | .quiet => 3 | .waking => 4 | .draining => 5 | .powerFail => 6)
      ∧ w.getLsbD 4 = s.cal.lock ∧ w.getLsbD 5 = s.link.fault
      ∧ (w.getLsbD 6 = true ↔ ∃ c b, s.det.chans.get c = .faulted b)
      ∧ (w.getLsbD 7 = true ↔ ∃ p n, s.temp.probes.get p = .failed n)
      ∧ w.getLsbD 8 = s.regs.busFault ∧ w.getLsbD 9 = s.regs.powerFail ∧ w.getLsbD 10 = s.regs.pageClosed
      ∧ w.getLsbD 11 = s.regs.orderAnswered ∧ w.getLsbD 12 = s.regs.noPage)
  ∧ (∀ (v : Word) (s : State), (v.getLsbD 8 = true → s.regs.busFault = false) →
    exec (.statusClear v) s = .next (settleDown
      { s with
        regs.powerFail := s.regs.powerFail && !(v.getLsbD 9 && decide (s.run ≠ .powerFail))
        regs.pageClosed := s.regs.pageClosed && !v.getLsbD 10
        regs.orderAnswered := s.regs.orderAnswered && !v.getLsbD 11
        regs.noPage := s.regs.noPage && !v.getLsbD 12 }))
  ∧ (∀ (v : Word) (s : State), exec (.busFaultClear v) s = exec (.statusClear (v ||| 0x100)) s
    ∧ (v.getLsbD 8 = true → s.regs.busFault = true →
      exec (.statusClear v) s = exec (.busFaultClear 0x100)
        { s with
          regs.powerFail := s.regs.powerFail && !(v.getLsbD 9 && decide (s.run ≠ .powerFail))
          regs.pageClosed := s.regs.pageClosed && !v.getLsbD 10
          regs.orderAnswered := s.regs.orderAnswered && !v.getLsbD 11
          regs.noPage := s.regs.noPage && !v.getLsbD 12 }))
  ∧ (∀ s : State, s.regs.busFault = true → s.run = .disabled →
    exec (.busFaultClear 0x100) s = .next (settleDown { s with regs.busFault := false }))
  ∧ (∀ s : State, s.regs.busFault = true → s.run.works = true → s.powerIdle = true → s.rw.page = none → s.capturing = false →
      s.ex.taken = none →
    exec (.busFaultClear 0x100) s
      = .next (settleDown
        { s with regs.busFault := false, ex.resuming := false, ex.sweepAt := some 0, ex.sweepTimer := none }))
  ∧ (∀ (s : State) (p : ResultPage), s.regs.busFault = true → s.run ≠ .disabled → s.rw.page = some p → p.phase = .rest →
    exec (.busFaultClear 0x100) s
      = .next (settleDown
        { s with
          regs.busFault := false
          ex.resuming := true
          cap.st := match s.cap.st with
            | .capturing c => .capturing { c with broken := true }
            | x => x
          rw.page := some { p with phase := .closeEntry, closeWith := some (0x04 ||| p.noted) } }))
  ∧ (∀ (s : State) (c : CaptureRun) (pg : TracePage), s.regs.busFault = true → s.run ≠ .disabled → s.rw.page = none →
      s.cap.st = .capturing c → c.page = some pg → pg.phase = .rest →
    exec (.busFaultClear 0x100) s
      = .next (settleDown
        { s with
          regs.busFault := false
          ex.resuming := true
          cap.st := .capturing
            { c with broken := true, page := some { pg with phase := .header 0, reason := c.faultEnd.getD .busFault } } }))
  ∧ (∀ (s : State) (x : OrderPage), s.regs.busFault = true → s.run ≠ .disabled → s.rw.page = none → s.ex.taken = some x →
      x.phase = .halted →
    let u (cap : CaptureState) : State :=
      { s with
        regs.busFault := false
        ex.resuming := true
        cap.st := cap
        ex.taken := some { x with flags := x.flags ||| 0x04, phase := .answer } }
    (s.capturing = false → exec (.busFaultClear 0x100) s = .next (settleDown (u s.cap.st)))
    ∧ (∀ c, s.cap.st = .capturing c → c.page = none → exec (.busFaultClear 0x100) s = .next (settleDown (u .idle))))
  ∧ (∀ s : State,
    (s.rateFull = true ↔ s.run = .running ∨ s.run = .waking ∨ s.run = .draining)
    ∧ (∀ l v, s.trig.lines.get l = .input v → s.lineActive l = false)
    ∧ (∀ l ps, s.trig.lines.get l = .output ps → (s.lineActive l = true ↔ ∃ p ∈ ps, p.running = true)))

/-- PFI asserted (R177). Outside the working run states it only changes the pin (R167). In a working one the
power-fail sequence begins: no channel measures, no context stands, the sweep stops, pending handovers are dropped, no
run-control timer runs; the sequence is in progress or has ended in POWER_FAIL. An ARMED capture unit is IDLE, a
CAPTURING one stopped with end reason POWER_FAIL (steps 1 and 8, R38), and the TAKEN order page is abandoned with
POWER_FAIL, the order in hand ABANDONED and a LOAD's shadow dropped (step 4, R161), beside a RESTART it was abandoned
with before (the model's choice, log 54). During a bus fault these are noted, and by the model's choice for the order
page in a resumption (log 45), for a broken capture till its page is closed (log 29), and not at all for a page being
refused (log 44). From a READY part with nothing held and nothing queued it ends at once: POWER_FAIL shows in STATUS,
loops are VACANT, the receiver is off, running timers are held with the ticks that remain, counted from the clock (the
model's choice, log 5). -/
def Obligations.PowerFailBegins : Prop :=
  (∀ s : State, s.run.works = false → exec .pfiAsserted s = .next (settleDown { s with pins.pfi := true }))
  ∧ (∀ s : State, s.run.works = true → s.powerIdle = true →
    ∃ t, exec .pfiAsserted s = .next t ∧ t.settings = { s.settings with pins := { s.pins with pfi := true } }
      ∧ (∀ c, t.det.chans.get c = .off) ∧ t.noContext = true ∧ t.axle.rowA = [] ∧ t.ex.sweepAt = none
      ∧ t.ex.work = none ∧ t.ex.sweepTimer = none ∧ t.ex.handovers = []
      ∧ t.ctrl.drain = none ∧ t.ctrl.quietTimer = none ∧ t.ctrl.settle = none
      ∧ (t.run = .powerFail ∨ (t.run = s.run ∧ t.powerIdle = false))
      ∧ s.CaptureStopped t .powerFail 0x10 ∧ (t.run = .powerFail → s.capturing = false → t.cap.st = .idle)
      ∧ (s.ex.taken = none → t.ex.taken = none)
      ∧ (∀ x, s.ex.taken = some x →
          (s.regs.busFault = true ∨ s.ex.resuming = true → t.ex.taken = some { x with flags := x.flags ||| 0x10 })
          ∧ (s.regs.busFault = false → s.ex.resuming = false →
              (x.phase = .refuse → t.ex.taken = some x)
              ∧ (x.phase ≠ .refuse → t.temp.shadow = none ∧ t.cls.shadow = none ∧ t.ex.taken = some (x.givenUp 0x10)))))
  ∧ (∀ s : State, s.run = .ready → s.powerIdle = true → s.regs.busFault = false → s.ex.resuming = false → s.noContext = true →
      s.ex.taken = none → s.cap.st = .idle → s.rw.page = none → s.rw.queue = [] →
    ∃ t, exec .pfiAsserted s = .next t ∧ t.run = .powerFail ∧ t.regs.powerFail = true ∧ t.powerIdle = true
      ∧ (∀ l, t.loops.get l = .vacant) ∧ t.link.ref = none ∧ t.link.silence = none ∧ t.link.fault = false
      ∧ (∀ n due, (s.trig.sets.get n).timer = .running due →
          (t.trig.sets.get n).timer = .held (tickOffset s.clock due) ∧ (t.trig.sets.get n).enabled = (s.trig.sets.get n).enabled)
      ∧ (∀ l, (t.trig.lines.get l).pulses = []))

/-- PFI released (R178). In POWER_FAIL the part enters READY: loops and inputs take up their levels (R9, R126), probes
restart (R71), the receiver listens, held timers resume with what remained (the model's choice, log 5), the sweep
timer starts at 0 unless BUS_FAULT stands, channels and pages stay as they are. In any other run state only the pin
changes. Steps 5 to 7 of the sequence (R177): with records queued and no page FILLING the page at the head of the list
is taken, or with none lent the sequence ends; a page in hand is gone on with. Each record placed is counted, and
after sixteen, or the last queued, the page is asked to close with POWER_FAIL. When a page is closed the next is taken
while fewer than sixteen are placed, records wait and a page is lent; otherwise the sequence ends, as it does at a bus
error with POWER_FAIL noted against a page held. At its end the records still queued are lost by their kinds,
schedules empty with each pulse counted discarded (R140), timers are held, POWER_FAIL shows, and the run state is
POWER_FAIL, or READY where PFI was released meanwhile. The model's choices: the sequence takes its own pages and
places once the order page and the capture are done with (log 18); the events that wait for a cascade are dropped at
its end (log 10). -/
def Obligations.PowerFailEnds : Prop :=
  let ended (s t : State) : Prop :=
    let lostOf (n k : Nat) : Nat := if k = 0 then n else raised n k
    t.ctrl.power = none ∧ t.regs.powerFail = true ∧ t.rw.queue = [] ∧ (s.capturing = false → t.cap.st = .idle) ∧ t.trig.waiting = []
      ∧ t.temp.shadow = none ∧ t.cls.shadow = none
      ∧ t.rw.lostVehicle = lostOf s.rw.lostVehicle (s.rw.queue.countP fun r => decide (r.kind = .vehicle))
      ∧ t.rw.lostOther = lostOf s.rw.lostOther (s.rw.queue.countP fun r => decide (r.kind ≠ .vehicle))
      ∧ (∀ l, (t.trig.lines.get l).pulses = []) ∧ t.trig.discarded = raised s.trig.discarded s.pulseCount
      ∧ (s.pins.pfi = true → ∀ n due, (s.trig.sets.get n).timer = .running due →
          (t.trig.sets.get n).timer = .held (tickOffset s.clock due))
  (∀ s : State, s.run ≠ .powerFail → exec .pfiReleased s = .next (settleDown { s with pins.pfi := false }))
  ∧ (∀ s : State, s.run = .powerFail →
    ∃ t, exec .pfiReleased s = .next t ∧ t.run = .ready ∧ t.settings = { s.settings with pins := { s.pins with pfi := false } }
      ∧ (∀ l : Lane, t.loops.get l
          = if l.val < s.site.laneCount ∧ s.pins.lp.get l = true then .occupied s.clock 0 else .vacant)
      ∧ t.link = { s.link with ref := none, silence := some 0 }
      ∧ (∀ l v, s.trig.lines.get l = .input v → t.trig.lines.get l = .input (s.pins.field.get l))
      ∧ (∀ p, t.temp.probes.get p = match s.temp.probes.get p with
          | .absent => .absent
          | .starting _ _ => .starting [] 0
          | .good .. => .starting [] 0
          | .failed _ => .failed 0)
      ∧ (∀ n left, (s.trig.sets.get n).timer = .held left →
          (t.trig.sets.get n).timer = .running (((s.clock : Int) + left) % 281474976710656).toNat)
      ∧ t.ex.sweepTimer = (if s.regs.busFault then none else some (0, (2 * (s.ex.sweepMs * 8192) + 1000) / 2000))
      ∧ t.regs.powerFail = s.regs.powerFail ∧ t.det = s.det ∧ t.veh = s.veh ∧ t.cal = s.cal ∧ t.ex.table = s.ex.table
      ∧ t.ex.resultList = s.ex.resultList ∧ t.ex.traceList = s.ex.traceList ∧ t.ex.orderList = s.ex.orderList)
  ∧ (∀ s : State, s.run = .ready → s.powerIdle = true → s.regs.busFault = false → s.ex.resuming = false → s.noContext = true →
      s.ex.taken = none → s.cap.st = .idle →
    (∀ p rest, s.rw.page = none → s.rw.queue ≠ [] → s.ex.resultList = p :: rest → ∃ t x, exec .pfiAsserted s = .next t ∧ t.run = .ready
      ∧ t.ctrl.power = some { placed := 0, closing := false } ∧ t.rw.queue = s.rw.queue ∧ t.ex.resultList = rest
      ∧ t.rw.page = some x ∧ x.page = p ∧ x.taken = s.clock ∧ x.phase = .takeEntry)
    ∧ (∀ p, s.rw.page = some p → p.phase ≠ .rest → ∃ t, exec .pfiAsserted s = .next t ∧ t.run = .ready
      ∧ t.ctrl.power = some { placed := 0, closing := false } ∧ t.rw.queue = s.rw.queue ∧ t.rw.page = some p)
    ∧ (∀ p, s.rw.page = some p → p.phase = .rest → p.closeWith = none → s.rw.queue = [] → ∃ t, exec .pfiAsserted s = .next t
      ∧ t.run = .ready ∧ t.ctrl.power = some { placed := 0, closing := true }
      ∧ t.rw.page = some { p with closeWith := some 0x10, phase := .closeEntry })
    ∧ (s.rw.page = none → s.ex.resultList = [] → ∃ t, exec .pfiAsserted s = .next t ∧ t.run = .powerFail
      ∧ ended { s with pins.pfi := true } t))
  ∧ (∀ (p : ResultPage) (r : Rec) (rest : List Rec) (k : Nat) (q : PowerSeq) (s : State), s.FailPlaces q → q.closing = false →
      s.ex.grant = some .recordWriter → s.rw.page = some p → p.phase = .record k → p.closeWith = none → s.rw.queue = r :: rest →
      k + 1 = r.words.length →
    let last : Bool := decide (15 ≤ q.placed) || rest.isEmpty
    exec (.accessComplete []) s = .next (settleDown
      { s with
        mem := Memory.writeWords s.mem (s.regs.xbase.toNat + 4096 + 4096 * p.page.val + 4 * (p.used + k)) [r.words.getD k 0]
        ex.grant := none
        rw.queue := rest
        rw.pinned := false
        ctrl.power := some { placed := q.placed + 1, closing := last }
        rw.page := some
          { p with
            used := p.used + r.words.length, count := p.count + 1, first := some (p.first.getD r.serial), phase := .rest,
            closeWith := if last then some 0x10 else none,
            flush := if p.first.isNone then some (0, halfUp (s.ex.flushMs * 8192) 1000) else p.flush } }))
  ∧ (∀ (p : ResultPage) (q : PowerSeq) (s : State), s.FailPlaces q → s.ex.grant = some .recordWriter → s.rw.page = some p →
      p.phase = .closeEntry →
    (∀ x rest, q.closing = false → q.placed < 16 → s.rw.queue ≠ [] → s.ex.resultList = x :: rest →
      ∃ t y, exec (.accessComplete []) s = .next t ∧ t.run = s.run ∧ t.ctrl.power = some q ∧ t.rw.queue = s.rw.queue
        ∧ t.ex.closures = s.ex.closures + 1 ∧ t.rw.page = some y ∧ y.page = x ∧ y.phase = .takeEntry ∧ t.ex.resultList = rest)
    ∧ (q.closing = true ∨ 16 ≤ q.placed ∨ s.rw.queue = [] ∨ s.ex.resultList = [] →
      ∃ t, exec (.accessComplete []) s = .next t ∧ t.run = (if s.pins.pfi then .powerFail else .ready) ∧ t.rw.page = none
        ∧ t.ex.closures = s.ex.closures + 1 ∧ t.ex.table.get p.page = .notMine ∧ ended s t))
  ∧ (∀ (r : Requester) (q : PowerSeq) (s : State), s.ctrl.power = some q → s.ex.grant = some r →
    ∃ t, exec .busError s = .next t ∧ t.run = (if s.pins.pfi then .powerFail else .ready) ∧ t.regs.busFault = true ∧ ended s t
      ∧ ∀ p, t.rw.page = some p → p.noted.getLsbD 4 = true)

/-! ### Sensors -/

/-- The loop unit of a tracked lane in READY and DRAINING, where no context is opened or moved by an onset (R6, R7,
R8): an onset in VACANT makes it OCCUPIED and hands LOOP_ONSET on. In READY a loop end makes it VACANT, and the expiry
of 491,520 ticks STUCK, leaving the contexts alone; taken earlier it changes nothing (the model's choice, log 2). A
loop end in STUCK makes the loop VACANT in every working run state, with no event and the contexts left alone (R8). An
edge on an untracked loop changes only the pin. That every edge commanded is seen, several in one tick too, is the
model's choice (log 48). -/
def Obligations.LoopUnitFollowsItsInput : Prop :=
  (∀ (l : Lane) (s : State), s.run = .ready ∨ s.run = .draining → l.val < s.site.laneCount → s.loops.get l = .vacant →
    exec (.loopOnset l) s = .next (settleDown
      { s with
        pins.lp := s.pins.lp.set l true
        loops := s.loops.set l (.occupied s.clock 0)
        trig.waiting := s.trig.waiting ++ [.loopOnset l s.clock] }))
  ∧ (∀ (l : Lane) (onset n : Nat) (s : State), s.run = .ready → l.val < s.site.laneCount →
      s.loops.get l = .occupied onset n ∨ s.loops.get l = .stuck onset →
    exec (.loopEnd l) s = .next (settleDown { s with pins.lp := s.pins.lp.set l false, loops := s.loops.set l .vacant }))
  ∧ (∀ (l : Lane) (onset n : Nat) (s : State), s.run = .ready → l.val < s.site.laneCount → s.loops.get l = .occupied onset n →
    (491520 ≤ n → exec (.stuckExpiry l) s = .next (settleDown { s with loops := s.loops.set l (.stuck onset) }))
    ∧ (n < 491520 → exec (.stuckExpiry l) s = .next (settleDown s)))
  ∧ (∀ (l : Lane) (s : State), s.run.works = false ∨ s.site.laneCount ≤ l.val →
    exec (.loopOnset l) s = .next (settleDown { s with pins.lp := s.pins.lp.set l true })
    ∧ exec (.loopEnd l) s = .next (settleDown { s with pins.lp := s.pins.lp.set l false }))
  ∧ (∀ (l : Lane) (onset : Nat) (s : State), s.run.works = true → l.val < s.site.laneCount → s.loops.get l = .stuck onset →
    exec (.loopEnd l) s = .next (settleDown { s with pins.lp := s.pins.lp.set l false, loops := s.loops.set l .vacant }))

/-- A frame in a working run state where nothing is measured: not in the tick of the frame last accepted, it is
accepted (R12), becomes the reference, restarts the silence timer and clears LINK_FAULT (R14); a gap or break raises
the link gap counter, saturating (R13); it enters the history with its finding and arrival number, the oldest of more
than 1,024 leaving (R33). In that tick, and in DISABLED and POWER_FAIL, a frame changes nothing (R12, R15). A frame
accepted in RUNNING, QUIET and WAKING reaches every channel unit: each takes the frame by its rules (R17-R23, R27,
R28) with the run state it was taken in, whatever the axles and vehicles make of it; a wake request in QUIET makes the
part WAKING (R20, R175). In every measuring state, DRAINING among them, the whole of a frame is: it is accepted as
above; each channel takes it; the hits that a BREAK lost are counted aborted (R28); the wake is made; each hit that
closed enters the held hits of its row in channel order (R26, R30), or is counted aborted where it measures nothing
(R24); and the time mark of its tick is given (R42, R46). The model's choices: the same tick is one with no tick
elapsed since, whatever a SET CLOCK made of the stamps, and the reference not forgotten since (log 51), the history
has the frame before the detector (log 31), all channels take it before the first closed hit enters a list (log 33),
and a hit that comes after a drain has ended inside the frame is dropped uncounted (log 34). -/
def Obligations.FramesDriveChannels : Prop :=
  (∀ (f : Frame) (s : State), s.run.works = true → s.measuring = false → (s.link.ref = none ∨ s.link.silence ≠ some 0) →
    exec (.sampleFrame f) s = .next (settleDown
      { s with
        link :=
          { ref := some (f.seq, s.clock), silence := some 0, fault := false,
            gaps := match findingOf s.link.ref f.seq with
              | .gap _ => if s.link.gaps < 4294967295 then s.link.gaps + 1 else 4294967295
              | .broken => if s.link.gaps < 4294967295 then s.link.gaps + 1 else 4294967295
              | _ => s.link.gaps }
        history :=
          { frames := ({ num := s.history.next, tick := s.clock, samples := f.samples, overRange := f.overRange,
                         finding := findingOf s.link.ref f.seq } :: s.history.frames).take 1024
            next := s.history.next + 1 } }))
  ∧ (∀ (f : Frame) (s : State), s.run.works = false ∨ (s.link.ref ≠ none ∧ s.link.silence = some 0) →
    exec (.sampleFrame f) s = .next (settleDown s))
  ∧ (∀ (f : Frame) (s : State), s.run = .running ∨ s.run = .quiet ∨ s.run = .waking → s.powerIdle = true →
    (s.link.ref = none ∨ s.link.silence ≠ some 0) →
    ∃ t, exec (.sampleFrame f) s = .next t ∧ t.settings = s.settings
      ∧ (∀ c, t.det.chans.get c = (s.channelResult f (findingOf s.link.ref f.seq) c).st)
      ∧ t.run = (if s.run = .quiet ∧ (∃ c, (s.channelResult f (findingOf s.link.ref f.seq) c).wake = true) then .waking else s.run)
      ∧ t.link.ref = some (f.seq, s.clock))
  ∧ (∀ (f : Frame) (s : State), s.run.measures = true → s.powerIdle = true → (s.link.ref = none ∨ s.link.silence ≠ some 0) →
    let res (c : Chan) : ChanResult := s.channelResult f (findingOf s.link.ref f.seq) c
    ∃ chans : Tab 16 ChanState, (∀ c, chans.get c = (res c).st)
      ∧ (let u : State :=
           { s.accepted f with
             det.chans := chans
             det.aborted := raised s.det.aborted ((indices 16).countP fun c => (res c).aborted) }
         let w : State := if s.run = .quiet ∧ ∃ c, (res c).wake = true
           then { u with run := .waking, ctrl.settle := some (0, s.ctrl.settleCount) } else u
         let closes (x : State) (c : Chan) : State := match (res c).closed with
           | none => x
           | some (h, long) =>
             if x.run.measures then
               match h.record c long with
               | some g => enterHit g x
               | none => { x with det.aborted := raised x.det.aborted 1 }
             else x
         exec (.sampleFrame f) s = .next (settleDown (timeMark s.clock ((indices 16).foldl closes w)))))

/-- What a channel does with a frame in sequence, `net` being the sample plus 32,768 less the baseline rounded to a
whole count (R18). LEARNING steps by a sixteenth and ends at 512 frames in IDLE or FAULTED (R19). IDLE steps by a 256th
below the on-threshold, held in WAKING, and otherwise starts a candidate, or in QUIET asks for a wake (R20, R21). A
candidate confirms or drops (R21). HIT joins or goes to TAIL, TAIL returns or closes at the off-count (R22). A hit
that has reached its maximum length closes LONG, a candidate is dropped, and the frame is the first taken in LONG; LONG ends at the
off-count (R23). OFF and FAULTED stay, and only IDLE in QUIET asks for a wake. A hit's age is counted modulo 2⁴⁸ (log 5). FIRST puts an enabled channel into LEARNING, the
frame its first; a GAP marks an open hit; a BREAK loses it, HIT and TAIL counted aborted, the frame being handled in IDLE; other
channels take it in sequence (R27, R28). A closed hit measures (R24, R25): none when the exact sum is below 1; the integral is the sum, at most
2,147,483,647 and then CLIPPED; the centroid is 16 × start plus 16 × W / sum rounded half up, with 0 for a negative
W, and at most 16 × the end tick. -/
def Obligations.ChannelRules : Prop :=
  (∀ (par : DetPar) (run : RunState) (tick : Nat) (en ov : Bool) (x : Nat),
    let only (st : ChanState) : ChanResult := { st := st, closed := none, aborted := false, wake := false }
    let long (b n : Nat) : ChanState :=
      if (par.offThr : Int) ≤ (x : Int) - ((b + 128) / 256 : Nat) then .long b 0
      else if par.offCount ≤ n + 1 then .idle b else .long b (n + 1)
    chanFrame par run tick .inSequence en ov x .off = only .off
    ∧ (∀ b, chanFrame par run tick .inSequence en ov x (.faulted b) = only (.faulted b))
    ∧ (∀ n b, let b' := if n = 0 then 256 * x else (15 * b + 256 * x + 8) / 16
      chanFrame par run tick .inSequence en ov x (.learning n b)
        = only (if n + 1 < 512 then .learning (n + 1) b'
          else if 2768 ≤ (b' + 128) / 256 ∧ (b' + 128) / 256 ≤ 62768 then .idle b' else .faulted b'))
    ∧ (∀ b : Nat, let net : Int := (x : Int) - ((b + 128) / 256 : Nat)
      let r := chanFrame par run tick .inSequence en ov x (.idle b)
      r.closed = none ∧ r.aborted = false
      ∧ (net < par.onThr → r.wake = false ∧ r.st = .idle (if run = .waking then b else (255 * b + 256 * x + 128) / 256))
      ∧ ((par.onThr : Int) ≤ net → run = .quiet → r.wake = true ∧ r.st = .idle b)
      ∧ ((par.onThr : Int) ≤ net → run ≠ .quiet → r.wake = false ∧
          let h : OpenHit := { start := tick, last := tick, sum := net, wsum := 0, clipped := ov, gap := false,
                               settling := decide (run = .waking) }
          r.st = if par.onCount ≤ 1 then .hit b h else .candidate b h 1))
    ∧ (∀ (b : Nat) (h : OpenHit) (n : Nat), let net : Int := (x : Int) - ((b + 128) / 256 : Nat)
      let age : Nat := tickSince tick h.start
      let r := chanFrame par run tick .inSequence en ov x (.candidate b h n)
      let h' : OpenHit := { h with last := tick, sum := h.sum + net, wsum := h.wsum + age * net, clipped := h.clipped || ov }
      r.closed = none ∧ r.aborted = false ∧ r.wake = false
      ∧ (age < par.maxLen → (par.onThr : Int) ≤ net → r.st = if par.onCount ≤ n + 1 then .hit b h' else .candidate b h' (n + 1))
      ∧ (age < par.maxLen → net < par.onThr → r.st = .idle b)
      ∧ (par.maxLen ≤ age → r.st = long b 0))
    ∧ (∀ (b : Nat) (h : OpenHit), let net : Int := (x : Int) - ((b + 128) / 256 : Nat)
      let age : Nat := tickSince tick h.start
      let r := chanFrame par run tick .inSequence en ov x (.hit b h)
      let h' : OpenHit := { h with clipped := h.clipped || ov }
      r.aborted = false ∧ r.wake = false
      ∧ (age < par.maxLen → (par.offThr : Int) ≤ net →
          r.closed = none ∧ r.st = .hit b { h' with last := tick, sum := h.sum + net, wsum := h.wsum + age * net })
      ∧ (age < par.maxLen → net < par.offThr → 1 < par.offCount → r.closed = none ∧ r.st = .tail b h' net (age * net) 1)
      ∧ (age < par.maxLen → net < par.offThr → par.offCount ≤ 1 → r.closed = some (h', false) ∧ r.st = .idle b)
      ∧ (par.maxLen ≤ age → r.closed = some (h', true) ∧ r.st = long b 0))
    ∧ (∀ (b : Nat) (h : OpenHit) (ps pw : Int) (n : Nat), let net : Int := (x : Int) - ((b + 128) / 256 : Nat)
      let age : Nat := tickSince tick h.start
      let r := chanFrame par run tick .inSequence en ov x (.tail b h ps pw n)
      let h' : OpenHit := { h with clipped := h.clipped || ov }
      r.aborted = false ∧ r.wake = false
      ∧ (age < par.maxLen → (par.offThr : Int) ≤ net → r.closed = none
          ∧ r.st = .hit b { h' with last := tick, sum := h.sum + ps + net, wsum := h.wsum + pw + age * net })
      ∧ (age < par.maxLen → net < par.offThr → n + 1 < par.offCount →
          r.closed = none ∧ r.st = .tail b h' (ps + net) (pw + age * net) (n + 1))
      ∧ (age < par.maxLen → net < par.offThr → par.offCount ≤ n + 1 → r.closed = some (h', false) ∧ r.st = .idle b)
      ∧ (par.maxLen ≤ age → r.closed = some (h', true) ∧ r.st = long b 0))
    ∧ (∀ b n : Nat, chanFrame par run tick .inSequence en ov x (.long b n) = only (long b n)))
  ∧ (∀ (par : DetPar) (run : RunState) (tick : Nat) (ov : Bool) (x : Nat),
    let inSeq (en : Bool) (st : ChanState) : ChanResult := chanFrame par run tick .inSequence en ov x st
    (∀ st, chanFrame par run tick .first true ov x st = inSeq true (.learning 0 0)
      ∧ chanFrame par run tick .first false ov x st = inSeq false st)
    ∧ (∀ k en st, chanFrame par run tick (.gap k) en ov x st = inSeq en (match st with
        | .candidate b h n => .candidate b { h with gap := true } n
        | .hit b h => .hit b { h with gap := true }
        | .tail b h ps pw n => .tail b { h with gap := true } ps pw n
        | y => y))
    ∧ (∀ en b h n, chanFrame par run tick .broken en ov x (.candidate b h n) = inSeq en (.idle b))
    ∧ (∀ en b h, chanFrame par run tick .broken en ov x (.hit b h) = { inSeq en (.idle b) with aborted := true })
    ∧ (∀ en b h ps pw n, chanFrame par run tick .broken en ov x (.tail b h ps pw n) = { inSeq en (.idle b) with aborted := true })
    ∧ (∀ en st, st.active = false ∨ (∃ b n, st = .long b n) → chanFrame par run tick .broken en ov x st = inSeq en st))
  ∧ (∀ (c : Chan) (h : OpenHit) (long : Bool),
    (h.sum < 1 → h.record c long = none)
    ∧ (1 ≤ h.sum → ∃ g, h.record c long = some g ∧ g.chan = c ∧ g.start = h.start ∧ g.last = h.last ∧ g.long = long
        ∧ g.gap = h.gap ∧ g.settling = h.settling
        ∧ (h.sum ≤ 2147483647 → (g.area : Int) = h.sum ∧ g.clipped = h.clipped)
        ∧ (2147483647 < h.sum → g.area = 2147483647 ∧ g.clipped = true)
        ∧ g.centroid ≤ 16 * h.last
        ∧ (h.wsum < 0 → g.centroid = min (16 * h.start) (16 * h.last))
        ∧ (0 ≤ h.wsum → (g.centroid : Int) = min (16 * (h.start : Int) + (32 * h.wsum + h.sum) / (2 * h.sum)) (16 * (h.last : Int)))))

/-- The silence timer at 64 ticks loses the link (R14, R28): LINK_FAULT is set, the gap counter rises, the reference
becomes none and the timer stops; every open hit is lost, HIT and TAIL counted aborted, and its channel IDLE.
Taken earlier LINK_LOSS changes nothing (the model's choice, log 2). -/
def Obligations.LinkLossAborts : Prop :=
  ∀ (n : Nat) (s : State), s.link.silence = some n →
    (n < 64 → exec .linkLoss s = .next (settleDown s))
    ∧ (64 ≤ n → ∃ t, exec .linkLoss s = .next t ∧ t.settings = s.settings
        ∧ t.link = { ref := none, silence := none, fault := true,
                     gaps := if s.link.gaps < 4294967295 then s.link.gaps + 1 else 4294967295 }
        ∧ (∀ c, t.det.chans.get c = match s.det.chans.get c with
            | .candidate b _ _ => .idle b
            | .hit b _ => .idle b
            | .tail b _ _ _ _ => .idle b
            | st => st)
        ∧ t.det.aborted = min 4294967295 (s.det.aborted + s.det.chans.items.countP fun c => match c with
            | .hit .. => true
            | .tail .. => true
            | _ => false)
        ∧ t.det.hits = s.det.hits ∧ t.det.lost = s.det.lost ∧ t.run = s.run ∧ t.veh = s.veh ∧ t.axle = s.axle)

/-- The probe line (R10, R11, R65). A second boundary in a working run state with no round in progress polls the first
configured probe, the answer timer at 164; one round a boundary, and none in a tick that began with one in progress
(log 12). A valid answer, or the timer at 0 as NO_ANSWER, is handled by its probe, or by none where SET PROBES had the
exchange discarded, and the next of the list is polled; after the last the round ends and the second closes, both rows
evaluated with what the probe gave. An invalid answer changes nothing. An answer that no exchange awaits changes
nothing (R11). The model's choice (log 2): POLL_ROUND off a second boundary, with a round in progress, with the
boundary used or where the line is idle, and ANSWER_TIMEOUT before the timer is 0 or with no exchange, change nothing. -/
def Obligations.ProbeLineExchange : Prop :=
  (∀ (p : Probe) (rest : List Probe) (s : State), s.run.works = true → s.temp.round = none → s.clock % 8192 = 0 →
      s.temp.secondUsed = false → (indices 6).filter (fun q => decide (s.temp.probes.get q ≠ .absent)) = p :: rest →
    exec .pollRound s = .next (settleDown
      { s with temp.secondUsed := true, temp.round := some rest, temp.line := some { probe := p, left := 164, discard := false } }))
  ∧ (∀ s : State, s.run.works = false ∨ s.temp.round ≠ none ∨ s.clock % 8192 ≠ 0 ∨ s.temp.secondUsed = true →
    exec .pollRound s = .next (settleDown s))
  ∧ (∀ (a : Answer) (x : Polled) (q : Probe) (rest : List Probe) (s : State), s.temp.line = some x → x.discard = false →
      s.temp.round = some (q :: rest) →
    let next (o : ProbeOutcome) : State := settleDown
      { s with
        temp.probes := s.temp.probes.set x.probe (ProbeState.take s.temp.stepLimit o (s.temp.probes.get x.probe))
        temp.round := some rest
        temp.line := some { probe := q, left := 164, discard := false } }
    (a.checkOk = true → a.addr = x.probe → a.error = false → exec (.probeAnswer a) s = .next (next (.reading a.reading.toInt)))
    ∧ (a.checkOk = true → a.addr = x.probe → a.error = true → exec (.probeAnswer a) s = .next (next .probeError))
    ∧ (a.checkOk = false ∨ a.addr ≠ x.probe → exec (.probeAnswer a) s = .next (settleDown s))
    ∧ (x.left = 0 → exec .answerTimeout s = .next (next .noAnswer))
    ∧ (x.left ≠ 0 → exec .answerTimeout s = .next (settleDown s)))
  ∧ (∀ (a : Answer) (x : Polled) (q : Probe) (rest : List Probe) (s : State), s.temp.line = some x → x.discard = true →
      s.temp.round = some (q :: rest) →
    let next : State := settleDown
      { s with temp.round := some rest, temp.line := some { probe := q, left := 164, discard := false } }
    (a.checkOk = true → a.addr = x.probe → exec (.probeAnswer a) s = .next next)
    ∧ (x.left = 0 → exec .answerTimeout s = .next next))
  ∧ (∀ (a : Answer) (x : Polled) (s : State), s.temp.line = some x → s.temp.round = some [] →
    let ends (o : Option ProbeOutcome) (u : State) : Prop :=
      let probes := match o with
        | some r => s.temp.probes.set x.probe (ProbeState.take s.temp.stepLimit r (s.temp.probes.get x.probe))
        | none => s.temp.probes
      u.temp.probes = probes ∧ u.temp.line = none ∧ u.temp.round = none ∧ u.settings = s.settings
        ∧ u.temp.rows.a = evalRow probes s.temp.assign.a s.temp.holdLimit s.temp.rows.a
        ∧ u.temp.rows.b = evalRow probes s.temp.assign.b s.temp.holdLimit s.temp.rows.b
        ∧ u = settleDown (secondClose { s with temp.line := none, temp.probes := probes })
    (a.checkOk = true → a.addr = x.probe → ∃ u, exec (.probeAnswer a) s = .next u
      ∧ ends (if x.discard then none else if a.error then some .probeError else some (.reading a.reading.toInt)) u)
    ∧ (x.left = 0 → ∃ u, exec .answerTimeout s = .next u ∧ ends (if x.discard then none else some .noAnswer) u))
  ∧ (∀ (a : Answer) (s : State), s.temp.line = none →
    exec (.probeAnswer a) s = .next (settleDown s) ∧ exec .answerTimeout s = .next (settleDown s))

/-- What a probe does with each outcome of its poll. An ABSENT one nothing. STARTING (R67): an in-range reading joins
the collection, the third making it GOOD at F = 16 (m + 400); one out of range empties it; a missing or faulty answer
empties it and raises the miss run, the fifth making the probe FAILED. FAILED (R70): the third in-range reading in a
row makes it STARTING, anything else starts the run again. GOOD: a missing or faulty answer raises the miss run, the
fifth making it FAILED (R70); a reading out of range is rejected, the tenth rejection making it STARTING with nothing
collected (R69). An in-range reading for a GOOD probe (R68): it is accepted when |16 (r + 400) − F| ≤ 16 L; then it
joins the window, the oldest reading leaving, F becomes (7 F + 16 (m + 400)) / 8 rounded half up with m the median of
the window, and both runs are cleared. Otherwise it is rejected under R69: F and the window stand, the miss run is
cleared and the rejection run rises, the tenth rejection making the probe STARTING with the reading as its first. -/
def Obligations.ProbeFilter : Prop :=
  (∀ limit o, ProbeState.take limit o .absent = .absent)
  ∧ (∀ (limit : Nat) (coll : List Int) (miss : Nat) (o : ProbeOutcome), coll.length ≤ 2 → (∀ x ∈ coll, -400 ≤ x) →
    (∀ r, o = .reading r → -400 ≤ r → r ≤ 850 →
      (coll.length < 2 → ProbeState.take limit o (.starting coll miss) = .starting (coll ++ [r]) 0)
      ∧ (∀ a b, coll = [a, b] → ∃ (m : Int) (g : Nat), isMedian m a b r ∧ (g : Int) = 16 * (m + 400)
          ∧ ProbeState.take limit o (.starting coll miss) = .good a b r g 0 0))
    ∧ (∀ r, o = .reading r → r < -400 ∨ 850 < r → ProbeState.take limit o (.starting coll miss) = .starting [] 0)
    ∧ (o = .probeError ∨ o = .noAnswer →
      ProbeState.take limit o (.starting coll miss) = if miss + 1 < 5 then .starting [] (miss + 1) else .failed 0))
  ∧ (∀ (limit n : Nat) (o : ProbeOutcome),
    (∀ r, o = .reading r → -400 ≤ r → r ≤ 850 →
      ProbeState.take limit o (.failed n) = if n + 1 < 3 then .failed (n + 1) else .starting [] 0)
    ∧ ((∀ r, o = .reading r → r < -400 ∨ 850 < r) → ProbeState.take limit o (.failed n) = .failed 0))
  ∧ (∀ (limit : Nat) (w1 w2 w3 : Int) (f miss rej : Nat) (o : ProbeOutcome),
    (o = .probeError ∨ o = .noAnswer → ProbeState.take limit o (.good w1 w2 w3 f miss rej)
      = if miss + 1 < 5 then .good w1 w2 w3 f (miss + 1) rej else .failed 0)
    ∧ (∀ r, o = .reading r → r < -400 ∨ 850 < r → ProbeState.take limit o (.good w1 w2 w3 f miss rej)
      = if rej + 1 < 10 then .good w1 w2 w3 f 0 (rej + 1) else .starting [] 0))
  ∧ ∀ (limit : Nat) (w1 w2 w3 r : Int) (f miss rej : Nat), -400 ≤ w2 → -400 ≤ w3 → -400 ≤ r → r ≤ 850 →
    (|16 * (r + 400) - (f : Int)| ≤ 16 * (limit : Int) →
      ∃ (m : Int) (g : Nat), isMedian m w2 w3 r ∧ (g : Int) = (7 * (f : Int) + 16 * (m + 400) + 4) / 8
        ∧ ProbeState.take limit (.reading r) (.good w1 w2 w3 f miss rej) = .good w2 w3 r g 0 0)
    ∧ (16 * (limit : Int) < |16 * (r + 400) - (f : Int)| →
      ProbeState.take limit (.reading r) (.good w1 w2 w3 f miss rej)
        = if rej + 1 < 10 then .good w1 w2 w3 f 0 (rej + 1) else .starting [r] 0)

/-- A row at a second's close (R72, R73): its GOOD primary makes it LIVE, else its GOOD secondary SECONDARY, with the
probe's value F / 16 - 400 (R66); with neither, NONE stays, LIVE and SECONDARY become HELD with hold count 0, and in
HELD and STALE the count rises, HELD becoming STALE at the limit. A second boundary with no probe configured closes
the second at once: both rows are evaluated together and each is a row update of the Trigger Unit (R65, R74, R132),
and when the second reaches the summary's boundary its record is created and the next interval begins (R81). A band is
the count of boundaries at or below the temperature (R78). The summary (R80): each GOOD probe's seconds, sum of F,
lowest and highest reported value, and each row's HELD and STALE seconds are gathered at the close. At the boundary
the temperature record of 26 words carries the interval's start, end and length, SHORT where it was cut or passed, the
curve's kind, each probe's state, seconds, lowest, highest and mean (−32,768 with no GOOD second), and each row's
state, value and seconds, counts held at 65,535 (R81; 10, 10.4), and the sums begin anew. With 31 records queued its
entry hands BACKLOG on (R153), with 64 it is lost, which is counted and hands RECORD_LOST on (R154); otherwise the
Trigger Unit has the two row updates alone. -/
def Obligations.SecondCloseEvaluatesRows : Prop :=
  (∀ (probes : Tab 6 ProbeState) (a : RowProbes) (limit : Nat) (r : RowTemp),
    let shows (p : Option Probe) (v : Int) : Prop :=
      ∃ n w1 w2 w3 f miss rej, p = some n ∧ probes.get n = .good w1 w2 w3 f miss rej ∧ v = (((f + 8) / 16 : Nat) : Int) - 400
    let up (h : Nat) : Nat := if h < 4294967295 then h + 1 else 4294967295
    (∀ v, shows a.primary v → evalRow probes a limit r = .live v)
    ∧ (∀ v, (∀ u, ¬shows a.primary u) → shows a.secondary v → evalRow probes a limit r = .secondary v)
    ∧ ((∀ u, ¬shows a.primary u) → (∀ u, ¬shows a.secondary u) →
      evalRow probes a limit r = match r with
        | .none => .none
        | .live v => .held v 0
        | .secondary v => .held v 0
        | .held v h => if limit ≤ up h then .stale v (up h) else .held v (up h)
        | .stale v h => .stale v (up h)))
  ∧ (∀ s : State, s.run.works = true → s.temp.round = none → s.clock % 8192 = 0 → s.temp.secondUsed = false →
      (∀ p, s.temp.probes.get p = .absent) →
    let a := evalRow s.temp.probes s.temp.assign.a s.temp.holdLimit s.temp.rows.a
    let b := evalRow s.temp.probes s.temp.assign.b s.temp.holdLimit s.temp.rows.b
    exec .pollRound s = .next (settleDown (secondClose { s with temp.secondUsed := true }))
    ∧ ∃ t, exec .pollRound s = .next t ∧ t.settings = s.settings ∧ t.temp.rows = { a := a, b := b } ∧ t.temp.round = none
      ∧ t.temp.secondUsed = true
      ∧ (s.clock / 8192 < s.temp.summary.next →
          t.trig = (updateRow .b b (updateRow .a a s)).trig ∧ t.rw.created = s.rw.created
            ∧ t.temp.summary.next = s.temp.summary.next)
      ∧ (s.temp.summary.next ≤ s.clock / 8192 → t.rw.created = s.rw.created + 1 ∧ t.temp.summary.start = s.clock / 8192
            ∧ t.temp.summary.next = (s.clock / 8192 / s.temp.interval + 1) * s.temp.interval ∧ t.temp.summary.short = false))
  ∧ (∀ (bounds : List Int) (t : Int), bounds.length = 7 →
    (bandOf bounds t).val = (bounds.filter fun b => decide (b ≤ t)).length)
  ∧ (∀ s : State,
    let m := s.temp.summary
    let rows : PerRow RowTemp :=
      { a := evalRow s.temp.probes s.temp.assign.a s.temp.holdLimit s.temp.rows.a
        b := evalRow s.temp.probes s.temp.assign.b s.temp.holdLimit s.temp.rows.b }
    let counted (r : RowTemp) (x : RowSum) : RowSum := match r with
      | .held _ _ => { x with held := x.held + 1 }
      | .stale _ _ => { x with stale := x.stale + 1 }
      | _ => x
    let sec := s.clock / 8192
    let t := secondClose s
    let handed := updateRow .b rows.b (updateRow .a rows.a s)
    t.temp.rows = rows ∧ t.temp.round = none
    ∧ ∃ probes : Tab 6 ProbeSum, (∀ p, probes.get p = summed (s.temp.probes.get p) (m.probes.get p))
      ∧ (let sums : PerRow RowSum := { a := counted rows.a m.rows.a, b := counted rows.b m.rows.b }
         (sec < m.next → t.temp.summary = { m with probes := probes, rows := sums }
            ∧ t.rw = s.rw ∧ t.trig = handed.trig)
         ∧ (m.next ≤ sec → t.rw.created = s.rw.created + 1
           ∧ (s.rw.queue.length < 64 → s.rw.queue.length ≠ 31 → t.trig = handed.trig)
           ∧ (s.rw.queue.length = 31 → t.trig = (handed.told (.backlog 32)).trig)
           ∧ (64 ≤ s.rw.queue.length → t.trig = (handed.told (.recordLost false)).trig ∧ t.rw.queue = s.rw.queue
             ∧ t.rw.lostOther = raised s.rw.lostOther 1 ∧ t.rw.headerOther = s.rw.headerOther + 1)
           ∧ t.temp.summary =
             { start := sec, next := (sec / s.temp.interval + 1) * s.temp.interval, short := false,
               probes := Tab.fill 6 { good := 0, sumF := 0, range := none },
               rows := { a := { held := 0, stale := 0 }, b := { held := 0, stale := 0 } } }
           ∧ (s.rw.queue.length < 64 → ∃ ws : List Nat, t.rw.queue = s.rw.queue ++ [s.newRecord .other ws] ∧ ws.length = 26
             ∧ ws.take 4 =
               [ 2 + 8 * (if m.short || decide (m.next < sec) then 1 else 0) + 16 * (if s.temp.curve.loaded then 1 else 0),
                 m.start % 4294967296, sec % 4294967296, s.temp.interval ]
             ∧ (∀ p : Probe, let x := probes.get p
                 let w0 : Nat := (match s.temp.probes.get p with
                   | .absent => 0 | .starting .. => 1 | .good .. => 2 | .failed .. => 3) + 65536 * min x.good 65535
                 (ws.drop (4 + 3 * p.val)).take 3 = match x.range with
                   | some (lo, hi) => [w0, half lo + 65536 * half hi, half ((halfUp x.sumF (16 * x.good) : Int) - 400)]
                   | none => [w0, 32768 + 65536 * 32768, 32768])
             ∧ (let row (r : RowTemp) (x : RowSum) : List Nat :=
                  [ (match r with
                      | .none => 0 + 65536 * 32768
                      | .live v => 1 + 65536 * half v
                      | .secondary v => 2 + 65536 * half v
                      | .held v _ => 3 + 65536 * half v
                      | .stale v _ => 4 + 65536 * half v),
                    min x.held 65535 + 65536 * min x.stale 65535 ]
                ws.drop 22 = row rows.a sums.a ++ row rows.b sums.b)))))

/-- Field lines (R126, R140). A changed level on an input line in a working run state is handed on as an edge and
becomes the level last sampled. A change back within the tick withdraws the edge, for such a change gives none, and the edge's
cascade waits for the end of its tick (so the model puts R126's one sample a tick, log 46). On an output line only the pin changes. A
waiting pulse whose start tick is reached runs, when none runs. A running pulse whose end tick is reached leaves its schedule, and
the next runs at once when it starts at that tick (ticks compared by log 5). -/
def Obligations.FieldLineEvents : Prop :=
  (∀ (l : Line) (old v : Bool) (s : State), s.run.works = true → s.trig.lines.get l = .input old → old ≠ v →
      s.trig.edgeTaken.get l = false →
    exec (.fieldEdge l v) s = .next (settleDown
      { s with
        pins.field := s.pins.field.set l v
        trig.lines := s.trig.lines.set l (.input v)
        trig.edgeTaken := s.trig.edgeTaken.set l true
        trig.waiting := s.trig.waiting ++ [.fieldEdge l v s.clock] }))
  ∧ (∀ (l : Line) (old v : Bool) (s : State), s.run.works = true → s.trig.lines.get l = .input old → old ≠ v →
      s.trig.edgeTaken.get l = true →
    let reverted (waiting : List TrigEvent) : State :=
      { s with
        pins.field := s.pins.field.set l v
        trig.lines := s.trig.lines.set l (.input v)
        trig.edgeTaken := s.trig.edgeTaken.set l false
        trig.waiting := waiting }
    let noEdge (es : List TrigEvent) : Prop := ∀ rising tick, TrigEvent.fieldEdge l rising tick ∉ es
    (∀ pre rising tick post, s.trig.waiting = pre ++ .fieldEdge l rising tick :: post → noEdge post →
      exec (.fieldEdge l v) s = .next (settleDown (reverted (pre ++ post)))
      ∧ exec (.cascade pre.length) s = .next (settleDown s))
    ∧ (noEdge s.trig.waiting → exec (.fieldEdge l v) s = .next (settleDown (reverted s.trig.waiting))))
  ∧ (∀ (l : Line) (v : Bool) (s : State), s.run.works = false ∨ s.isInput l = false ∨ s.trig.lines.get l = .input v →
    exec (.fieldEdge l v) s = .next (settleDown { s with pins.field := s.pins.field.set l v }))
  ∧ (∀ (l : Line) (p : Pulse) (rest : List Pulse) (s : State), s.trig.lines.get l = .output (p :: rest) →
    ((∀ q ∈ p :: rest, q.running = false) → reached s.clock p.start = true →
      exec (.pulseStart l) s = .next (settleDown
        { s with trig.lines := s.trig.lines.set l (.output ({ p with running := true } :: rest)) }))
    ∧ (p.running = true → reached s.clock p.stop = true → rest = [] →
      exec (.pulseEnd l) s = .next (settleDown { s with trig.lines := s.trig.lines.set l (.output []) }))
    ∧ (∀ q more, p.running = true → reached s.clock p.stop = true → rest = q :: more →
      exec (.pulseEnd l) s = .next (settleDown
        { s with
          trig.lines := s.trig.lines.set l (.output ({ q with running := q.running || decide (q.start = p.stop) } :: more)) })))

/-! ### Hits, axles and vehicles -/

/-- Half pairing (R39 to R42) and entry into the held hits (R30, R31). A hit offered with no candidate among the held
hits of its row changes nothing; with candidates it forms a row axle with the one R40 prefers (same lane, smaller
difference, lower lane, lower centroid), both leaving the list. At a time mark the held hits of row A and then of row
B whose window has passed form one-wheel row axles in list order, and then the waiting row-A axles expire; after it no
hit is held past its window and no row-A axle past its horizon. A hit enters its list in the order of centroid and
channel and is offered. With 32 held the hit of lowest centroid is lost and counted, the new one itself where it is
the lowest. That among equal lowest centroids the first in list order, that of the lowest channel, is the one lost is
the model's choice (log 24). -/
def Obligations.HitsPairAndExpire : Prop :=
  (∀ (h : Hit) (s : State),
    let held := s.det.hits.get (chanRow h.chan)
    ((∀ c ∈ held, ¬s.PairCandidate h c) → offerHit h s = s)
    ∧ ((∃ c ∈ held, s.PairCandidate h c) → ∃ c n f, c ∈ held ∧ s.PairCandidate h c
        ∧ (∀ d ∈ held, s.PairCandidate h d → pairsBefore h c d)
        ∧ (n = h ∧ f = c ∨ n = c ∧ f = h)
        ∧ (n.chan.val / 4 < f.chan.val / 4 ∨ n.chan.val / 4 = f.chan.val / 4 ∧ n.chan.val % 2 = 0)
        ∧ offerHit h s = formRowAxle (pairedAxle n f)
            { s with det.hits := s.det.hits.set (chanRow h.chan) ((held.erase h).erase c) }))
  ∧ (∀ (r : Row) (t : Nat) (s : State),
    let held := s.det.hits.get r
    let past (h : Hit) : Bool := decide (16 * (s.axle.par.window : Int) < 16 * (t : Int) - (h.centroid : Int))
    expireHits r t s = (held.filter past).foldl (fun u h => formRowAxle (loneAxle h) u)
      { s with det.hits := s.det.hits.set r (held.filter fun h => !past h) })
  ∧ (∀ (t : Nat) (s : State), timeMark t s = expireAxles t (expireHits .b t (expireHits .a t s))
    ∧ (∀ r, ∀ h ∈ (timeMark t s).det.hits.get r, 16 * t ≤ h.centroid + 16 * s.axle.par.window)
    ∧ (∀ w ∈ (timeMark t s).axle.rowA, 16 * t ≤ s.matchHorizon w.part)
    ∧ ((∀ r, ∀ h ∈ s.det.hits.get r, 16 * t ≤ h.centroid + 16 * s.axle.par.window) →
        (∀ w ∈ s.axle.rowA, 16 * t ≤ s.matchHorizon w.part) → timeMark t s = s))
  ∧ (∀ (h : Hit) (pre post : List Hit) (s : State),
    let r := chanRow h.chan
    let listed (hs : List Hit) (u : State) : State := { u with det.hits := s.det.hits.set r hs }
    let lostOne : State := { s with det.lost := raised s.det.lost 1 }
    s.det.hits.get r = pre ++ post →
    (∀ c ∈ pre, c.centroid < h.centroid ∨ c.centroid = h.centroid ∧ c.chan ≤ h.chan) →
    (∀ c, post.head? = some c → h.centroid < c.centroid ∨ c.centroid = h.centroid ∧ h.chan < c.chan) →
    (pre.length + post.length < 32 → enterHit h s = offerHit h (listed (pre ++ h :: post) s))
    ∧ (32 ≤ pre.length + post.length → pre = [] → enterHit h s = lostOne)
    ∧ (∀ low rest, 32 ≤ pre.length + post.length → pre = low :: rest → low ≠ h →
        enterHit h s = offerHit h (listed (rest ++ h :: post) lostOne)))

/-- Row axles (R43 to R47). A row-A row axle enters its list behind those of no higher centroid and is handed on as a
WAITING axle with the next number (log 14); with sixteen held the lowest of seventeen is pushed out and becomes
SINGLE_ROW. A row-B row axle is matched as it forms: with the first waiting row-A axle that shares a lane and has it
in its window, else with the first in an adjacent lane, LANE_CHANGE; the axle is completed with its own speed, loads,
flags and grade as MATCHED and leaves the list. Without a match it is handed on SINGLE_ROW. At a time mark the waiting
row-A axles past their horizons leave in list order as SINGLE_ROW. Where measuring has ended nothing is formed. The
model's choices among these clauses: axles are numbered, and veh.nextId gives the numbers (log 14); of equal lowest
centroids the one entered first is pushed out, so a new row axle equal to the lowest held enters (log 24); the axle
pushed out is completed before the new one is assigned, and a new row axle that is itself the lowest is handed on
SINGLE_ROW at once (log 32); a row axle formed after the run state has left the measuring ones, as when a drain ends
inside a frame, is dropped uncounted (log 34). -/
def Obligations.RowAxlesMatchAndExpire : Prop :=
  (∀ (p : RowAxle) (pre post : List WaitingAxle) (s : State),
    (∀ w ∈ pre, w.part.centroid ≤ p.centroid) → (∀ w, post.head? = some w → p.centroid < w.part.centroid) →
    let id := s.veh.nextId
    let listed := pre ++ { id := id, part := p } :: post
    let handed := handedAxle id (some p) none .waiting p.flags
    (s.axle.rowA = pre ++ post → s.axle.rowA.length < 16 →
      enterRowA p s = assignAxle handed { s with veh.nextId := id + 1, axle.rowA := listed })
    ∧ (∀ low, s.axle.rowA = low :: (pre ++ post) → 16 ≤ s.axle.rowA.length → low.part.centroid ≤ p.centroid →
      enterRowA p s = assignAxle handed (completeAxle low.id asSingleRow { s with veh.nextId := id + 1, axle.rowA := listed }))
    ∧ (∀ low rest, s.axle.rowA = low :: rest → 16 ≤ s.axle.rowA.length → p.centroid < low.part.centroid →
      enterRowA p s = assignAxle (asSingleRow handed) { s with veh.nextId := id + 1 }))
  ∧ (∀ (p : RowAxle) (s : State),
    let s0 : State := { s with axle.rowB := (s.axle.rowB ++ [p]).erase p }
    let shares (w : WaitingAxle) : Prop := ∃ a ∈ w.part.lanes, a ∈ p.lanes
    let touches (w : WaitingAxle) : Prop := ∃ a ∈ w.part.lanes, ∃ b ∈ p.lanes, a.val + 1 = b.val ∨ b.val + 1 = a.val
    let inWin (w : WaitingAxle) : Prop := s.inWindow w.part p.centroid = true
    let joins (w : WaitingAxle) (extra : AxleFlags) : State :=
      let s1 : State := { s0 with axle.rowA := s.axle.rowA.filter fun u => decide (u.id ≠ w.id) }
      let v := s.ownSpeed w.part p.centroid
      completeAxle w.id
        (fun x => { s1.weigh v { x with partB := some p, own := some v, flags := x.flags ||| p.flags ||| extra } with stage := .matched }) s1
    (∀ pre w post, s.axle.rowA = pre ++ w :: post → (∀ u ∈ pre, ¬(shares u ∧ inWin u)) → shares w → inWin w →
      matchRowB p s = joins w 0)
    ∧ (∀ pre w post, s.axle.rowA = pre ++ w :: post → (∀ u ∈ s.axle.rowA, ¬(shares u ∧ inWin u)) →
        (∀ u ∈ pre, ¬(touches u ∧ inWin u)) → touches w → inWin w →
      matchRowB p s = joins w 0x00040)
    ∧ ((∀ u ∈ s.axle.rowA, inWin u → ¬shares u ∧ ¬touches u) →
      matchRowB p s = assignAxle (handedAxle s.veh.nextId none (some p) .singleRow (p.flags ||| 0x00080))
        { s0 with veh.nextId := s.veh.nextId + 1 }))
  ∧ (∀ (t : Nat) (s : State),
    expireAxles t s = (s.axle.rowA.filter fun w => decide (s.matchHorizon w.part < 16 * t)).foldl
      (fun u w => completeAxle w.id asSingleRow { u with axle.rowA := u.axle.rowA.filter fun x => decide (x.id ≠ w.id) }) s)
  ∧ (∀ (p : RowAxle) (s : State), (s.run.measures = false → formRowAxle p s = s)
    ∧ (s.run.measures = true → p.row = .a → formRowAxle p s = enterRowA p s)
    ∧ (s.run.measures = true → p.row = .b → formRowAxle p s = matchRowB p s))

/-- The load of a wheel of integral A and factor S at speed v (R51-R54): M = A × v / 8,192, R = M × S / 16,777,216, W
= R × Kt × Kd / 268,435,456, each rounded half up, M held at 4,294,967,295 and W at 65,535 with LOAD_SATURATED. Kd is
the drift factor of the lane and of the band of row A's temperature, Kt the curve's for the wheel's row, each 16,384
with no temperature (R53, R75, R112). The own speed of an axle matched at Δ > 0 (R49): D × 131,072 / Δ rounded half
up, held to vmin..vmax, and its window (R45): from D × 8,192 / vmax to D × 8,192 / vmin ticks, rounded half up, 16 to
the tick, ends included. An axle's loads (R55, R56): each wheel's, the mean of the two rows' where both show it,
rounded half up; the row totals; the sum. Its flags (R58 to R60): those of its row parts stay; speed outside the band,
saturation, each temperature state of a row it shows, a temperature off the curve and a channel of its lanes OFF or
FAULTED are added. A row axle's six flags. The grade (R61): UNWEIGHED when every part present carries CLIPPED or LONG,
else POOR with any of the nine flags that make it so, else FAIR with any of its nine, else GOOD. Kt from a curve
rising in temperature (R75): the end factors, clamped, outside the curve; the factor itself at a breakpoint; between
two, K_lo plus the step rounded to the nearest, an exact half toward +∞. -/
def Obligations.SpeedAndLoadArithmetic : Prop :=
  (∀ (s : State) (v kt : Nat) (w : Wheel),
      let m0 := (w.area * v + 4096) / 8192
      let m := min m0 4294967295
      let r := (m * s.cal.factors.get w.chan + 8388608) / 16777216
      let x := (r * kt * s.driftFactor (chanLane w.chan) + 134217728) / 268435456
      s.wheelLoad v kt w = (min x 65535, decide (4294967295 < m0) || decide (65535 < x)))
  ∧ (∀ (s : State) (p : RowAxle) (cB : Nat), p.centroid < cB → s.axle.par.vmin ≤ s.axle.par.vmax → 0 < s.axle.par.vmin →
      let d := (s.site.geom.get p.lane).d
      let delta := cB - p.centroid
      s.ownSpeed p cB = bring s.axle.par.vmin s.axle.par.vmax ((2 * (d * 131072) + delta) / (2 * delta))
      ∧ (s.inWindow p cB = true ↔ 16 * ((2 * (d * 8192) + s.axle.par.vmax) / (2 * s.axle.par.vmax)) ≤ delta
          ∧ delta ≤ 16 * ((2 * (d * 8192) + s.axle.par.vmin) / (2 * s.axle.par.vmin))))
  ∧ (∀ (s : State) (v : Nat) (x : Axle), x.partA.isSome = true ∨ x.partB.isSome = true →
    let y := s.weigh v x
    let spoilt (p : RowAxle) : Prop := p.clipped = true ∨ p.long = true
    let any (ns : List Nat) : Prop := ∃ n ∈ ns, y.flags.getLsbD n = true
    let allSpoilt : Prop := (∀ p, x.partA = some p → spoilt p) ∧ (∀ p, x.partB = some p → spoilt p)
    let poor : Prop := any [0, 2, 1, 3, 4, 10, 17, 14, 15]
    let fair : Prop := any [11, 7, 5, 6, 8, 9, 12, 13, 16]
    (y.grade = some .unweighed ↔ allSpoilt)
    ∧ (y.grade = some .poor ↔ ¬allSpoilt ∧ poor)
    ∧ (y.grade = some .fair ↔ ¬allSpoilt ∧ ¬poor ∧ fair)
    ∧ (y.grade = some .good ↔ ¬allSpoilt ∧ ¬poor ∧ ¬fair))
  ∧ (∀ (points : List (Int × Nat)) (t : Int), points.Pairwise (·.1 < ·.1) →
    (∀ p, points.head? = some p → t < p.1 → curveFactor points t = (p.2, true))
    ∧ (∀ p, points.getLast? = some p → p.1 < t → curveFactor points t = (p.2, true))
    ∧ (∀ p ∈ points, p.1 = t → curveFactor points t = (p.2, false))
    ∧ (∀ i lo hi, points[i]? = some lo → points[i + 1]? = some hi → lo.1 < t → t < hi.1 →
        ∃ k : Nat, curveFactor points t = (k, false)
          ∧ (k : Int) = lo.2 + (2 * (((hi.2 : Int) - lo.2) * (t - lo.1)) + (hi.1 - lo.1)) / (2 * (hi.1 - lo.1))))
  ∧ (∀ (s : State) (l : Lane) (r : Row),
    let shown (x : RowTemp) : Option Int := match x with
      | .none => none
      | .live v => some v
      | .secondary v => some v
      | .held v _ => some v
      | .stale v _ => some v
    s.driftFactor l = (match shown s.temp.rows.a with
      | none => 16384
      | some v => ((s.cal.cells.get l).get (bandOf s.temp.bounds v)).kd)
    ∧ rowFactor s.temp r = match shown (match r with | .a => s.temp.rows.a | .b => s.temp.rows.b) with
      | none => (16384, false)
      | some v => curveFactor s.temp.curve.points v)
  ∧ (∀ (s : State) (v : Nat) (x : Axle),
    let y := s.weigh v x
    let near (p : Option RowAxle) : Option Wheel := p.bind (·.near)
    let far (p : Option RowAxle) : Option Wheel := p.bind (·.far)
    let load (r : Row) (w : Option Wheel) : Nat × Bool := match w with
      | none => (0, false)
      | some g => s.wheelLoad v (rowFactor s.temp r).1 g
    let both (a b : Option Wheel) (i j : Nat) : Nat := match a, b with
      | some _, some _ => halfUp (i + j) 2
      | some _, none => i
      | none, some _ => j
      | none, none => 0
    let an := load .a (near x.partA)
    let af := load .a (far x.partA)
    let bn := load .b (near x.partB)
    let bf := load .b (far x.partB)
    let n := both (near x.partA) (near x.partB) an.1 bn.1
    let f := both (far x.partA) (far x.partB) af.1 bf.1
    let state (test : RowTemp → Prop) : Prop :=
      (x.partA.isSome = true ∧ test s.temp.rows.a) ∨ (x.partB.isSome = true ∧ test s.temp.rows.b)
    let has (i : Nat) (extra : Prop) : Prop := y.flags.getLsbD i = true ↔ x.flags.getLsbD i = true ∨ extra
    y = { x with loads := y.loads, flags := y.flags, grade := y.grade }
    ∧ y.loads = { aNear := an.1, aFar := af.1, bNear := bn.1, bFar := bf.1, near := n, far := f, totalA := an.1 + af.1,
                  totalB := bn.1 + bf.1, load := n + f }
    ∧ (∀ i, i < 9 → y.flags.getLsbD i = x.flags.getLsbD i)
    ∧ has 9 (v < s.axle.par.bandLow ∨ s.axle.par.bandHigh < v)
    ∧ has 10 (an.2 = true ∨ af.2 = true ∨ bn.2 = true ∨ bf.2 = true)
    ∧ has 12 (state fun t => ∃ v, t = .secondary v)
    ∧ has 13 (state fun t => ∃ v h, t = .held v h)
    ∧ has 14 (state fun t => ∃ v h, t = .stale v h)
    ∧ has 15 (state fun t => t = .none)
    ∧ has 16 ((x.partA.isSome = true ∧ (rowFactor s.temp .a).2 = true) ∨ (x.partB.isSome = true ∧ (rowFactor s.temp .b).2 = true))
    ∧ has 17 (s.ChannelFaultOn x))
  ∧ (∀ (p : RowAxle) (i : Nat), p.flags.getLsbD i = true ↔
    (i = 0 ∧ p.clipped = true) ∨ (i = 1 ∧ p.gap = true) ∨ (i = 2 ∧ p.long = true) ∨ (i = 3 ∧ p.settling = true)
      ∨ (i = 4 ∧ p.oneWheel = true) ∨ (i = 5 ∧ p.straddle = true))

/-- Row disagreement (R57): an axle weighed with both row parts takes ROW_DISAGREE exactly when 100 × |TA − TB| exceeds
tolerance × T, T the larger row total; an axle with one row part is not checked. -/
def Obligations.RowDisagreement : Prop :=
  ∀ (s : State) (v : Nat) (x : Axle), x.flags.getLsbD 11 = false →
    let y := s.weigh v x
    let ta : Int := y.loads.totalA
    let tb : Int := y.loads.totalB
    (y.flags.getLsbD 11 = true
      ↔ x.partA.isSome = true ∧ x.partB.isSome = true ∧ (s.axle.par.tolerance : Int) * max ta tb < 100 * |ta - tb|)
    ∧ (ta = 0 → tb = 0 → y.flags.getLsbD 11 = false)

/-- A loop onset in RUNNING, QUIET and WAKING in a lane with no OPEN context opens one with the next vehicle serial,
4,294,967,295 being followed by 1 (R85, R86), the CLOSING context staying; QUIET becomes WAKING with the settle
counter at 0 (R175); a capture unit not armed for the lane takes no notice, a capture in progress going on (for one
armed for it see CaptureCopiesFrames). With an OPEN context standing, a CLOSING one is first closed TRUNCATED, the
OPEN one moves to CLOSING as it is, without a loop end and without a deadline newly set, and the new one opens (R86,
steps 1 to 3); an ARMED capture unit of the lane starts its capture then (captureOpening, R35). A loop end, by its
input or by the STUCK expiry, in a measuring state (R87, R94): a CLOSING context that stands beside the OPEN one is
first closed, as a normal close where its axles are settled and its deadline is reached and else TRUNCATED; the OPEN
one moves to CLOSING with the tick as its loop end tick and its close deadline a close margin later, the STUCK expiry
marking it STUCK_LOOP (R8). With no OPEN context a CLOSING one whose deadline is reached and whose axles are settled
is closed, any other stays. How the clock is compared with a deadline across its wrap, and that due ticks are formed
modulo 2⁴⁸, is the model's choice (log 5). So is that every edge commanded is seen, several in one tick too (log 48). -/
def Obligations.OnsetOpensContext : Prop :=
  (∀ (l : Lane) (s : State), s.run = .running ∨ s.run = .quiet ∨ s.run = .waking → s.powerIdle = true →
    l.val < s.site.laneCount → s.loops.get l = .vacant → s.context l .openSlot = none →
    (∀ req, s.cap.st = .armed req → req.lane ≠ l) →
    ∃ t, exec (.loopOnset l) s = .next t
      ∧ t.settings = { s.settings with pins := { s.pins with lp := s.pins.lp.set l true } }
      ∧ t.veh.serial = (if s.veh.serial < 4294967295 then s.veh.serial + 1 else 1)
      ∧ (∃ c, t.context l .openSlot = some c ∧ c.serial = t.veh.serial ∧ c.onset = some s.clock ∧ c.loopEnd = none ∧ c.axles = []
          ∧ c.total = 0 ∧ c.noLoop = false ∧ c.stuckLoop = false ∧ c.splitBefore = false)
      ∧ t.context l .closingSlot = s.context l .closingSlot
      ∧ (∀ m k, m ≠ l → t.context m k = s.context m k)
      ∧ t.run = (if s.run = .quiet then .waking else s.run)
      ∧ (s.run = .quiet → t.ctrl.settle = some (0, s.ctrl.settleCount))
      ∧ t.loops = s.loops.set l (.occupied s.clock 0) ∧ t.trig.waiting = s.trig.waiting ++ [.loopOnset l s.clock]
      ∧ t.det = s.det ∧ t.axle = s.axle ∧ t.cal = s.cal ∧ t.rw.queue = s.rw.queue ∧ t.rw.created = s.rw.created
      ∧ t.cap = (advanceTrace s).cap)
  ∧ (∀ (l : Lane) (onset n : Nat) (c : Context) (s : State), s.run.measures = true → l.val < s.site.laneCount →
    s.loops.get l = .occupied onset n → s.context l .openSlot = some c → s.context l .closingSlot = none →
    let moved : Context :=
      { c with loopEnd := some s.clock,
               closeDeadline := some ((s.clock + marginOf (s.site.geom.get l) c.lastSpeed) % 281474976710656) }
    exec (.loopEnd l) s = .next (settleDown
      { s with
        pins.lp := s.pins.lp.set l false
        loops := s.loops.set l .vacant
        veh.lanes := s.veh.lanes.set l { opened := none, closing := some moved } })
    ∧ (491520 ≤ n → exec (.stuckExpiry l) s = .next (settleDown
      { s with
        loops := s.loops.set l (.stuck onset)
        veh.lanes := s.veh.lanes.set l { opened := none, closing := some { moved with stuckLoop := true } } })))
  ∧ (∀ (l : Lane) (x : Context) (s : State), s.run = .running ∨ s.run = .quiet ∨ s.run = .waking → s.powerIdle = true →
    l.val < s.site.laneCount → s.loops.get l = .vacant → s.context l .openSlot = some x →
    let v := closeContext l .closingSlot .truncated
      { s with pins.lp := s.pins.lp.set l true, loops := s.loops.set l (.occupied s.clock 0) }
    let serial := if v.veh.serial < 4294967295 then v.veh.serial + 1 else 1
    let opened := captureOpening l serial
      { v with
        veh.serial := serial
        veh.lanes := v.veh.lanes.set l { opened := some (contextAtOnset serial s.clock), closing := some x } }
    let woken : State := if s.run = .quiet then { opened with run := .waking, ctrl.settle := some (0, s.ctrl.settleCount) } else opened
    exec (.loopOnset l) s = .next (settleDown { woken with trig.waiting := woken.trig.waiting ++ [.loopOnset l s.clock] })
      ∧ (s.context l .closingSlot = none → v.veh = s.veh)
      ∧ (∀ m k, m ≠ l → v.context m k = s.context m k))
  ∧ (∀ (l : Lane) (onset n : Nat) (x c : Context) (s : State), s.run.measures = true → l.val < s.site.laneCount →
    s.loops.get l = .occupied onset n → s.context l .openSlot = some x → s.context l .closingSlot = some c →
    let ready : Prop := (∀ a ∈ c.axles, a.stage ≠ .waiting)
      ∧ ∃ d, (if c.noLoop then c.idleDeadline else c.closeDeadline) = some d ∧ reached s.clock d = true
    let ends (u : State) (stuck : Bool) (t : State) : Prop :=
      let goes (v : State) : State := settleDown
        { v with
          veh.lanes := v.veh.lanes.set l
            { opened := none
              closing := some
                { x with loopEnd := some s.clock, stuckLoop := x.stuckLoop || stuck,
                         closeDeadline := some ((s.clock + marginOf (s.site.geom.get l) x.lastSpeed) % 281474976710656) } } }
      (ready → t = goes (closeContext l .closingSlot .normal u)) ∧ (¬ready → t = goes (closeContext l .closingSlot .truncated u))
    (∃ t, exec (.loopEnd l) s = .next t
      ∧ ends { s with pins.lp := s.pins.lp.set l false, loops := s.loops.set l .vacant } false t)
    ∧ (491520 ≤ n → ∃ t, exec (.stuckExpiry l) s = .next t ∧ ends { s with loops := s.loops.set l (.stuck onset) } true t))
  ∧ (∀ (l : Lane) (onset n : Nat) (s : State), s.run.measures = true → l.val < s.site.laneCount →
    s.loops.get l = .occupied onset n → s.context l .openSlot = none →
    let ends (u : State) (t : State) : Prop :=
      (s.context l .closingSlot = none → t = settleDown u)
      ∧ ∀ c, s.context l .closingSlot = some c →
        let ready : Prop := (∀ a ∈ c.axles, a.stage ≠ .waiting)
          ∧ ∃ d, (if c.noLoop then c.idleDeadline else c.closeDeadline) = some d ∧ reached s.clock d = true
        (ready → t = settleDown (closeContext l .closingSlot .normal u)) ∧ (¬ready → t = settleDown u)
    (∃ t, exec (.loopEnd l) s = .next t ∧ ends { s with pins.lp := s.pins.lp.set l false, loops := s.loops.set l .vacant } t)
    ∧ (491520 ≤ n → ∃ t, exec (.stuckExpiry l) s = .next t ∧ ends { s with loops := s.loops.set l (.stuck onset) } t))

/-- Assignment (R88 to R90). An axle goes to its primary lane `l`: its lane, or for a straddle the lane R88 chooses. With only an
OPEN context there it joins it; with only a CLOSING one it joins that, unless the loop is STUCK where a context may open; with both it
joins the CLOSING one while its reference time lies before the onset of the OPEN one plus the front reach. Where it finds none, a
NO_LOOP context opens with the next serial and holds it; while no context may open (DRAINING, a power-fail sequence) it is
discarded. The onsets that choose a straddle's lane are compared by their distance from the clock (the model's choice, log 5). -/
def Obligations.AxleChoosesLaneAndContext : Prop :=
  ∀ (x : Axle) (p : RowAxle) (l : Lane) (s : State), x.partA = some p ∨ x.partA = none ∧ x.partB = some p → s.PrimaryLane p l →
    let isStuck : Prop := ∃ n, s.loops.get l = .stuck n
    let serial := if s.veh.serial < 4294967295 then s.veh.serial + 1 else 1
    let opened (stuck : Bool) : State := ({ s with veh.serial := serial } : State).withSlot l .openSlot (s.firstOf x
      { serial := serial, onset := none, loopEnd := none, axles := [], total := 0, lastSpeed := none, closeDeadline := none,
        idleDeadline := none, lastJoin := 0, noLoop := true, stuckLoop := stuck, splitBefore := false })
    (s.context l .openSlot = none → s.context l .closingSlot = none →
      (s.mayOpen = false → assignAxle x s = s)
      ∧ (s.mayOpen = true → isStuck → assignAxle x s = opened true)
      ∧ (s.mayOpen = true → ¬isStuck → assignAxle x s = opened false))
    ∧ (∀ c, s.context l .openSlot = none → s.context l .closingSlot = some c →
      (s.mayOpen = true → isStuck → assignAxle x s = opened true)
      ∧ (s.mayOpen = false ∨ ¬isStuck → assignAxle x s = joinSlot l .closingSlot x s))
    ∧ (∀ o, s.context l .openSlot = some o → s.context l .closingSlot = none → assignAxle x s = joinSlot l .openSlot x s)
    ∧ (∀ o c, s.context l .openSlot = some o → s.context l .closingSlot = some c →
      let g := s.site.geom.get l
      let reach := halfUp ((if x.partA = none then g.dOA + g.d else g.dOA) * 8192) (ownMeanOr s.axle.par.vmax c.axles)
      (∀ t, o.onset = some t →
        (p.centroid < 16 * (t + reach) → assignAxle x s = joinSlot l .closingSlot x s)
        ∧ (16 * (t + reach) ≤ p.centroid → assignAxle x s = joinSlot l .openSlot x s))
      ∧ (o.onset = none → assignAxle x s = joinSlot l .openSlot x s))

/-- Joining, splitting and completing (R91 to R93). An axle joins a context at its provisional row-A time, held while
fewer than 32 are, and is counted; the idle deadline of a NO_LOOP context follows. Where contexts may open and the
axle lies behind the latest held one by more than the split distance at the last speed, the context closes with
SPLIT_AFTER first and one with SPLIT_BEFORE opens in its slot with the next serial; the axle's time there is formed
anew (the model's choice, log 15). An axle is completed in place where it is held: last speed and deadlines follow and
the close test is made; one that no context holds is dropped. Of several own speeds at the latest time the one later
in the list is the last speed, and due ticks are formed modulo 2⁴⁸: the model's choices (logs 24 and 5). So is that no
close test is made at the assignment (log 53). -/
def Obligations.AxleJoinsOrSplits : Prop :=
  (∀ (l : Lane) (k : Slot) (x : Axle) (c : Context) (s : State), s.context l k = some c →
    let t := s.provisional x c.lastSpeed
    let parts : Prop := s.mayOpen = true ∧ ∃ v last, c.lastSpeed = some v ∧ IsLatest c.axles last ∧ last < t
      ∧ s.veh.splitDist < halfUp ((t - last).toNat * v) 131072
    (¬parts → ∀ pre post, c.axles = pre ++ post → (∀ y ∈ pre, y.prov ≤ t) → (∀ y, post.head? = some y → t < y.prov) →
      joinSlot l k x s = s.withSlot l k
        { c with
          axles := if c.axles.length < 32 then pre ++ { x with prov := t } :: post else c.axles
          total := raised c.total 1
          lastJoin := s.clock
          idleDeadline := if c.noLoop then some ((s.clock + s.idleTicks c.lastSpeed) % 281474976710656) else c.idleDeadline })
    ∧ (parts →
      let u := closeContext l k .splitAfter s
      let serial := if u.veh.serial < 4294967295 then u.veh.serial + 1 else 1
      joinSlot l k x s = ({ u with veh.serial := serial } : State).withSlot l k (u.firstOf x
        { serial := serial, onset := c.onset, loopEnd := c.loopEnd, axles := [], total := 0, lastSpeed := none,
          closeDeadline := c.closeDeadline, idleDeadline := none, lastJoin := 0, noLoop := c.noLoop, stuckLoop := c.stuckLoop,
          splitBefore := true })))
  ∧ (∀ (id : Nat) (f : Axle → Axle) (l : Lane) (k : Slot) (c : Context) (s : State), s.context l k = some c →
      (∃ x ∈ c.axles, x.id = id) →
      (∀ m j d, s.context m j = some d → (∃ x ∈ d.axles, x.id = id) → m = l ∧ j = k) →
    let xs := c.axles.map fun x => if x.id = id then f x else x
    let v := (xs.filterMap (·.own)).getLast?
    completeAxle id f s = closeTest l k (s.withSlot l k
      { c with
        axles := xs
        lastSpeed := v
        closeDeadline := if v = c.lastSpeed then c.closeDeadline else match c.loopEnd with
          | some t => some ((t + marginOf (s.site.geom.get l) v) % 281474976710656)
          | none => c.closeDeadline
        idleDeadline := if v ≠ c.lastSpeed ∧ c.noLoop = true then some ((c.lastJoin + s.idleTicks v) % 281474976710656)
          else c.idleDeadline }))
  ∧ (∀ (id : Nat) (f : Axle → Axle) (s : State), (∀ m j d, s.context m j = some d → ∀ x ∈ d.axles, x.id ≠ id) →
    completeAxle id f s = s)

/-- The clock at a deadline closes a context (R94, R95, R97). One with no axles is discarded: the slot is emptied and
nothing else changes. One with axles gives its record: the slot is empty, the vehicle counter rises by one and the
axle counter by its total, both saturating, and at least one record is created. CLOSE_DEADLINE closes a CLOSING
context without NO_LOOP whose loop is clear, whose axles are settled and whose deadline is reached; IDLE_DEADLINE a
NO_LOOP context in either slot. In every run state, DRAINING among them, and with a capture standing, the command is
the close of R97 (closeContext, whose parts another statement gives) where the context is so ready. Where the deadline
is not reached, an axle WAITING, the loop OCCUPIED, or no such context there, it changes nothing: that such a command
may be taken then is the model's choice (log 2). The clock is compared with the deadline modulo 2⁴⁸, the model's
choice too (log 5). -/
def Obligations.DeadlinesCloseContexts : Prop :=
  (∀ (l : Lane) (k : Slot) (c : Context) (d : Nat) (cmd : Instr) (s : State),
    s.run ≠ .draining → s.capturing = false → s.context l k = some c → c.settled = true → reached s.clock d = true →
    (cmd = .idleDeadline l k ∧ c.noLoop = true ∧ c.idleDeadline = some d
      ∨ cmd = .closeDeadline l ∧ k = .closingSlot ∧ c.noLoop = false ∧ c.closeDeadline = some d ∧ s.loopClear l = true) →
    (c.axles = [] → exec cmd s = .next (settleDown
      { s with veh.lanes := s.veh.lanes.set l ((s.veh.lanes.get l).set k none) }))
    ∧ (c.axles ≠ [] → ∃ t, exec cmd s = .next t ∧ t.settings = s.settings ∧ t.context l k = none
        ∧ (∀ m j, m ≠ l ∨ j ≠ k → t.context m j = s.context m j)
        ∧ t.veh.vehicles = (if s.veh.vehicles < 4294967295 then s.veh.vehicles + 1 else 4294967295)
        ∧ t.veh.axles = min 4294967295 (s.veh.axles + c.total)
        ∧ s.rw.created < t.rw.created ∧ t.veh.serial = s.veh.serial ∧ t.run = s.run ∧ t.det = s.det))
  ∧ (∀ (l : Lane) (k : Slot) (c : Context) (cmd : Instr) (s : State), s.context l k = some c →
      cmd = .idleDeadline l k ∧ c.noLoop = true ∨ cmd = .closeDeadline l ∧ k = .closingSlot →
    let deadline := if c.noLoop then c.idleDeadline else c.closeDeadline
    let ready : Prop := (∀ x ∈ c.axles, x.stage ≠ .waiting) ∧ (∃ d, deadline = some d ∧ reached s.clock d = true)
      ∧ (c.noLoop = true ∨ ∀ onset n, s.loops.get l ≠ .occupied onset n)
    (ready → exec cmd s = .next (settleDown (closeContext l k .normal s))) ∧ (¬ready → exec cmd s = .next (settleDown s)))
  ∧ (∀ (l : Lane) (k : Slot) (s : State),
    (s.context l .closingSlot = none → exec (.closeDeadline l) s = .next (settleDown s))
    ∧ ((∀ c, s.context l k = some c → c.noLoop = false) → exec (.idleDeadline l k) s = .next (settleDown s)))

/-- The close of a context (R97) and its values (R98 to R102). The context leaves its slot, the capture unit and the
drain are told; with axles its WAITING ones first leave the row-A list, the offer, the VEHICLE cascade and the record
follow. The axles stand in the order of their equivalent row-A times, equal times as they were held; the first twelve
are stored with their spacings. Gross and length are sums, heaviest the largest load, mean speed that of the own
speeds; the ten flags, the grade (the worst of the axles', of FAIR for a split, NO_LOOP or STUCK_LOOP, and of POOR for
TRUNCATED, overflow or a STALE or NONE temperature) and the class, of the first entry of the active table that fits,
or 0, are R101's and R102's. The axles a close works with (R50, R62): a WAITING one becomes SINGLE_ROW; a SINGLE_ROW
one is weighed at the own speed of the nearest lender, in time and then by the lower centroid, with BORROWED_SPEED, or
with no lender has no loads and is UNWEIGHED, with CHANNEL_FAULT where a channel of its lanes is OFF or FAULTED; any
other stays as it was completed. That of lenders equal in both the first in the axle list lends is the model's choice
(log 24). -/
def Obligations.ClosingValues : Prop :=
  (∀ (l : Lane) (k : Slot) (cause : CloseCause) (c : Context) (s : State), s.context l k = some c →
    let vacate (u : State) : State := { u with veh.lanes := u.veh.lanes.set l ((u.veh.lanes.get l).set k none) }
    (c.axles = [] → closeContext l k cause s = testDrain (captureClosed c.serial (vacate s)))
    ∧ (c.axles ≠ [] →
      let u : State := { s with axle.rowA := s.axle.rowA.filter fun w => decide (∀ x ∈ c.axles, x.id ≠ w.id) }
      let (v, entry) := u.closeValues l c cause (u.closedAxles c)
      closeContext l k cause s = testDrain (captureClosed c.serial (vacate (recordStage v (offerStage v entry u))))))
  ∧ (∀ (l : Lane) (cause : CloseCause) (c : Context) (held : List Axle) (s : State),
    let v := (s.closeValues l c cause held).1
    let grades (ns : List Nat) : Nat := ns.foldl max 0
    v.serial = c.serial ∧ v.lane = l ∧ v.onset = c.onset ∧ v.closeTick = s.clock ∧ v.total = c.total
    ∧ v.rowA = s.temp.rows.a ∧ v.rowB = s.temp.rows.b
    ∧ ∃ xs : List Axle, xs.Perm held ∧ (xs.Pairwise fun x y => s.equivalent x ≤ s.equivalent y)
      ∧ (∀ t, (xs.filter fun x => decide (s.equivalent x = t)) = held.filter fun x => decide (s.equivalent x = t))
      ∧ v.stored = (xs.zip ((List.range xs.length).map fun i => (s.gap xs i).getD 0)).take 12
      ∧ v.gross = (xs.map (·.loads.load)).sum
      ∧ v.heaviest = grades (xs.map (·.loads.load))
      ∧ v.length = ((List.range xs.length).map fun i => (s.gap xs i).getD 0).sum
      ∧ v.meanSpeed = ownMeanOr 0 xs
      ∧ (v.flags.getLsbD 0 = decide (cause = .truncated) ∧ v.flags.getLsbD 1 = decide (cause = .splitAfter)
        ∧ v.flags.getLsbD 2 = c.splitBefore ∧ v.flags.getLsbD 3 = c.noLoop ∧ v.flags.getLsbD 4 = c.stuckLoop
        ∧ v.flags.getLsbD 5 = decide (12 < c.total) ∧ v.flags.getLsbD 6 = xs.any (fun x => x.flags.getLsbD 5)
        ∧ v.flags.getLsbD 7 = xs.any (fun x => x.flags.getLsbD 6) ∧ v.flags.getLsbD 8 = s.cal.lock ∧ v.flags.getLsbD 9 = false)
      ∧ v.grade.code = max (grades (xs.map fun x => (x.grade.getD .good).code))
          (max (if cause = .splitAfter ∨ c.splitBefore = true ∨ c.noLoop = true ∨ c.stuckLoop = true then 1 else 0)
            (if cause = .truncated ∨ 12 < c.total ∨ s.temp.rows.a.code = 4 ∨ s.temp.rows.a.code = 0 ∨ s.temp.rows.b.code = 4
              ∨ s.temp.rows.b.code = 0 then 2 else 0))
      ∧ (let takes (e : ClassEntry) : Prop :=
           e.Takes (min c.total 12) v.stored.length (s.gap xs) v.grade v.gross ((xs.map (·.loads.load)).headD 0)
         (∀ pre e post, s.cls.active = pre ++ e :: post → (∀ d ∈ pre, ¬takes d) → takes e →
           v.cls = e.code ∧ (s.closeValues l c cause held).2 = some e)
         ∧ ((∀ e ∈ s.cls.active, ¬takes e) → v.cls = 0 ∧ (s.closeValues l c cause held).2 = none)))
  ∧ (∀ (c : Context) (s : State),
    let xs := c.axles.map fun x => if x.stage = .waiting then asSingleRow x else x
    ∃ out : Axle → Axle, s.closedAxles c = xs.map out ∧ ∀ x ∈ xs,
      let bare (flags : AxleFlags) : Axle :=
        { x with
          loads := { aNear := 0, aFar := 0, bNear := 0, bFar := 0, near := 0, far := 0, totalA := 0, totalB := 0, load := 0 }
          flags := flags
          grade := some .unweighed
          stage := .closedOut }
      (x.stage ≠ .singleRow → out x = x)
      ∧ (x.stage = .singleRow → (∀ m ∈ xs, ∀ d k v, ¬Lends x m d k v) →
        (s.ChannelFaultOn x → out x = bare (x.flags ||| 0x20000)) ∧ (¬s.ChannelFaultOn x → out x = bare x.flags))
      ∧ (∀ pre m post d k v, x.stage = .singleRow → xs = pre ++ m :: post → Lends x m d k v →
          (∀ y ∈ pre, ∀ d' k' v', Lends x y d' k' v' → d < d' ∨ d = d' ∧ k < k') →
          (∀ y ∈ post, ∀ d' k' v', Lends x y d' k' v' → d < d' ∨ d = d' ∧ k ≤ k') →
        out x = { s.weigh v { x with borrowed := some v, flags := x.flags ||| 0x00100 } with stage := .closedOut }))

/-- A closed vehicle's VEHICLE cascade and its record (R106, R107; 10, 10.4). The event carries the vehicle's values
and the first axle's row-B time: its row-B centroid, or from its row-A centroid at its speed, or none. The record of
12 + 6 n words for n stored axles, or 12 + 3 n with REDUCED where more than 32 records are queued, is created after
the cascade with the mask of the sets fired; its header, axle entries and wheel details are as 10.4 lays them out. The
vehicle and axle counters rise. That a first axle with a row B part gives its row-B centroid without a speed too is
the model's choice (log 49). The D from row A to row B is that of the axle's speed lane (log 52). -/
def Obligations.VehicleRecordWords : Prop :=
  ∀ (v : ClosedVehicle) (s : State),
    let rowB : Option Nat := match v.stored.head? with
      | none => none
      | some (x, _) => match x.partB, x.partA, x.speed? with
        | some p, _, _ => some p.centroid
        | none, some p, some w => some (p.centroid + halfUp ((s.site.geom.get p.lane).d * 131072) w)
        | _, _, _ => none
    let event : VehicleEvent :=
      { serial := v.serial, lane := v.lane, cls := v.cls, gross := v.gross, heaviest := v.heaviest, grade := v.grade,
        meanSpeed := v.meanSpeed, flags := v.flags, rowB := rowB }
    let u := (runCascade (.vehicle event) s).1
    let screened := (runCascade (.vehicle event) s).2
    let n := v.stored.length
    let reduced := decide (32 < u.rw.queue.length)
    let onset := v.onset.getD 0
    ∃ ws : List Nat,
      (recordStage v s =
        let w := createRecord .vehicle ws u
        { w with veh.vehicles := raised w.veh.vehicles 1, veh.axles := raised w.veh.axles v.total })
      ∧ ws.length = (if reduced then 12 + 3 * n else 12 + 6 * n)
      ∧ ws.take 12 =
          [ 1 + 8 * v.grade.code + 32 * (v.lane.val + 1) + 256 * n, v.serial, onset % 4294967296, v.closeTick % 4294967296, v.total,
            v.cls + 65536 * u.cal.gen, u.cls.gen + 65536 * screened.toNat + 16777216 * v.rowA.code + 268435456 * v.rowB.code,
            v.gross, v.length, v.meanSpeed + 65536 * (if reduced then v.flags ||| 0x200 else v.flags).toNat,
            (v.rowA.valueOr % 65536).toNat + 65536 * (v.rowB.valueOr % 65536).toNat,
            onset / 4294967296 % 65536 + 65536 * (v.closeTick / 4294967296 % 65536) ]
      ∧ (∀ i x g, v.stored[i]? = some (x, g) →
          (ws.drop (12 + 3 * i)).take 3 =
            [x.loads.load + 16777216 * (x.grade.getD .good).code, g + 65536 * (x.speed?.getD 0), x.flags.toNat]
          ∧ (reduced = false → (ws.drop (12 + 3 * n + 3 * i)).take 3 =
            [x.loads.near + 65536 * x.loads.far, x.loads.totalA, x.loads.totalB]))

/-- A closed vehicle whose class entry carries a reference makes an offer, any other none (R106). The offer is tallied
exactly when the grade is GOOD, the mean speed in the calibrated band, the reference axle stored without STRADDLE and
LANE_CHANGE, drift not frozen and enabled for the lane, the row-A temperature not NONE, the load 50 to 150 % of the
target, and the tally of the cell empty or of that target (R115, R116); otherwise only the rejected counter rises. A
drift update (R116, R117, R118): the offer that brings a tally to the window sets Kd to Kd × (16,384 + step) / 16,384
rounded half up, within the limits, where step is the ratio of target to mean less 16,384, held to the maximum step;
the tally is cleared, the update count rises, DRIFT_LIMIT tells whether the proposed factor reached a limit, no other
cell changes, and one calibration record is created with lane, band, old and new factor, mean, target, step and update
count (R122; 10, 10.4), more only where a limit was reached, those being trigger records. Of a proposed factor at both
limits the lower is named, and fields of the record that its kind does not use are 0 (the model's choices, logs 24 and
50). -/
def Obligations.DriftUpdateArithmetic : Prop :=
  (∀ (o : Offer) (s : State),
    let cell (b : Fin 8) : Cell := (s.cal.cells.get o.lane).get b
    let tallied (x : Axle) (t : Int) : Prop :=
      o.grade = .good ∧ (s.axle.par.bandLow ≤ o.meanSpeed ∧ o.meanSpeed ≤ s.axle.par.bandHigh)
      ∧ (o.axle = some x ∧ x.flags.getLsbD 5 = false ∧ x.flags.getLsbD 6 = false)
      ∧ (s.cal.frozen = false ∧ s.cal.enables.get o.lane = true)
      ∧ (match o.rowA with | .none => False | .live v => v = t | .secondary v => v = t | .held v _ => v = t | .stale v _ => v = t)
      ∧ (o.target ≤ 2 * x.loads.load ∧ 2 * x.loads.load ≤ 3 * o.target)
      ∧ ((cell (bandOf s.temp.bounds t)).count = 0 ∨ (cell (bandOf s.temp.bounds t)).target = some o.target)
    (∀ x t, tallied x t →
      let b := bandOf s.temp.bounds t
      let c : Cell := { cell b with count := (cell b).count + 1, sum := (cell b).sum + x.loads.load, target := some o.target }
      ((cell b).count + 1 ≠ s.cal.window →
        takeOffer o s = { s with cal.cells := s.cal.cells.set o.lane ((s.cal.cells.get o.lane).set b c) })
      ∧ ((cell b).count + 1 = s.cal.window → takeOffer o s = driftUpdate o.lane b c s))
    ∧ ((∀ x t, ¬tallied x t) → takeOffer o s = { s with cal.rejected := raised s.cal.rejected 1 }))
  ∧ (∀ (v : ClosedVehicle) (s : State), offerStage v none s = s
    ∧ ∀ e : ClassEntry, (e.reference = none → offerStage v (some e) s = s)
      ∧ ∀ idx target, e.reference = some (idx, target) → offerStage v (some e) s = takeOffer
          { lane := v.lane, grade := v.grade, meanSpeed := v.meanSpeed, axle := (v.stored[idx - 1]?).map (·.1), target := target,
            rowA := v.rowA } s)
  ∧ (∀ (lane : Lane) (band : Fin 8) (c : Cell) (target : Nat) (s : State), c.target = some target → 0 < s.cal.window →
    s.cal.window ≤ c.sum → s.cal.maxStep ≤ 1638 → s.cal.lower ≤ s.cal.upper →
    let mean := (2 * c.sum + s.cal.window) / (2 * s.cal.window)
    let ratio := (2 * (target * 16384) + mean) / (2 * mean)
    let step : Int := max (-(s.cal.maxStep : Int)) (min s.cal.maxStep ((ratio : Int) - 16384))
    let proposed := (c.kd * (16384 + step).toNat + 8192) / 16384
    let u := driftUpdate lane band c s
    let d := (u.cal.cells.get lane).get band
    d.kd = bring s.cal.lower s.cal.upper proposed ∧ d.count = 0 ∧ d.sum = 0 ∧ d.lastTick = s.clock
      ∧ d.updates = (if c.updates < 4294967295 then c.updates + 1 else 4294967295)
      ∧ d.limit = (decide (proposed ≤ s.cal.lower) || decide (s.cal.upper ≤ proposed))
      ∧ (∀ l b, l ≠ lane ∨ b ≠ band → (u.cal.cells.get l).get b = (s.cal.cells.get l).get b)
      ∧ u.settings = s.settings ∧ s.rw.created + 1 ≤ u.rw.created
      ∧ (d.limit = false → u.rw.created = s.rw.created + 1)
      ∧ (s.rw.queue.length < 64 → ∃ more,
          u.rw.queue = s.rw.queue ++ s.calRecord (if d.limit then 2 else 1)
            (if s.cal.lower < proposed ∧ s.cal.upper ≤ proposed then 1 else 0) 0 (lane.val + 1) band.val (c.kd + 65536 * d.kd) mean
            (target + 65536 * half step) d.updates :: more
          ∧ (d.limit = false → more = []) ∧ ∀ r ∈ more, r.kind = .trigger))

/-! ### Run-state timers, triggers, captures -/

/-- The Run Controller's timers. The drain timer at 40,960 ticks ends the drain: no context, no channel measuring,
READY, the result page asked to close with DRAIN and the STOP in hand answered DONE (R170). The quiet idle timer at
the idle delay enters QUIET, while the quiet condition holds (R174). The settle counter at its count returns the part
to RUNNING (R175). A drain that finds no context left ends in the same way at once (testDrain, R170). The model's
choices: a page whose close was already asked for keeps that cause alone, or during a bus fault or a resumption takes
DRAIN beside it (log 16), and the close is written by later accesses (log 7). A timer command taken before its time
changes nothing (the model's choice, log 2). The quiet condition holds when every tracked loop is VACANT or STUCK, no
lane holds a context and no channel is CANDIDATE, HIT, TAIL or LONG (R174). Behind every command the quiet idle timer
starts at 0, or runs on, in RUNNING with quiet enabled while the condition holds, and stops otherwise; that it looks
at the state each command leaves, and stands during a power-fail sequence, is read from R174 (log 27). -/
def Obligations.RunTimersExpire : Prop :=
  (∀ (n : Nat) (s : State), s.run = .draining → s.ctrl.drain = some n →
    (40960 ≤ n → ∃ t, exec .drainTimeout s = .next t ∧ t.settings = s.settings ∧ t.run = .ready ∧ t.noContext = true
      ∧ (∀ c, t.det.chans.get c = .off) ∧ t.det.hits.a = [] ∧ t.det.hits.b = [] ∧ t.axle.rowA = [] ∧ t.ctrl.drain = none
      ∧ (∀ p, s.rw.page = some p →
          (s.regs.busFault = true → t.rw.page = some { p with noted := p.noted ||| 0x20 })
          ∧ (s.regs.busFault = false → s.ex.resuming = false → p.closeWith = none → t.rw.page = some
              { p with closeWith := some 0x20, phase := if p.phase = .rest then .closeEntry else p.phase }))
      ∧ (∀ x len, s.ex.taken = some x → x.phase = .holding len →
          t.ex.taken = some { x with phase := .outcome len .done 0 false }))
    ∧ (n < 40960 → exec .drainTimeout s = .next (settleDown s)))
  ∧ (∀ (n : Nat) (s : State), s.run = .running → s.ctrl.quietTimer = some n → s.ctrl.quietEnable = true → s.quietHolds = true →
    (s.ctrl.idleDelay * 8192 ≤ n →
      exec .quietEntry s = .next (settleDown { s with run := .quiet, ctrl.quietTimer := none }))
    ∧ (n < s.ctrl.idleDelay * 8192 → exec .quietEntry s = .next (settleDown s)))
  ∧ (∀ (n count : Nat) (s : State), s.run = .waking → s.ctrl.settle = some (n, count) →
    (count ≤ n → exec .settleEnd s = .next (settleDown { s with run := .running, ctrl.settle := none }))
    ∧ (n < count → exec .settleEnd s = .next (settleDown s)))
  ∧ (∀ s : State, (¬(s.run = .draining ∧ s.ctrl.drain.isSome = true ∧ s.noContext = true) → testDrain s = s)
    ∧ (s.run = .draining → s.ctrl.drain.isSome = true → s.noContext = true → testDrain s =
      { s with
        run := .ready
        ctrl.drain := none
        det.chans := Tab.fill 16 .off
        det.hits := { a := [], b := [] }
        axle.rowA := []
        axle.rowB := []
        rw.page := s.rw.page.map fun p =>
          if s.regs.busFault then { p with noted := p.noted ||| 0x20 }
          else match p.closeWith with
            | none => { p with closeWith := some 0x20 }
            | some f => if s.ex.resuming then { p with closeWith := some (f ||| 0x20) } else p
        ex.taken := s.ex.taken.map fun x => match x.phase with
          | .holding len => { x with phase := .outcome len .done 0 false }
          | _ => x }))
  ∧ (∀ s : State,
    (s.quietHolds = true ↔
      (∀ l : Lane, s.run.works = true → l.val < s.site.laneCount → s.loops.get l = .vacant ∨ ∃ onset, s.loops.get l = .stuck onset)
      ∧ (∀ l k, s.context l k = none)
      ∧ (∀ c, s.det.chans.get c = .off ∨ (∃ n b, s.det.chans.get c = .learning n b) ∨ (∃ b, s.det.chans.get c = .idle b)
        ∨ ∃ b, s.det.chans.get c = .faulted b))
    ∧ (let counts : Prop := s.run = .running ∧ s.ctrl.quietEnable = true ∧ s.powerIdle = true ∧ s.quietHolds = true
      (counts → quietUpdate s = { s with ctrl.quietTimer := some (s.ctrl.quietTimer.getD 0) })
      ∧ (¬counts → quietUpdate s = { s with ctrl.quietTimer := none }))
    ∧ (settleDown s).ctrl = (quietUpdate s).ctrl)

/-- A RUNNING timer whose due tick the clock has reached expires (R137): it stops, or with repeat on its due tick advances by one
period, and a TIMER event is handed on. How ticks compare across the wrap is the model's choice (log 5), and so is that
TIMER_EXPIRY taken before the due tick changes nothing (log 2). A waiting event is taken by its cascade (R129, R133), an edge of the
present tick when that is over (log 46): with no set enabled it leaves the waiting list and nothing else changes; a row update's tracking is done when it is handed on (log 11). -/
def Obligations.TimersAndCascades : Prop :=
  (∀ (n : SetId) (due : Nat) (s : State), s.run.works = true → (s.trig.sets.get n).timer = .running due →
    (reached s.clock due = true → exec (.timerExpiry n) s = .next (settleDown
      { s with
        trig.sets := s.trig.sets.set n
          { s.trig.sets.get n with
            timer := if (s.trig.sets.get n).dfn.repeats
              then .running ((due + (s.trig.sets.get n).dfn.period) % 281474976710656) else .stopped }
        trig.waiting := s.trig.waiting ++ [.timer n] }))
    ∧ (reached s.clock due = false → exec (.timerExpiry n) s = .next (settleDown s)))
  ∧ (∀ (k : Nat) (e : TrigEvent) (s : State), s.run.works = true → s.trig.waiting[k]? = some e →
      (∀ n, (s.trig.sets.get n).enabled = false) → (∀ l rising tick, e = .fieldEdge l rising tick → s.trig.edgeTaken.get l = false) →
    exec (.cascade k) s = .next (settleDown { s with trig.waiting := s.trig.waiting.eraseIdx k }))

/-- Each firing of a cascade is of another set (R133, R135) and gives at most one record: a cascade creates no more records than
the sets it fired, which the screened mask holds, so at most eight, and every record it creates is a trigger record's. -/
def Obligations.CascadeReportsEachFiredSetOnce : Prop :=
  ∀ (e : TrigEvent) (s : State),
    (runCascade e s).1.rw.created ≤ s.rw.created + ((indices 8).filter fun n => (runCascade e s).2.getLsbD n.val).length
    ∧ s.rw.created ≤ (runCascade e s).1.rw.created
    ∧ (∀ r ∈ (runCascade e s).1.rw.queue, r ∈ s.rw.queue ∨ (r.kind = .trigger ∧ s.rw.created < r.serial))

/-- Matching (R130 to R132). A factor matches only an event of its own kind: VEHICLE when each condition present
holds, LOOP_ONSET and DRIFT_LIMIT by lane, FIELD_EDGE by line and direction while the line is an input, DRIFT_LIMIT
and RECORD_LOST by the limit and kinds chosen (codes that choose none match nothing, the model's choice, log 13),
TIMER its own set's. At a row update every set of that row, enabled or not, takes the side R132's table gives and its
memory of STALE or NONE, and the update carries the occurrences the factors choose; a TEMPERATURE factor matches by
that. That DEGRADED is chosen with direction code 0 too, where degraded is on, is the model's choice (log 13). That
the waiting row update carries a mask of the sets given an occurrence, formed when the update is made, and that its
cascade matches by this mask, is the model's choice (log 11). -/
def Obligations.TriggersMatch : Prop :=
  (∀ (s : State) (n : SetId) (e : TrigEvent), (s.trig.sets.get n).dfn.factor.code ≠ e.code → factorMatches s n e = false)
  ∧ (∀ (s : State) (n : SetId) (c : VehicleCond) (v : VehicleEvent), (s.trig.sets.get n).dfn.factor = .vehicle c →
    let has (i : Nat) : Prop := v.flags.getLsbD i = true
    (factorMatches s n (.vehicle v) = true ↔
      (∀ m, c.lanes = some m → m.getLsbD v.lane.val = true)
      ∧ (∀ lo hi, c.classes = some (lo, hi) → lo ≤ v.cls ∧ v.cls ≤ hi)
      ∧ c.grossMin ≤ v.gross ∧ c.heaviestMin ≤ v.heaviest
      ∧ (∀ lo hi, c.grades = some (lo, hi) → lo ≤ v.grade.code ∧ v.grade.code ≤ hi)
      ∧ (∀ m, c.flags = some m → (m.getLsbD 0 = true ∧ has 6) ∨ (m.getLsbD 1 = true ∧ has 7)
          ∨ (m.getLsbD 2 = true ∧ (has 1 ∨ has 2)) ∨ (m.getLsbD 3 = true ∧ has 3))))
  ∧ (∀ (s : State) (n : SetId), match (s.trig.sets.get n).dfn.factor with
    | .none => True
    | .vehicle _ => True
    | .loopOnset m => ∀ l tick, factorMatches s n (.loopOnset l tick) = m.getLsbD l.val
    | .timer => ∀ own, factorMatches s n (.timer own) = decide (own = n)
    | .fieldEdge l up down => ∀ k rising tick, factorMatches s n (.fieldEdge k rising tick) = true
        ↔ k = l ∧ (rising = true ∧ up = true ∨ rising = false ∧ down = true) ∧ ∃ v, s.trig.lines.get l = .input v
    | .temperature _ _ _ _ _ => ∀ row temp occ, factorMatches s n (.temperature row temp occ) = occ.getLsbD n.val
    | .driftLimit m lower upper => ∀ l b isUpper kd, factorMatches s n (.driftLimit l b isUpper kd) = true
        ↔ (∀ x, m = some x → x.getLsbD l.val = true) ∧ (isUpper = true ∧ upper = true ∨ isUpper = false ∧ lower = true)
    | .backlog => ∀ k, factorMatches s n (.backlog k) = true
    | .recordLost vehicles others => ∀ isVeh, factorMatches s n (.recordLost isVeh) = if isVeh then vehicles else others)
  ∧ (∀ (row : Row) (temp : RowTemp) (s : State), ∃ (sets : Tab 8 TriggerSet) (occ : BitVec 8),
    let shown : Option Int := match temp with
      | .none => none
      | .live v => some v
      | .secondary v => some v
      | .held v _ => some v
      | .stale v _ => some v
    let bad : Bool := match temp with
      | .none => true
      | .stale _ _ => true
      | _ => false
    let side (theta : Int) (old : Side) : Side := match shown, old with
      | none, _ => .unknown
      | some v, .unknown => if v < theta then .low else .high
      | some v, .low => if v < theta + 5 then .low else .high
      | some v, .high => if theta - 5 < v then .high else .low
    updateRow row temp s = ({ s with trig.sets := sets } : State).told (.temperature row temp occ)
    ∧ ∀ n, let x := s.trig.sets.get n
      (∀ theta up down deg, x.dfn.factor = .temperature row theta up down deg →
        sets.get n = { x with side := side theta x.side, degraded := bad }
        ∧ (occ.getLsbD n.val = true ↔
          (up = true ∧ x.side = .low ∧ side theta x.side = .high) ∨ (down = true ∧ x.side = .high ∧ side theta x.side = .low)
          ∨ (deg = true ∧ bad = true ∧ x.degraded = false)))
      ∧ ((∀ theta up down deg, x.dfn.factor ≠ .temperature row theta up down deg) → sets.get n = x ∧ occ.getLsbD n.val = false))

/-- Firing (R133 to R136, R138, R139, R141, R142). With one set enabled and no masks on sets, a waiting event its
factor matches fires it: pulse, timer, capture, report in order, and a ONCE set is then disabled; where no enabled set
matches nothing fires. In general a cascade considers the sets in rising number, each at most once: an enabled one
that matches fires, applies its enable and disable masks, and activates the sets of its activate mask in rising
number, which may activate further ones but none twice (R133 to R135). A pulse starts a fixed delay after the firing,
or where a distance is reached at the vehicle's mean speed from the first axle's row-B time, at the firing itself LATE
or NO_SPEED; it is placed at the earliest start that overlaps no scheduled pulse, or dropped and counted with four
scheduled. A timer starts, stops or restarts with its own set's period; a capture arms an IDLE unit, else
CAPTURE_BUSY; a report is a trigger record of five words. The model's choices: ticks are compared from the clock (log
5); an operation of code 0 leaves the timer as it is (log 13); the cascade of an edge waits for the end of the edge's
tick (log 46). -/
def Obligations.TriggerActions : Prop :=
  (∀ (k : Nat) (e : TrigEvent) (n : SetId) (s : State), s.run.works = true → s.trig.waiting[k]? = some e →
      (∀ m, (s.trig.sets.get m).enabled = decide (m = n)) →
      (∀ l rising tick, e = .fieldEdge l rising tick → s.trig.edgeTaken.get l = false) →
    let u : State := { s with trig.waiting := s.trig.waiting.eraseIdx k }
    let d := (s.trig.sets.get n).dfn
    (factorMatches u n e = false → exec (.cascade k) s = .next (settleDown u))
    ∧ (factorMatches u n e = true → d.enableMask = 0 → d.disableMask = 0 →
      let p := firePulse e n u
      let c := fireCapture e n (fireTimer n p.1)
      let r := fireReport e n false p.2 c.2 c.1
      exec (.cascade k) s = .next (settleDown
        (if d.once then { r with trig.sets := r.trig.sets.set n { r.trig.sets.get n with enabled := false } } else r))))
  ∧ (∀ (e : TrigEvent) (n : SetId) (s : State), ((s.trig.sets.get n).dfn.pulse = none → (firePulse e n s).1 = s)
    ∧ (∀ a v, (s.trig.sets.get n).dfn.pulse = some a → s.trig.lines.get a.line = .input v → (firePulse e n s).1 = s)
    ∧ (∀ a dOut, (s.trig.sets.get n).dfn.pulse = some a → a.timing = .distance dOut → (∀ v, e ≠ .vehicle v) → (firePulse e n s).1 = s))
  ∧ (∀ (e : TrigEvent) (n : SetId) (a : PulseAction) (ps : List Pulse) (req : Int) (late noSpeed : Bool) (s : State),
      (s.trig.sets.get n).dfn.pulse = some a → s.trig.lines.get a.line = .output ps → 0 < a.width →
      ((∃ delay, a.timing = .fixed delay ∧ req = delay ∧ late = false ∧ noSpeed = false)
        ∨ ∃ dOut v, a.timing = .distance dOut ∧ e = .vehicle v
          ∧ ((v.rowB = none ∨ v.meanSpeed = 0) ∧ req = 0 ∧ late = false ∧ noSpeed = true
            ∨ ∃ b, v.rowB = some b ∧ v.meanSpeed ≠ 0 ∧ noSpeed = false
              ∧ (let off := tickOffset s.clock (halfUp (b * v.meanSpeed + dOut * 131072) (16 * v.meanSpeed) % 281474976710656)
                 late = decide (off < 0) ∧ req = if off < 0 then 0 else off))) →
    (4 ≤ ps.length → firePulse e n s = ({ s with trig.dropped := raised s.trig.dropped 1 },
      { placed := none, dropped := true, late := late, noSpeed := noSpeed, deferred := false }))
    ∧ (ps.length < 4 → ∃ (at_ : Int) (pre post : List Pulse),
      let off (q : Pulse) : Int := tickOffset s.clock q.start
      let free (x : Int) : Prop := ∀ q ∈ ps, tickOffset s.clock q.stop ≤ x ∨ x + a.width ≤ off q
      let p : Pulse :=
        { start := (((s.clock : Int) + at_) % 281474976710656).toNat
          stop := (((s.clock : Int) + (at_ + a.width)) % 281474976710656).toNat
          tset := n
          running := decide (at_ = 0) && ps.all (fun q => !q.running) }
      req ≤ at_ ∧ free at_ ∧ (∀ x, req ≤ x → x < at_ → ¬free x)
      ∧ ps = pre ++ post ∧ (∀ q ∈ pre, off q ≤ off p) ∧ (∀ q, post.head? = some q → off p < off q)
      ∧ firePulse e n s = ({ s with trig.lines := s.trig.lines.set a.line (.output (pre ++ p :: post)) },
          { placed := some p.start, dropped := false, late := late, noSpeed := noSpeed, deferred := decide (at_ ≠ req) })))
  ∧ (∀ (n : SetId) (s : State), ((s.trig.sets.get n).dfn.timerAct = none → fireTimer n s = s)
    ∧ ∀ a, (s.trig.sets.get n).dfn.timerAct = some a →
      let x := s.trig.sets.get a.target
      let due := (s.clock + x.dfn.period) % 281474976710656
      fireTimer n s = { s with trig.sets := s.trig.sets.set a.target { x with timer := match a.op with
        | .start => if x.timer = .stopped then .running due else x.timer
        | .restart => .running due
        | .stop => .stopped
        | .other => x.timer } })
  ∧ (∀ (e : TrigEvent) (n : SetId) (s : State), ((s.trig.sets.get n).dfn.captureAct = none → fireCapture e n s = (s, false))
    ∧ ∀ a, (s.trig.sets.get n).dfn.captureAct = some a →
      (a.lane = none → (∀ v, e ≠ .vehicle v) → fireCapture e n s = (s, false))
      ∧ ∀ l, a.lane = some l ∨ (a.lane = none ∧ ∃ v, e = .vehicle v ∧ v.lane = l) →
        (s.cap.st = .idle →
          fireCapture e n s = ({ s with cap.st := .armed { lane := l, pre := a.pre, maxFrames := a.maxFrames } }, false))
        ∧ (s.cap.st ≠ .idle → fireCapture e n s = (s, true)))
  ∧ (∀ (e : TrigEvent) (n : SetId) (act busy : Bool) (r : PulseResult) (s : State),
    ((s.trig.sets.get n).dfn.report = false → fireReport e n act r busy s = s)
    ∧ ((s.trig.sets.get n).dfn.report = true → fireReport e n act r busy s = createRecord .trigger
        [ 5 + 8 * n.val + 256 * e.code + 4096 * flagOf act, (match e with | .vehicle v => v.serial | _ => 0),
          (match r.placed with | some t => t % 4294967296 | none => 0),
          (if r.placed = none then (if r.dropped then 2 else 3) else 1)
            + 16 * flagOf r.late + 32 * flagOf r.noSpeed + 64 * flagOf r.deferred + 128 * flagOf busy,
          s.clock % 4294967296 ] s))
  ∧ (∀ (e : TrigEvent) (s : State), (s.run.works = false → runCascade e s = (s, 0))
    ∧ (s.run.works = true → ∃ b, Considers e (indices 8) (s, 0) b ∧ runCascade e s = b))
  ∧ (∀ (k : Nat) (e : TrigEvent) (s : State), s.run.works = true → s.trig.waiting[k]? = some e →
      (∀ l rising tick, e = .fieldEdge l rising tick → s.trig.edgeTaken.get l = false) →
    exec (.cascade k) s = .next (settleDown (runCascade e { s with trig.waiting := s.trig.waiting.eraseIdx k }).1))

/-- Captures (R35 to R38; 10, 10.5). An onset that opens a context in the lane of an ARMED unit starts its capture:
the next capture number, the copy position at the p-th newest frame held, a page from the trace empty list; with none
lent, or during a bus fault, it ends at once. At rest the writer moves a position that has left the history to the
oldest frame, DISCONTINUOUS, and copies the frame there; a full page closes with NONE where another is lent, else
TRUNCATED (also before a CLOSE's end point, log 17); at the end point the page closes with its reason. The position
moves only at rest or while a frame is copied, which is given up (log 47), and not during a bus fault or in a broken
capture. A frame's two words go to the page, which counts it; at the m-th the end is LIMIT. A page's eight header
words are number and sequence, vehicle serial, first and last tick, frames and those before the onset, lane,
DISCONTINUOUS, OVER_RANGE and end reason, the ticks' high halves, 0. The CLOSED entry carries FULL, RESTART or
POWER_FAIL, and in a broken capture DAMAGED beside what was noted; it ends the capture, or after NONE takes the next
page. The close of the context captured ends it with CLOSE at the newest frame held, where no end was taken before
(R37); during a bus fault, or once the capture is broken, CLOSE is noted where no other reason was (R38), which
reaches past the clearing of BUS_FAULT by the model's choice (log 29). -/
def Obligations.CaptureCopiesFrames : Prop :=
  let fresh (p : Page) (seq : Nat) : TracePage :=
    { page := p, seq := seq, frames := 0, pre := 0, ticks := none, discontinuous := false, overRange := 0, reason := .none,
      phase := .takeEntry }
  (∀ (l : Lane) (req : ArmRequest) (s : State), s.run = .running ∨ s.run = .quiet ∨ s.run = .waking → s.powerIdle = true →
      l.val < s.site.laneCount → s.loops.get l = .vacant → s.context l .openSlot = none → s.cap.st = .armed req → req.lane = l →
    (∀ p rest, s.ex.traceList = p :: rest → s.regs.busFault = false → ∃ t, exec (.loopOnset l) s = .next t
      ∧ t.ex.traceList = rest ∧ t.ex.table = s.ex.table.set p .filling
      ∧ t.cap =
        { number := nextOf16 s.cap.number
          st := .capturing
            { lane := l, serial := if s.veh.serial < 4294967295 then s.veh.serial + 1 else 1, number := nextOf16 s.cap.number,
              pos := s.history.next - min req.pre s.history.frames.length, opened := s.history.next, written := 0,
              maxFrames := req.maxFrames, stop := none, faultEnd := none, broken := false, noted := 0, page := some (fresh p 0) } })
    ∧ (s.ex.traceList = [] ∨ s.regs.busFault = true → ∃ t, exec (.loopOnset l) s = .next t
      ∧ t.ex.traceList = s.ex.traceList ∧ t.ex.table = s.ex.table ∧ t.cap = { number := nextOf16 s.cap.number, st := .idle }))
  ∧ (∀ (c : CaptureRun) (pg : TracePage) (s : State), s.cap.st = .capturing c → c.page = some pg → s.regs.busFault = false →
      c.broken = false →
    let oldest := s.history.next - s.history.frames.length
    let at_ := max c.pos oldest
    let found := s.history.frames.find? fun f => decide (f.num = at_)
    let goes (ph : TracePhase) (r : EndReason) (stop : Option (Nat × EndReason)) : State :=
      { s with
        cap.st := .capturing
          { c with
            pos := at_, stop := stop,
            page := some { pg with discontinuous := pg.discontinuous || decide (c.pos < oldest), phase := ph, reason := r } } }
    let free : Prop := pg.phase = .rest ∨ (∃ f k, pg.phase = .frame f k) ∧ c.pos < oldest
    (¬free → advanceTrace s = s)
    ∧ (∀ n r, free → c.stop = some (n, r) → n ≤ at_ → advanceTrace s = goes (.header 0) r c.stop)
    ∧ (free → (∀ n r, c.stop = some (n, r) → at_ < n) →
      (found = none → advanceTrace s = goes .rest pg.reason c.stop)
      ∧ (∀ f, found = some f →
        (pg.frames < 508 → advanceTrace s = goes (.frame f 0) pg.reason c.stop)
        ∧ (508 ≤ pg.frames → s.ex.traceList ≠ [] → advanceTrace s = goes (.header 0) .none c.stop)
        ∧ (508 ≤ pg.frames → s.ex.traceList = [] → advanceTrace s = goes (.header 0) .truncated (some (at_, .truncated))))))
  ∧ (∀ (c : CaptureRun) (pg : TracePage) (s : State), s.cap.st = .capturing c → c.page = some pg → s.powerIdle = true →
      s.ex.resuming = false → s.ex.grant = some .traceWriter →
    (∀ (f : HistFrame) (k : Fin 2) (ch : Fin 4 → Chan), pg.phase = .frame f k.val → (∀ i, (ch i).val = 4 * c.lane.val + i.val) →
      let w : Word := if k = 0 then BitVec.ofNat 32 ((f.samples.get (ch 0)).toNat + 65536 * (f.samples.get (ch 1)).toNat)
        else BitVec.ofNat 32 ((f.samples.get (ch 2)).toNat + 65536 * (f.samples.get (ch 3)).toNat)
      let done : State :=
        { s with
          mem := Memory.writeWords s.mem (s.regs.xbase.toNat + 4096 + 4096 * pg.page.val + 4 * (8 + 2 * pg.frames + k.val)) [w]
          ex.grant := none }
      (k = 0 → exec (.accessComplete []) s
        = .next (settleDown { done with cap.st := .capturing { c with page := some { pg with phase := .frame f 1 } } }))
      ∧ (k = 1 → ∃ ov : BitVec 4, (∀ i : Fin 4, ov.getLsbD i.val = (pg.overRange.getLsbD i.val || f.overRange.get (ch i)))
        ∧ exec (.accessComplete []) s = .next (settleDown
          { done with
            cap.st := .capturing
              { c with
                pos := c.pos + 1
                written := c.written + 1
                stop := if c.stop = none ∧ c.maxFrames ≤ c.written + 1 then some (c.pos + 1, .limit) else c.stop
                page := some
                  { pg with
                    frames := pg.frames + 1
                    pre := if f.num < c.opened then pg.pre + 1 else pg.pre
                    ticks := some ((pg.ticks.getD (f.tick, f.tick)).1, f.tick)
                    discontinuous := pg.discontinuous || (decide (c.written ≠ 0) && decide (f.finding ≠ .inSequence))
                    overRange := ov
                    phase := .rest } } })))
    ∧ (pg.phase = .takeEntry → exec (.accessComplete []) s = .next (settleDown
        { s with
          mem := Memory.writeWords s.mem (s.regs.xbase.toNat + 16 * pg.page.val)
            (DirEntry.words { state := 3, role := 2, flags := 0, used := 0, closure := 0, first := 0, count := 0 })
          ex.grant := none
          cap.st := .capturing { c with page := some { pg with phase := .rest } } }))
    ∧ (∀ k : Fin 8, pg.phase = .header k.val →
        let ticks := pg.ticks.getD (0, 0)
        let reason : Nat := match pg.reason with
          | .none => 0 | .close => 1 | .limit => 2 | .truncated => 3 | .cancelled => 4 | .halted => 5 | .restart => 6
          | .powerFail => 7 | .busFault => 8
        let w : List Nat :=
          [ c.number + 65536 * pg.seq, c.serial, ticks.1 % 4294967296, ticks.2 % 4294967296, pg.frames + 65536 * pg.pre,
            c.lane.val + 1 + 16 * flagOf pg.discontinuous + 256 * pg.overRange.toNat + 65536 * reason,
            ticks.1 / 4294967296 % 65536 + 65536 * (ticks.2 / 4294967296 % 65536), 0 ]
        exec (.accessComplete []) s = .next (settleDown
          { s with
            mem := Memory.writeWords s.mem (s.regs.xbase.toNat + 4096 + 4096 * pg.page.val + 4 * k.val)
              [BitVec.ofNat 32 (w.getD k.val 0)]
            ex.grant := none
            cap.st := .capturing
              { c with page := some { pg with phase := if k.val < 7 then .header (k.val + 1) else .closeEntry } } }))
    ∧ (pg.phase = .closeEntry →
      let flags : BitVec 6 := (if pg.frames = 508 then 0x02 else 0)
        ||| (match pg.reason with | .restart => 0x08 | .powerFail => 0x10 | _ => 0) ||| (if c.broken then 0x04 ||| c.noted else 0)
      let closed : State :=
        { s with
          mem := Memory.writeWords s.mem (s.regs.xbase.toNat + 16 * pg.page.val)
            (DirEntry.words { state := 4, role := 2, flags := flags, used := 8 + 2 * pg.frames,
                              closure := BitVec.ofNat 32 (s.ex.closures + 1), first := 0, count := BitVec.ofNat 32 pg.frames })
          ex.grant := none
          ex.closures := s.ex.closures + 1
          regs.serial := BitVec.ofNat 32 (s.ex.closures + 1)
          regs.pageClosed := true
          ex.table := s.ex.table.set pg.page .notMine }
      (pg.reason ≠ .none ∨ s.ex.traceList = [] → exec (.accessComplete []) s = .next (settleDown { closed with cap.st := .idle }))
      ∧ (∀ p rest, pg.reason = .none → s.ex.traceList = p :: rest → exec (.accessComplete []) s = .next (settleDown
        { closed with
          cap.st := .capturing { c with page := some (fresh p (pg.seq + 1)) }
          ex.traceList := rest
          ex.table := (s.ex.table.set pg.page .notMine).set p .filling }))))
  ∧ (∀ (n : Nat) (s : State), (s.capturing = false → captureClosed n s = s)
    ∧ ∀ c, s.cap.st = .capturing c →
      (c.serial ≠ n → captureClosed n s = s)
      ∧ (c.serial = n → s.regs.busFault = false → c.broken = false →
        (c.stop = none →
          captureClosed n s = { s with cap.st := .capturing { c with stop := some (s.history.next, .close) } })
        ∧ (c.stop ≠ none → captureClosed n s = s))
      ∧ (c.serial = n → s.regs.busFault = true ∨ c.broken = true →
        captureClosed n s = { s with cap.st := .capturing { c with faultEnd := some (c.faultEnd.getD .close) } }))
  ∧ (∀ s : State, (s.regs.busFault = true → advanceTrace s = s)
    ∧ ((∀ c pg, s.cap.st = .capturing c → c.page = some pg → c.broken = true) → advanceTrace s = s))

/-! ### The exchange -/

/-- The queue (R153 to R155). A record created takes the next stream serial. With fewer than 64 held it enters at the tail, BACKLOG being
handed on at the entry from 31 to 32. With 64 held a record of another kind is lost; a vehicle record displaces the oldest record of
the other kind, but not one whose writing has begun or failed (the moment is the model's choice, log 43), and is lost where there
is none. A lost record is counted by its kind, and RECORD_LOST is handed on unless it is a trigger record. At an entry NO_PAGE is set
where no result page is FILLING or lent. -/
def Obligations.QueueTakesAndLoses : Prop :=
  ∀ (k : RecKind) (ws : List Nat) (s : State),
    let r := s.newRecord k ws
    let noPage := s.regs.noPage || (s.rw.page.isNone && s.ex.resultList.isEmpty)
    let s1 : State := { s with rw.created := s.rw.created + 1 }
    let kept (q : List Rec) (i : Nat) : Prop := ∀ j d, j < i → q[j]? = some d → d.kind = .vehicle ∨ j = 0 ∧ s.rw.pinned = true
    (s.rw.queue.length < 64 →
      let u : State := { s1 with rw.queue := s.rw.queue ++ [r] }
      let t : State := if s.rw.queue.length = 31 then u.told (.backlog 32) else u
      createRecord k ws s = { t with regs.noPage := noPage })
    ∧ (64 ≤ s.rw.queue.length → k ≠ .vehicle → createRecord k ws s = s1.lost k)
    ∧ (∀ pre old post, 64 ≤ s.rw.queue.length → k = .vehicle → s.rw.queue = pre ++ old :: post → old.kind ≠ .vehicle →
        (s.rw.pinned = true → pre ≠ []) → kept s.rw.queue pre.length →
      let t : State := ({ s1 with rw.queue := pre ++ post ++ [r] } : State).lost old.kind
      createRecord k ws s = { t with regs.noPage := noPage })
    ∧ (64 ≤ s.rw.queue.length → k = .vehicle → kept s.rw.queue s.rw.queue.length → createRecord k ws s = s1.lost .vehicle)

/-- The exchange's own events, where the exchange may take up work. The sweep timer at its period starts a sweep; the
entry the sweep reads next is the lowest index from its place on that the table holds NOT_MINE, pending handovers go
ahead of it, and with none left the sweep ends and the timer starts at 0 with the period held, in ticks (R152, R165);
the flush timer at its limit asks for the page's close with FLUSHED, noted during a bus fault (R156, R163); a close
already asked for stands, or in a resumption takes the flag besides (the model's choice, log 16). The Record Writer
takes and counts the head of the result empty list (R155), the order reader takes that of the order page list (R158);
the oldest pending handover has its entry read, pending until that is handled, or counts as a stray where the page is
held (R151). SWEEP and FLUSH_TIMEOUT taken before their time change nothing (the model's choice, log 2). -/
def Obligations.PageEvents : Prop :=
  (∀ (n period : Nat) (s : State), s.exchangeFree = true → s.ex.sweepTimer = some (n, period) →
    (period ≤ n → exec .sweep s = .next (settleDown { s with ex.sweepAt := some 0, ex.sweepTimer := none }))
    ∧ (n < period → exec .sweep s = .next (settleDown s)))
  ∧ (∀ (p : ResultPage) (n limit : Nat) (s : State), s.rw.page = some p → p.flush = some (n, limit) →
    (limit ≤ n → s.regs.busFault = false → p.closeWith = none →
      exec .flushTimeout s = .next (settleDown { s with rw.page := some { p with flush := none, closeWith := some 0x01 } }))
    ∧ (limit ≤ n → s.regs.busFault = true →
      exec .flushTimeout s = .next (settleDown { s with rw.page := some { p with flush := none, noted := p.noted ||| 0x01 } }))
    ∧ (∀ f, limit ≤ n → s.regs.busFault = false → p.closeWith = some f →
      exec .flushTimeout s = .next (settleDown
        { s with rw.page := some { p with flush := none, closeWith := some (if s.ex.resuming then f ||| 0x01 else f) } }))
    ∧ (n < limit → exec .flushTimeout s = .next (settleDown s)))
  ∧ (∀ (p : Page) (rest : List Page) (s : State), s.exchangeFree = true → s.rw.queue ≠ [] → s.rw.page = none →
      s.ex.resultList = p :: rest →
    exec .takeResultPage s = .next (settleDown
      { s with
        rw.page := some { page := p, taken := s.clock, header := [], used := 4, count := 0, first := none, flush := none,
                          closeWith := none, noted := 0, phase := .takeEntry }
        rw.pages := s.rw.pages + 1
        ex.resultList := rest
        ex.table := s.ex.table.set p .filling }))
  ∧ (∀ (p : Page) (e : DirEntry) (rest : List (Page × DirEntry)) (s : State), s.exchangeFree = true → s.ex.taken = none →
      s.run ≠ .draining → s.ex.orderList = (p, e) :: rest →
    exec .takeOrderPage s = .next (settleDown
      { s with
        ex.taken := some { page := p, entry := e, off := 0, outcomes := 0, abandon := false, flags := 0, phase := .firstHeader }
        ex.orderList := rest
        ex.table := s.ex.table.set p .taken }))
  ∧ (∀ (p : Page) (rest : List Page) (s : State), s.exchangeFree = true → s.ex.work = none → s.ex.handovers = p :: rest →
    (s.ex.table.get p = .notMine →
      exec .pendingHandover s = .next (settleDown { s with ex.work := some (.readEntry p true) }))
    ∧ (s.ex.table.get p ≠ .notMine →
      exec .pendingHandover s = .next (settleDown
        { s with ex.handovers := rest, ex.stray := if s.ex.stray < 4294967295 then s.ex.stray + 1 else 4294967295 })))
  ∧ (∀ (i : Nat) (s : State),
    (∀ p : Page, i ≤ p.val → s.ex.table.get p = .notMine →
      (∀ q : Page, i ≤ q.val → q.val < p.val → s.ex.table.get q ≠ .notMine) →
      s.nextSwept i = some p
      ∧ (s.ex.sweepAt = some i → s.ex.work = none → s.exchangeFree = true →
        (s.ex.handovers = [] → advanceSweeper s = { s with ex.work := some (.readEntry p false), ex.sweepAt := some (p.val + 1) })
        ∧ (s.ex.handovers ≠ [] → advanceSweeper s = s)))
    ∧ ((∀ p : Page, i ≤ p.val → s.ex.table.get p ≠ .notMine) →
      s.nextSwept i = none
      ∧ (s.ex.sweepAt = some i → s.ex.work = none → s.exchangeFree = true →
        advanceSweeper s = { s with ex.sweepAt := none, ex.sweepTimer := some (0, halfUp (s.ex.sweepMs * 8192) 1000) })))
  ∧ (∀ s : State, s.ex.sweepAt = none ∨ s.ex.work ≠ none ∨ s.exchangeFree = false → advanceSweeper s = s)

/-- What a completed access brings about, with no resumption and no power-fail sequence in progress. An entry read for
a handover or a sweep as GIVEN RESULT, GIVEN TRACE or POSTED ORDER puts the page at the tail of its list; GIVEN or
POSTED with another role it is to be written REFUSED, which sets ORDER_ANSWERED; any other is a stray for a handover
and passed by for a sweep; so handled, a handover pends no longer (R151, R152). Once its entry is written FILLING a
result page's header is composed, the lost counts starting again, and its four words are written in turn (R155). At
rest, with no bus fault and no resumption, the page's CLOSED entry comes next where a close was asked for; else the
record at the head of the queue is begun exactly when its words fit in 1,024 and its serial lies less than 1,024 above
the page's first, and the page closes with FULL when not (R156, R157, R182); in a power-fail sequence only while fewer
than sixteen are placed and its close is not asked for (R177), and with the order page and the capture done with, by
the model's choice (log 18). That a record begun is pinned from then on is the model's choice (log 43). Its words
follow one by one, and the last places it: it leaves the queue and the page counts it (R156). The CLOSED entry of a
result page gives the next closure serial, sets SERIAL and PAGE_CLOSED and leaves the page to the host (R157). The
ANSWERED entry of an order page sets ORDER_ANSWERED and leaves it (R160). Reading back the four words of a directory
entry gives the entry (10, 10.3), for every value its fields admit. The model's choices: where a read returns fewer
words than asked, the words missing are the memory's own (log 3); the header's lost counts are counts without bound,
of which its words carry the low 32 bits (log 28). -/
def Obligations.AccessesComplete : Prop :=
  (∀ (data : List Word) (p : Page) (h : Bool) (s : State), s.powerIdle = true → s.ex.resuming = false →
      s.ex.grant = some .sweeper → s.ex.work = some (.readEntry p h) →
    let a := s.regs.xbase.toNat + 16 * p.val
    let m := Memory.writeWords s.mem a (data.take 4)
    let w := (Memory.readWord m a).toNat
    let left := if h then s.ex.handovers.erase p else s.ex.handovers
    let done : State := { s with mem := m, ex.grant := none, ex.work := none, ex.handovers := left }
    let e : DirEntry :=
      { state := w % 16, role := w / 16 % 16, flags := BitVec.ofNat 6 (w / 256 % 64), used := w / 65536 % 2048,
        closure := Memory.readWord m (a + 4), first := Memory.readWord m (a + 8), count := Memory.readWord m (a + 12) }
    (w % 16 = 1 → w / 16 % 16 = 1 → exec (.accessComplete data) s = .next (settleDown
      { done with ex.resultList := s.ex.resultList ++ [p], ex.table := s.ex.table.set p .queuedResult }))
    ∧ (w % 16 = 1 → w / 16 % 16 = 2 → exec (.accessComplete data) s = .next (settleDown
      { done with ex.traceList := s.ex.traceList ++ [p], ex.table := s.ex.table.set p .queuedTrace }))
    ∧ (w % 16 = 2 → w / 16 % 16 = 3 → exec (.accessComplete data) s = .next (settleDown
      { done with ex.orderList := s.ex.orderList ++ [(p, e)], ex.table := s.ex.table.set p .queuedOrder }))
    ∧ (w % 16 = 1 ∧ w / 16 % 16 ≠ 1 ∧ w / 16 % 16 ≠ 2 ∨ w % 16 = 2 ∧ w / 16 % 16 ≠ 3 →
      exec (.accessComplete data) s = .next (settleDown { s with mem := m, ex.grant := none, ex.work := some (.refuse p e h) }))
    ∧ (w % 16 ≠ 1 → w % 16 ≠ 2 → exec (.accessComplete data) s = .next (settleDown
      { done with
        ex.stray := if h then (if s.ex.stray < 4294967295 then s.ex.stray + 1 else 4294967295) else s.ex.stray })))
  ∧ (∀ (p : Page) (e : DirEntry) (h : Bool) (s : State), s.powerIdle = true → s.ex.resuming = false →
      s.ex.grant = some .sweeper → s.ex.work = some (.refuse p e h) →
    exec (.accessComplete []) s = .next (settleDown
      { s with
        mem := Memory.writeWords s.mem (s.regs.xbase.toNat + 16 * p.val) (DirEntry.words { e with state := 7 })
        ex.grant := none
        ex.work := none
        ex.handovers := if h then s.ex.handovers.erase p else s.ex.handovers
        regs.orderAnswered := true }))
  ∧ (∀ (p : ResultPage) (s : State), s.powerIdle = true → s.ex.resuming = false → s.ex.grant = some .recordWriter →
      s.rw.page = some p → p.phase = .takeEntry →
    exec (.accessComplete []) s = .next (settleDown
      { s with
        mem := Memory.writeWords s.mem (s.regs.xbase.toNat + 16 * p.page.val)
          (DirEntry.words { state := 3, role := 1, flags := 0, used := 0, closure := 0, first := 0, count := 0 })
        ex.grant := none
        rw.headerVehicle := 0
        rw.headerOther := 0
        rw.page := some
          { p with
            header := [BitVec.ofNat 32 s.rw.pages, BitVec.ofNat 32 s.rw.headerVehicle, BitVec.ofNat 32 s.rw.headerOther,
              BitVec.ofNat 32 p.taken]
            phase := .header 0 } }))
  ∧ (∀ (p : ResultPage) (r : Rec) (rest : List Rec) (k : Nat) (s : State), s.powerIdle = true → s.ex.resuming = false →
      s.ex.grant = some .recordWriter → s.rw.page = some p → p.phase = .record k → s.rw.queue = r :: rest →
      k + 1 = r.words.length →
    exec (.accessComplete []) s = .next (settleDown
      { s with
        mem := Memory.writeWords s.mem (s.regs.xbase.toNat + 4096 + 4096 * p.page.val + 4 * (p.used + k)) [r.words.getD k 0]
        ex.grant := none
        rw.queue := rest
        rw.pinned := false
        rw.page := some
          { p with
            used := p.used + r.words.length, count := p.count + 1, first := some (p.first.getD r.serial), phase := .rest,
            flush := if p.first.isNone then some (0, (2 * (s.ex.flushMs * 8192) + 1000) / 2000) else p.flush } }))
  ∧ (∀ (p : ResultPage) (s : State), s.powerIdle = true → s.ex.resuming = false → s.ex.grant = some .recordWriter →
      s.rw.page = some p → p.phase = .closeEntry →
    ∃ t, exec (.accessComplete []) s = .next t ∧ t.ex.closures = s.ex.closures + 1
      ∧ t.regs.serial = BitVec.ofNat 32 (s.ex.closures + 1) ∧ t.regs.pageClosed = true ∧ t.ex.table = s.ex.table.set p.page .notMine
      ∧ t.rw.page = none ∧ t.rw.queue = s.rw.queue
      ∧ (t.regs.noPage = (s.regs.noPage || (!s.rw.queue.isEmpty && s.ex.resultList.isEmpty)))
      ∧ t.mem = Memory.writeWords s.mem (s.regs.xbase.toNat + 16 * p.page.val)
          (DirEntry.words { state := 4, role := 1, flags := p.closeWith.getD 0, used := p.used,
                            closure := BitVec.ofNat 32 (s.ex.closures + 1), first := BitVec.ofNat 32 (p.first.getD 0),
                            count := BitVec.ofNat 32 p.count })
      ∧ t.run = s.run ∧ t.cal = s.cal ∧ t.veh = s.veh)
  ∧ (∀ (t : OrderPage) (s : State), s.powerIdle = true → s.ex.resuming = false → s.ex.grant = some .orderReader →
      s.ex.taken = some t → t.phase = .answer →
    exec (.accessComplete []) s = .next (settleDown
      { s with
        mem := Memory.writeWords s.mem (s.regs.xbase.toNat + 16 * t.page.val)
          (DirEntry.words { t.entry with state := 6, count := BitVec.ofNat 32 t.outcomes, flags := t.flags })
        ex.grant := none
        ex.taken := none
        ex.table := s.ex.table.set t.page .notMine
        regs.orderAnswered := true }))
  ∧ (∀ e : DirEntry, e.state < 16 → e.role < 16 → e.used < 2048 → DirEntry.ofWords e.words = e)
  ∧ (∀ (p : ResultPage) (k : Nat) (s : State), s.powerIdle = true → s.ex.resuming = false → s.ex.grant = some .recordWriter →
      s.rw.page = some p → p.phase = .header k →
    exec (.accessComplete []) s = .next (settleDown
      { s with
        mem := Memory.writeWords s.mem (s.regs.xbase.toNat + 4096 + 4096 * p.page.val + 4 * k) [p.header.getD k 0]
        ex.grant := none
        rw.page := some { p with phase := if k < 3 then .header (k + 1) else .rest } }))
  ∧ (∀ (p : ResultPage) (r : Rec) (rest : List Rec) (k : Nat) (s : State), s.powerIdle = true → s.ex.resuming = false →
      s.ex.grant = some .recordWriter → s.rw.page = some p → p.phase = .record k → s.rw.queue = r :: rest →
      k + 1 < r.words.length →
    exec (.accessComplete []) s = .next (settleDown
      { s with
        mem := Memory.writeWords s.mem (s.regs.xbase.toNat + 4096 + 4096 * p.page.val + 4 * (p.used + k)) [r.words.getD k 0]
        ex.grant := none
        rw.page := some { p with phase := .record (k + 1) } }))
  ∧ (∀ s : State,
    (s.rw.page = none → advanceWriter s = s)
    ∧ (∀ p, s.rw.page = some p → p.phase ≠ .rest ∨ s.regs.busFault = true ∨ s.ex.resuming = true → advanceWriter s = s)
    ∧ (∀ p, s.rw.page = some p → p.phase = .rest → s.regs.busFault = false → s.ex.resuming = false →
      let places : Prop := ∀ q, s.ctrl.power = some q →
        q.closing = false ∧ q.placed < 16 ∧ s.ex.taken = none ∧ s.capturing = false
      (∀ f, p.closeWith = some f → advanceWriter s = { s with rw.page := some { p with phase := .closeEntry } })
      ∧ (p.closeWith = none → s.rw.queue = [] → advanceWriter s = s)
      ∧ (∀ r rest, p.closeWith = none → s.rw.queue = r :: rest →
        let fits : Prop := p.used + r.words.length ≤ 1024 ∧ r.serial < p.first.getD r.serial + 1024
        (¬places → advanceWriter s = s)
        ∧ (places → fits → advanceWriter s = { s with rw.page := some { p with phase := .record 0 }, rw.pinned := true })
        ∧ (places → ¬fits →
          advanceWriter s = { s with rw.page := some { p with closeWith := some 0x02, phase := .closeEntry } }))))

/-- The order reader (R158 to R160), with no resumption and no power-fail sequence. The first header of a page of
fewer than 2 or more than 1,024 words, or of length 0, has the page written REFUSED, which leaves it to the host and
sets ORDER_ANSWERED; any other has it written TAKEN. That a page abandoned while its first header was being read is
refused so too, with no flag, is the model's choice (log 44). A header of length below 2, or that runs past the page,
is MALFORMED and ends the page, without an outcome where none fits; in a page being abandoned it is ABANDONED; of no
kind, UNKNOWN_KIND; else its parameter words are read one by one (none for a length its kind does not take, log 26)
and the order is in hand. The words of a LOAD are gathered in its shadow. An outcome word goes to word 1 of its order;
the next header is then read, or with the page used up or MALFORMED its answer is written. The word a read gives is
the first the bus returned or, where it returned none, the memory's own: the model's choice (log 3). -/
def Obligations.OrderReader : Prop :=
  ∀ (data : List Word) (t : OrderPage) (s : State), s.powerIdle = true → s.ex.resuming = false → s.ex.grant = some .orderReader →
      s.ex.taken = some t →
    let word (k : Nat) : Nat := s.regs.xbase.toNat + 4096 + 4096 * t.page.val + 4 * (t.off + k)
    let entry := s.regs.xbase.toNat + 16 * t.page.val
    let read (k : Nat) : List Host.Cell := Memory.writeWords s.mem (word k) (data.take 1)
    let got (k : Nat) : Word := Memory.readWord (read k) (word k)
    let len (w : Word) : Nat := w.toNat / 65536 % 2048
    let goes (m : List Host.Cell) (x : OrderPage) : Prop :=
      exec (.accessComplete data) s = .next (settleDown { s with mem := m, ex.grant := none, ex.taken := some x })
    let dispatched (m : List Host.Cell) (w : Word) : Prop :=
      (len w < 2 ∨ t.entry.used < t.off + len w →
        goes m { t with phase := if t.off + 1 < t.entry.used then .outcome (len w) .malformed 0 true else .answer })
      ∧ (2 ≤ len w → t.off + len w ≤ t.entry.used →
        (t.abandon = true → goes m { t with phase := .outcome (len w) .abandoned 0 false })
        ∧ (t.abandon = false → OrderKind.ofCode (w.toNat % 256) = none → goes m { t with phase := .outcome (len w) .unknownKind 0 false })
        ∧ (∀ k, t.abandon = false → OrderKind.ofCode (w.toNat % 256) = some k →
          goes m { t with phase := if k.wanted (len w) = 0 then .ready k (len w) [] else .params k (len w) (k.wanted (len w)) [] }))
    (t.phase = .firstHeader →
      (t.entry.used < 2 ∨ 1024 < t.entry.used ∨ len (got 0) = 0 → goes (read 0) { t with phase := .refuse })
      ∧ (2 ≤ t.entry.used → t.entry.used ≤ 1024 → len (got 0) ≠ 0 → goes (read 0) { t with phase := .takeEntry (got 0) }))
    ∧ (t.phase = .refuse → exec (.accessComplete data) s = .next (settleDown
        { s with
          mem := Memory.writeWords s.mem entry (DirEntry.words { t.entry with state := 7 })
          ex.grant := none
          ex.taken := none
          ex.table := s.ex.table.set t.page .notMine
          regs.orderAnswered := true }))
    ∧ (∀ w, t.phase = .takeEntry w → dispatched (Memory.writeWords s.mem entry (DirEntry.words { t.entry with state := 5 })) w)
    ∧ (t.phase = .header → dispatched (read 0) (got 0))
    ∧ (∀ k n want ps, t.phase = .params k n want ps →
        let w := got (2 + ps.length)
        goes (read (2 + ps.length))
          { t with phase := if ps.length + 1 < want then .params k n want (ps ++ [w]) else .ready k n (ps ++ [w]) })
    ∧ (∀ k n ps, t.phase = .loading k n ps →
        let w := got (2 + ps.length)
        let x : OrderPage := { t with phase := if ps.length + 1 < n - 2 then .loading k n (ps ++ [w]) else .loaded k n (ps ++ [w]) }
        let u : State := { s with mem := read (2 + ps.length), ex.grant := none, ex.taken := some x }
        (k = .loadTemperatureCurve →
          exec (.accessComplete data) s = .next (settleDown { u with temp.shadow := s.temp.shadow.map (· ++ [w]) }))
        ∧ (k ≠ .loadTemperatureCurve →
          exec (.accessComplete data) s = .next (settleDown { u with cls.shadow := s.cls.shadow.map (· ++ [w]) })))
    ∧ (∀ n o detail final, t.phase = .outcome n o detail final →
        let m := Memory.writeWords s.mem (word 1) [BitVec.ofNat 32 (o.code + 65536 * detail)]
        (final = true → goes m { t with outcomes := t.outcomes + 1, phase := .answer })
        ∧ (final = false → goes m
          { t with
            outcomes := t.outcomes + 1
            off := t.off + n
            phase := if t.off + n = t.entry.used then .answer else .header }))

/-- An error on the access granted (R163), no power-fail sequence being in progress: BUS_FAULT is set and the exchange
stops. Nothing is granted, no sweep runs, handovers are dropped, an order in hand is not executed and a LOAD's shadow
is dropped; the records queued, the closure count, SERIAL and the STATUS bits of closing and answering stay; so do run
state, vehicles, calibration and triggers, and every setting. A page whose own entry write of its taking failed goes
back to the head of its list, a result page uncounted; any other page held stays so, its work given up, an order
page's reader halted. That an order page whose own write REFUSED failed goes back too is the model's choice (log 44).
The resumption (R164) after BUS_FAULT was cleared goes on with each entry written: the result page's, closed with its
flags, step 1; then the broken capture's trace page is closed with its end reason and DAMAGED beside what was noted,
step 2; then the TAKEN order page is answered with DAMAGED, step 3; with that answered, or none taken, the resumption
ends and a sweep begins in the working run states, step 4, at the lowest page held NOT_MINE, or at its end where there
is none (R152). Flags that the pages carry from before the fault or take during a resumption are the model's choices
(logs 16, 29 and 45). -/
def Obligations.BusErrorStopsExchange : Prop :=
  (∀ (r : Requester) (s : State), s.powerIdle = true → s.ex.grant = some r →
    ∃ t, exec .busError s = .next t ∧ t.settings = s.settings ∧ t.regs.busFault = true ∧ t.ex.grant = none
      ∧ t.ex.sweepTimer = none ∧ t.ex.sweepAt = none ∧ t.ex.work = none ∧ t.ex.handovers = [] ∧ t.ex.resuming = false
      ∧ (∀ k, t.inHand k = none)
      ∧ t.rw.queue = s.rw.queue ∧ t.rw.created = s.rw.created ∧ t.ex.closures = s.ex.closures ∧ t.regs.serial = s.regs.serial
      ∧ t.regs.pageClosed = s.regs.pageClosed ∧ t.regs.orderAnswered = s.regs.orderAnswered
      ∧ t.run = s.run ∧ t.veh = s.veh ∧ t.cal = s.cal ∧ t.trig = s.trig ∧ t.det = s.det ∧ t.loops = s.loops
      ∧ (∀ p, s.rw.page = some p →
          (r = .recordWriter → p.phase = .takeEntry →
            t.rw.page = none ∧ t.ex.resultList = p.page :: s.ex.resultList ∧ t.rw.pages = s.rw.pages - 1
              ∧ t.ex.table.get p.page = .queuedResult)
          ∧ (r ≠ .recordWriter ∨ p.phase ≠ .takeEntry → ∃ x, t.rw.page = some x ∧ x.page = p.page ∧ x.phase = .rest
              ∧ x.closeWith = none ∧ x.used = p.used ∧ x.count = p.count ∧ t.ex.resultList = s.ex.resultList))
      ∧ (∀ c pg, s.cap.st = .capturing c → c.page = some pg →
          (r = .traceWriter → pg.phase = .takeEntry → t.cap.st = .capturing { c with page := none }
            ∧ t.ex.traceList = pg.page :: s.ex.traceList ∧ t.ex.table.get pg.page = .queuedTrace)
          ∧ (r ≠ .traceWriter ∨ pg.phase ≠ .takeEntry →
            t.cap.st = .capturing { c with page := some { pg with phase := .rest } } ∧ t.ex.traceList = s.ex.traceList))
      ∧ (∀ x, s.ex.taken = some x →
          let entryWrite : Prop := x.phase = .refuse ∨ ∃ w, x.phase = .takeEntry w
          (r = .orderReader → entryWrite →
            t.ex.taken = none ∧ t.ex.orderList = (x.page, x.entry) :: s.ex.orderList ∧ t.ex.table.get x.page = .queuedOrder)
          ∧ (r ≠ .orderReader ∨ ¬entryWrite →
            t.ex.taken = some { x with phase := .halted } ∧ t.ex.orderList = s.ex.orderList
              ∧ t.temp.shadow = none ∧ t.cls.shadow = none)))
  ∧ (∀ (s : State), s.ex.resuming = true → s.powerIdle = true → s.regs.busFault = false →
    let orders (t : State) : Prop :=
      (∀ x, s.ex.taken = some x → x.phase = .halted →
        t.ex.taken = some { x with flags := x.flags ||| 0x04, phase := .answer } ∧ t.ex.resuming = true)
      ∧ (s.ex.taken = none → s.run.works = true →
        t.ex.taken = none ∧ t.ex.resuming = false ∧ (t.ex.sweepAt.isSome = true ∨ t.ex.sweepTimer.isSome = true)
          ∧ (s.ex.work = none → t.SweepBegun) ∧ (s.ex.work ≠ none → t.ex.sweepAt = some 0 ∧ t.ex.sweepTimer = none))
    (∀ p, s.ex.grant = some .recordWriter → s.rw.page = some p → p.phase = .closeEntry →
      ∃ t, exec (.accessComplete []) s = .next t ∧ t.rw.page = none ∧ t.ex.closures = s.ex.closures + 1
        ∧ t.mem = Memory.writeWords s.mem (s.regs.xbase.toNat + 16 * p.page.val)
            (DirEntry.words { state := 4, role := 1, flags := p.closeWith.getD 0, used := p.used,
                              closure := BitVec.ofNat 32 (s.ex.closures + 1), first := BitVec.ofNat 32 (p.first.getD 0),
                              count := BitVec.ofNat 32 p.count })
        ∧ (s.capturing = false → orders t)
        ∧ (∀ c, s.cap.st = .capturing c → c.broken = true → c.page = none → t.cap.st = .idle ∧ orders t)
        ∧ (∀ c pg, s.cap.st = .capturing c → c.broken = true → c.page = some pg → pg.phase = .rest →
            t.cap.st = .capturing { c with page := some { pg with phase := .header 0, reason := c.faultEnd.getD .busFault } }
              ∧ t.ex.taken = s.ex.taken ∧ t.ex.resuming = true))
    ∧ (∀ c pg, s.ex.grant = some .traceWriter → s.rw.page = none → s.cap.st = .capturing c → c.page = some pg →
        pg.phase = .closeEntry → pg.reason ≠ .none →
      let flags : BitVec 6 := (if pg.frames = 508 then 0x02 else 0)
        ||| (match pg.reason with | .restart => 0x08 | .powerFail => 0x10 | _ => 0) ||| (if c.broken then 0x04 ||| c.noted else 0)
      ∃ t, exec (.accessComplete []) s = .next t ∧ t.cap.st = .idle ∧ t.ex.closures = s.ex.closures + 1 ∧ orders t
        ∧ t.mem = Memory.writeWords s.mem (s.regs.xbase.toNat + 16 * pg.page.val)
            (DirEntry.words { state := 4, role := 2, flags := flags, used := 8 + 2 * pg.frames,
                              closure := BitVec.ofNat 32 (s.ex.closures + 1), first := 0, count := BitVec.ofNat 32 pg.frames }))
    ∧ (∀ x, s.ex.grant = some .orderReader → s.rw.page = none → s.capturing = false → s.ex.taken = some x → x.phase = .answer →
        s.run.works = true →
      ∃ t, exec (.accessComplete []) s = .next t ∧ t.ex.taken = none ∧ t.regs.orderAnswered = true
        ∧ t.ex.table.get x.page = .notMine ∧ t.ex.resuming = false
        ∧ t.mem = Memory.writeWords s.mem (s.regs.xbase.toNat + 16 * x.page.val)
            (DirEntry.words { x.entry with state := 6, count := BitVec.ofNat 32 x.outcomes, flags := x.flags })
        ∧ (t.ex.sweepAt.isSome = true ∨ t.ex.sweepTimer.isSome = true)
        ∧ (s.ex.work = none → t.SweepBegun) ∧ (s.ex.work ≠ none → t.ex.sweepAt = some 0 ∧ t.ex.sweepTimer = none)))

/-! ### Orders -/

/-- Orders that take effect at once whatever they find: NOP (R165), FREEZE DRIFT and RESUME DRIFT (R119), SELECT
BUILT-IN CLASS TABLE (R105), and REPORT STATUS and REPORT CALIBRATION, which create a record of 16 and of 84 words
(R123, R180). The status record's words: run state, clock, the eleven counters, the states of the channels and the
probes, lock, freeze and link fault, and the generations. The snapshot's words: lock, freeze, lane enables and maximum
step, clock, generation and window, the limits, each cell's factor, limit mark, tally and sum, and the channel factors
(10, 10.4). -/
def Obligations.PlainOrdersDone : Prop :=
  ∀ (len : Nat) (ps : List Word) (t : OrderPage) (s : State),
    (OrderHeld .nop len ps t s → exec .nop s = .next (settleDown (s.answered t len (.done, 0))))
    ∧ (OrderHeld .freezeDrift len ps t s →
      exec .freezeDrift s = .next (settleDown ({ s with cal.frozen := true }.answered t len (.done, 0))))
    ∧ (OrderHeld .resumeDrift len ps t s →
      exec .resumeDrift s = .next (settleDown ({ s with cal.frozen := false }.answered t len (.done, 0))))
    ∧ (OrderHeld .selectBuiltInClassTable len ps t s →
      exec .selectBuiltInClassTable s
        = .next (settleDown ({ s with cls.active := builtInClasses, cls.gen := 0 }.answered t len (.done, 0))))
    ∧ (OrderHeld .reportStatus len ps t s → s.rw.queue.length < 31 →
      ∃ r : Rec, r.kind = .other ∧ r.serial = s.rw.created + 1 ∧ r.words.length = 16
        ∧ (∀ (k n : Nat), (k, n) ∈ [(1, s.veh.vehicles), (2, s.veh.axles), (3, s.det.aborted), (4, s.det.lost),
            (5, s.rw.lostVehicle), (6, s.rw.lostOther), (7, s.ex.stray), (8, s.link.gaps), (9, s.trig.dropped),
            (10, s.trig.discarded), (11, s.cal.rejected), (15, s.clock)] → r.words.getD k 0 = BitVec.ofNat 32 n)
        ∧ (let stamp := 4194304 * ((s.rw.created + 1) % 1024)
           let run : Nat := match s.run with
             | .disabled => 0 | .ready => 1 | .running => 2 | .quiet => 3 | .waking => 4 | .draining => 5 | .powerFail => 6
           let chan (c : Chan) : Nat := match s.det.chans.get c with
             | .off => 0 | .learning .. => 1 | .idle .. => 2 | .candidate .. => 3 | .hit .. => 4 | .tail .. => 5 | .long .. => 6
             | .faulted .. => 7
           let probe (p : Probe) : Nat := match s.temp.probes.get p with
             | .absent => 0 | .starting .. => 1 | .good .. => 2 | .failed .. => 3
           r.words.getD 0 0 = BitVec.ofNat 32 (6 + 8 * run + 64 * (s.clock / 4294967296 % 65536) + stamp)
           ∧ r.words.getD 12 0 = BitVec.ofNat 32 (((indices 16).map fun c => if c.val < 10 then chan c * 8 ^ c.val else 0).sum
               + 1073741824 * flagOf s.cal.lock + 2147483648 * flagOf s.cal.frozen)
           ∧ r.words.getD 13 0 = BitVec.ofNat 32 (((indices 16).map fun c => if c.val < 10 then 0 else chan c * 8 ^ (c.val - 10)).sum
               + 262144 * ((indices 6).map fun p => probe p * 4 ^ p.val).sum + 1073741824 * flagOf s.link.fault)
           ∧ r.words.getD 14 0 = BitVec.ofNat 32 (s.cal.gen + 65536 * s.cls.gen))
        ∧ exec .reportStatus s = .next (settleDown ((s.recorded r).answered t len (.done, 0))))
    ∧ (OrderHeld .reportCalibration len ps t s → s.rw.queue.length < 31 →
      ∃ r : Rec, r.kind = .other ∧ r.serial = s.rw.created + 1 ∧ r.words.length = 84
        ∧ (∀ (l : Lane) (b : Fin 8), let c := (s.cal.cells.get l).get b
            r.words.getD (4 + 16 * l.val + 2 * b.val) 0
                = BitVec.ofNat 32 (c.kd + (if c.limit then 32768 else 0) + 65536 * c.count)
            ∧ r.words.getD (5 + 16 * l.val + 2 * b.val) 0 = BitVec.ofNat 32 c.sum)
        ∧ (∀ c : Chan, r.words.getD (68 + c.val) 0 = BitVec.ofNat 32 (s.cal.factors.get c))
        ∧ r.words.getD 0 0 = BitVec.ofNat 32 (4 + 8 * flagOf s.cal.lock + 16 * flagOf s.cal.frozen
            + 32 * ((indices 4).map fun l => flagOf (s.cal.enables.get l) * 2 ^ l.val).sum + 512 * s.cal.maxStep
            + 4194304 * ((s.rw.created + 1) % 1024))
        ∧ r.words.getD 1 0 = BitVec.ofNat 32 s.clock
        ∧ r.words.getD 2 0 = BitVec.ofNat 32 (s.cal.gen + 65536 * s.cal.window)
        ∧ r.words.getD 3 0 = BitVec.ofNat 32 ((s.cal.lower - 8192) + 65536 * (s.cal.upper - 16384))
        ∧ exec .reportCalibration s = .next (settleDown ((s.recorded r).answered t len (.done, 0))))

/-- Orders that store parameters, each value brought into its range: SET EXCHANGE (R165) and SET QUIET (R176) in every
working run state, where quiet turned off in QUIET wakes the part; SET DETECTION (R32), SET WEIGHING (R63), SET
ASSEMBLY (R108) and SET CHANNEL MASK (R4) in READY. The answer is CLAMPED with the position of the first value out of
its range, or DONE. SET SITE GEOMETRY in READY, unlocked, with a lane count of 1 to 4 (R3, R9, R111): the count and all twelve distances
are stored, each brought into its range; the static calibration generation rises by one, 65,535 followed by 1; a lane
raised over takes up its loop level and one no longer tracked is VACANT. A lane count of 0 or above 4 is INVALID. -/
def Obligations.ParameterOrdersStore : Prop :=
  (∀ (a b c d e f : Word) (t : OrderPage) (s : State),
    (OrderHeld .setExchange 4 [a, b] t s →
      exec .setExchange s = .next (settleDown
        ({ s with ex.sweepMs := bring 50 5000 a.toNat, ex.flushMs := bring 100 60000 b.toNat }.answered t 4
          (rangeAnswer [(2, within 50 5000 a.toNat), (3, within 100 60000 b.toNat)]))))
    ∧ (OrderHeld .setQuiet 5 [a, b, c] t s →
      let ans := rangeAnswer [(3, within 1 3600 b.toNat), (4, within 16 1024 c.toNat)]
      let stored (on : Bool) : State :=
        { s with ctrl.quietEnable := on, ctrl.idleDelay := bring 1 3600 b.toNat, ctrl.settleCount := bring 16 1024 c.toNat }
      (a.toNat = 1 → exec .setQuiet s = .next (settleDown ((stored true).answered t 5 ans)))
      ∧ (a.toNat = 0 → s.run ≠ .quiet → exec .setQuiet s = .next (settleDown ((stored false).answered t 5 ans)))
      ∧ (a.toNat = 0 → s.run = .quiet → exec .setQuiet s = .next (settleDown
          ({ stored false with run := .waking, ctrl.settle := some (0, bring 16 1024 c.toNat) }.answered t 5 ans)))
      ∧ (2 ≤ a.toNat → exec .setQuiet s = .next (settleDown (s.answered t 5 (.invalid, 2)))))
    ∧ (OrderHeld .setDetection 7 [a, b, c, d, e] t s → s.run = .ready →
      let on := bring 50 20000 a.toNat
      exec .setDetection s = .next (settleDown
        ({ s with
           det.par := { onThr := on, offThr := bring 25 on b.toNat, onCount := bring 1 16 c.toNat, offCount := bring 1 64 d.toNat,
                        maxLen := bring 1024 65535 e.toNat } }.answered t 7
          (rangeAnswer [(2, within 50 20000 a.toNat), (3, within 25 on b.toNat), (4, within 1 16 c.toNat), (5, within 1 64 d.toNat),
            (6, within 1024 65535 e.toNat)]))))
    ∧ (OrderHeld .setWeighing 8 [a, b, c, d, e, f] t s → s.run = .ready →
      let vmin := bring 1000 10000 a.toNat
      let vmax := bring 20000 55556 b.toNat
      let low := bring vmin vmax c.toNat
      exec .setWeighing s = .next (settleDown
        ({ s with
           axle.par := { vmin := vmin, vmax := vmax, bandLow := low, bandHigh := bring low vmax d.toNat,
                         tolerance := bring 5 50 e.toNat, window := bring 8 512 f.toNat } }.answered t 8
          (rangeAnswer [(2, within 1000 10000 a.toNat), (3, within 20000 55556 b.toNat), (4, within vmin vmax c.toNat),
            (5, within low vmax d.toNat), (6, within 5 50 e.toNat), (7, within 8 512 f.toNat)]))))
    ∧ (OrderHeld .setAssembly 3 [a] t s → s.run = .ready →
      exec .setAssembly s = .next (settleDown
        ({ s with veh.splitDist := bring 6000 30000 a.toNat }.answered t 3 (rangeAnswer [(2, within 6000 30000 a.toNat)]))))
    ∧ (OrderHeld .setChannelMask 3 [a] t s → s.run = .ready →
      ∃ mask : Tab 16 Bool, (∀ n, mask.get n = a.getLsbD n.val)
        ∧ exec .setChannelMask s = .next (settleDown ({ s with site.mask := mask }.answered t 3 (.done, 0)))))
  ∧ (∀ (ps : List Word) (t : OrderPage) (s : State), OrderHeld .setSiteGeometry 15 ps t s → ps.length = 13 → s.run = .ready →
    s.cal.lock = false →
    let n := (ps.getD 0 0).toNat
    let at_ (l i : Nat) : Nat := (ps.getD (1 + 3 * l + i) 0).toNat
    (1 ≤ n → n ≤ 4 → ∃ (geom : Tab 4 LaneGeom) (loops : Tab 4 LoopState),
      (∀ l, geom.get l = { d := bring 2000 5000 (at_ l 0), dOA := bring 1000 10000 (at_ l 1), lp := bring 1000 3000 (at_ l 2) })
      ∧ (∀ l, loops.get l = if n ≤ l.val then .vacant
          else if s.site.laneCount ≤ l.val then (if s.pins.lp.get l then .occupied s.clock 0 else .vacant) else s.loops.get l)
      ∧ exec .setSiteGeometry s = .next (settleDown
        ({ s with
           site.laneCount := n
           site.geom := geom
           loops := loops
           cal.gen := if s.cal.gen < 65535 then s.cal.gen + 1 else 1 }.answered t 15
          (rangeAnswer ((List.range 4).flatMap fun l =>
            [(3 + 3 * l, within 2000 5000 (at_ l 0)), (4 + 3 * l, within 1000 10000 (at_ l 1)),
             (5 + 3 * l, within 1000 3000 (at_ l 2))])))))
    ∧ (n = 0 ∨ 4 < n → exec .setSiteGeometry s = .next (settleDown (s.answered t 15 (.invalid, 2)))))

/-- SET CLOCK (R179). The clock is loaded from the low and high word. In a measuring state every context is first
closed, every open hit lost, HIT and TAIL counted aborted, the held hits dropped and counted lost, and every waiting
row-A axle leaves its list (R29, R48, R96): clockBreak, which in other states does nothing, and with no set enabled
leaves sets and schedules alone. Then the due ticks of running timers and the start and end ticks of every scheduled
pulse move by the change of the clock (R144), in measuring states as in others, and the summary's boundary is cut anew
and marked SHORT (R82). A high word above 65,535 is INVALID with detail 3. That ticks are moved modulo 2⁴⁸ is the
model's choice (log 5). -/
def Obligations.SetClockLoads : Prop :=
  ∀ (lo hi : Word) (t : OrderPage) (s : State), OrderHeld .setClock 4 [lo, hi] t s →
    let v := lo.toNat + 4294967296 * hi.toNat
    (65535 < hi.toNat → exec .setClock s = .next (settleDown (s.answered t 4 (.invalid, 3))))
    ∧ (hi.toNat ≤ 65535 → ∃ u, exec .setClock s = .next u ∧ u.clock = v
        ∧ u.settings = { s.settings with clock := v } ∧ u.ex.taken = some { t with phase := .outcome 4 .done 0 false }
        ∧ u.temp.summary.short = true ∧ u.temp.summary.next = (v / 8192 / s.temp.interval + 1) * s.temp.interval
        ∧ (s.run.measures = false →
            (∀ n, (u.trig.sets.get n).timer = match (s.trig.sets.get n).timer with
              | .running due => .running (((due : Int) + ((v : Int) - s.clock)) % 281474976710656).toNat
              | x => x)
            ∧ u.rw.queue = s.rw.queue ∧ u.veh = s.veh ∧ u.cal = s.cal ∧ u.det = s.det)
        ∧ (let w := clockBreak s
           (∀ n, (u.trig.sets.get n).timer = match (w.trig.sets.get n).timer with
              | .running due => .running (((due : Int) + ((v : Int) - s.clock)) % 281474976710656).toNat
              | x => x)
           ∧ (∀ l, u.trig.lines.get l = match w.trig.lines.get l with
              | .input x => .input x
              | .output ps => .output (ps.map fun p =>
                  { p with
                    start := (((p.start : Int) + ((v : Int) - s.clock)) % 281474976710656).toNat
                    stop := (((p.stop : Int) + ((v : Int) - s.clock)) % 281474976710656).toNat }))
           ∧ (s.run.measures = false → w = s)
           ∧ ((∀ n, (s.trig.sets.get n).enabled = false) → w.trig.sets = s.trig.sets ∧ w.trig.lines = s.trig.lines))
        ∧ (s.run.measures = true →
            u.det.lost = raised s.det.lost (s.det.hits.a.length + s.det.hits.b.length)
            ∧ u.det.aborted = raised s.det.aborted (s.det.chans.items.countP fun c => match c with
                | .hit .. => true
                | .tail .. => true
                | _ => false)
            ∧ (s.run ≠ .draining → ∀ c, u.det.chans.get c = match s.det.chans.get c with
                | .candidate b _ _ => .idle b
                | .hit b _ => .idle b
                | .tail b _ _ _ _ => .idle b
                | st => st))
        ∧ (s.run.measures = true → u.noContext = true ∧ u.det.hits.a = [] ∧ u.det.hits.b = [] ∧ u.axle.rowA = []
            ∧ ∀ c, (u.det.chans.get c).active = true → ∃ b n, u.det.chans.get c = .long b n))

/-- START, STOP and HALT (R168-R171). START in READY: NOT_CONFIGURED with no lane, else RUNNING, each enabled channel
learning and each other OFF. STOP in READY does nothing; in RUNNING and WAKING with a context it begins a drain and
holds its page; with none it leaves the part in READY, answered DONE, the capture unit left alone (R38), and from
QUIET too, by the steps of HALT. HALT from RUNNING, QUIET and WAKING leaves it in READY with no context and nothing
measured, an ARMED capture unit IDLE and a CAPTURING one closing its page with end reason HALTED (R38, R171); in READY
it disarms the capture unit, and leaves a capture in progress alone by the letter of R171 (the model's choice beside
R38, log 35). An end taken once a broken capture's BUS_FAULT is cleared is noted (the model's choice, log 29). -/
def Obligations.StartStopHalt : Prop :=
  ∀ (len : Nat) (ps : List Word) (t : OrderPage) (s : State),
    let quieted (u : State) : Prop :=
      u.run = .ready ∧ u.settings = s.settings ∧ u.noContext = true ∧ (∀ c, u.det.chans.get c = .off) ∧ u.det.hits.a = []
        ∧ u.det.hits.b = [] ∧ u.axle.rowA = [] ∧ u.ctrl.drain = none ∧ u.ctrl.settle = none
        ∧ u.ex.taken = some { t with phase := .outcome len .done 0 false }
    (OrderHeld .start len ps t s → s.run = .ready →
      (s.site.laneCount = 0 → exec .start s = .next (settleDown (s.answered t len (.notConfigured, 0))))
      ∧ (0 < s.site.laneCount → ∃ chans : Tab 16 ChanState,
          (∀ c, chans.get c = if c.val / 4 < s.site.laneCount ∧ s.site.mask.get c = true then .learning 0 0 else .off)
          ∧ exec .start s = .next (settleDown ({ s with run := .running, det.chans := chans }.answered t len (.done, 0)))))
    ∧ (OrderHeld .stop len ps t s →
      (s.run = .ready → exec .stop s = .next (settleDown (s.answered t len (.done, 0))))
      ∧ (s.run = .running ∨ s.run = .waking → s.noContext = false → exec .stop s = .next (settleDown
          ({ s with run := .draining, ctrl.drain := some 0, ctrl.quietTimer := none, ctrl.settle := none }.reading t (.holding len))))
      ∧ (s.run = .running ∨ s.run = .waking → s.noContext = true →
          ∃ u, exec .stop s = .next u ∧ quieted u ∧ u.cap = (advanceTrace s).cap)
      ∧ (s.run = .quiet → ∃ u, exec .stop s = .next u ∧ quieted u ∧ s.CaptureStopped u .halted 0))
    ∧ (OrderHeld .halt len ps t s →
      (s.run = .ready → s.cap.st = .idle ∨ s.capturing = true → exec .halt s = .next (settleDown (s.answered t len (.done, 0))))
      ∧ (∀ req, s.run = .ready → s.cap.st = .armed req →
          exec .halt s = .next (settleDown ({ s with cap.st := .idle }.answered t len (.done, 0))))
      ∧ (s.run = .running ∨ s.run = .quiet ∨ s.run = .waking →
          ∃ u, exec .halt s = .next u ∧ quieted u ∧ s.CaptureStopped u .halted 0))

/-- CAPTURE outside DRAINING (R34): a lane outside 1 to the lane count is INVALID with detail 2; a unit not IDLE is
BUSY; otherwise the unit is ARMED with the counts brought into their ranges. CANCEL CAPTURE (R37) in IDLE changes
nothing, in ARMED disarms, and stops a capture with no end taken, or only CLOSE, with end reason CANCELLED: at rest or
copying, the frame half written given up, the page then goes to its header (CaptureCopiesFrames); a page's header or
CLOSED entry being written is begun again from the header with the reason; an entry FILLING being written completes
first. Another end taken before stands. In a broken capture, or one left without a page, the reason is noted (the
model's choice, log 29). During a bus fault no order is executed, so the command changes nothing (R163). -/
def Obligations.CaptureOrders : Prop :=
  (∀ (l p m : Word) (t : OrderPage) (s : State), OrderHeld .capture 5 [l, p, m] t s → s.run ≠ .draining →
    (l.toNat = 0 ∨ s.site.laneCount < l.toNat → exec .capture s = .next (settleDown (s.answered t 5 (.invalid, 2))))
    ∧ (1 ≤ l.toNat → l.toNat ≤ s.site.laneCount → s.cap.st ≠ .idle →
      exec .capture s = .next (settleDown (s.answered t 5 (.busy, 0))))
    ∧ (∀ lane : Lane, lane.val + 1 = l.toNat → l.toNat ≤ s.site.laneCount → s.cap.st = .idle →
      exec .capture s = .next (settleDown
        ({ s with cap.st := .armed { lane := lane, pre := min 1024 p.toNat, maxFrames := bring 512 65535 m.toNat } }.answered t 5
          (rangeAnswer [(3, within 0 1024 p.toNat), (4, within 512 65535 m.toNat)])))))
  ∧ (∀ (len : Nat) (ps : List Word) (t : OrderPage) (s : State), OrderHeld .cancelCapture len ps t s →
    (s.cap.st = .idle → exec .cancelCapture s = .next (settleDown (s.answered t len (.done, 0))))
    ∧ (∀ req, s.cap.st = .armed req → exec .cancelCapture s = .next (settleDown ({ s with cap.st := .idle }.answered t len (.done, 0))))
    ∧ (∀ (c : CaptureRun) (pg : TracePage), s.cap.st = .capturing c → c.broken = false → c.page = some pg →
      ((∀ n q, c.stop = some (n, q) → q = .close) →
        exec .cancelCapture s = .next (settleDown
          ({ s with
             cap.st := .capturing
               { c with
                 stop := some (c.pos, .cancelled)
                 page := some (match pg.phase with
                   | .takeEntry => pg
                   | .rest => pg
                   | .frame _ _ => { pg with phase := .rest }
                   | .header _ => { pg with phase := .header 0, reason := .cancelled }
                   | .closeEntry => { pg with phase := .header 0, reason := .cancelled }) } }.answered t len (.done, 0))))
      ∧ (∀ n q, c.stop = some (n, q) → q ≠ .close → exec .cancelCapture s = .next (settleDown (s.answered t len (.done, 0)))))
    ∧ (∀ (c : CaptureRun), s.cap.st = .capturing c → c.broken = true ∨ c.page = none →
      exec .cancelCapture s = .next (settleDown
        ({ s with cap.st := .capturing { c with faultEnd := some (c.faultEnd.getD .cancelled) } }.answered t len (.done, 0))))
    ∧ (∃ u, exec .cancelCapture s = .next u ∧ s.CaptureStopped u .cancelled 0))
  ∧ (∀ s : State, s.regs.busFault = true → exec .cancelCapture s = .next s)

/-- SET PROBES (R83), its assignments each a probe configured by the order or NONE, a secondary beside another
primary: a probe newly configured starts, one no longer configured is ABSENT, any other keeps its state; the
assignments are replaced; a round in progress polls no longer those unconfigured, and one's outstanding exchange is to
be discarded (R65); the row temperatures stay. SET TEMPERATURE (R79) with the boundaries held stores the hold and step
limits; an interval other than the one held is stored too and re-cuts the running summary, marked SHORT (R82); with
other boundaries, rising within -400 to 850, and the lock clear, it also clears every tally, keeps every factor,
raises the static calibration generation and creates a record of kind bands changed with the new boundaries (R122).
That the fields of that record which its kind does not use are 0 is the model's choice (log 50). -/
def Obligations.TemperatureOrders : Prop :=
  (∀ (mask wa va wb vb : Word) (a a2 b b2 : Option Probe) (t : OrderPage) (s : State),
    OrderHeld .setProbes 7 [mask, wa, va, wb, vb] t s →
    (∀ w x, (w, x) ∈ [(wa, a), (va, a2), (wb, b), (vb, b2)] → w.toNat = (match x with | some p => p.val | none => 15)
      ∧ ∀ p, x = some p → mask.getLsbD p.val = true) →
    (a2 = none ∨ (a ≠ none ∧ a2 ≠ a)) → (b2 = none ∨ (b ≠ none ∧ b2 ≠ b)) →
    ∃ u, exec .setProbes s = .next u ∧ u.ex.taken = some { t with phase := .outcome 7 .done 0 false }
      ∧ (∀ p, u.temp.probes.get p
          = if mask.getLsbD p.val then (if s.temp.probes.get p = .absent then .starting [] 0 else s.temp.probes.get p) else .absent)
      ∧ u.temp.assign = { a := { primary := a, secondary := a2 }, b := { primary := b, secondary := b2 } }
      ∧ u.temp.round = s.temp.round.map (fun list => list.filter fun p => mask.getLsbD p.val)
      ∧ u.temp.line = s.temp.line.map (fun x => { x with discard := x.discard || !mask.getLsbD x.probe.val })
      ∧ u.temp.rows = s.temp.rows ∧ u.cal = s.cal
      ∧ u.settings = { s.settings with assign := { a := { primary := a, secondary := a2 }, b := { primary := b, secondary := b2 } } })
  ∧ (∀ (hold step interval : Word) (bs : List Word) (t : OrderPage) (s : State),
    OrderHeld .setTemperature 12 (hold :: step :: interval :: bs) t s → bs.length = 7 →
    let h := bring 60 86400 hold.toNat
    let k := bring 2 100 step.toNat
    let i := bring 60 3600 interval.toNat
    let ans := rangeAnswer [(2, within 60 86400 hold.toNat), (3, within 2 100 step.toNat), (4, within 60 3600 interval.toNat)]
    let to_ := bs.map (·.toInt)
    (to_.Pairwise (· < ·)) → (∀ x ∈ to_, -400 ≤ x ∧ x ≤ 850) →
    (to_ = s.temp.bounds → i = s.temp.interval →
      exec .setTemperature s = .next (settleDown ({ s with temp.holdLimit := h, temp.stepLimit := k }.answered t 12 ans)))
    ∧ (to_ = s.temp.bounds → i ≠ s.temp.interval → exec .setTemperature s = .next (settleDown
        ({ s with
           temp.holdLimit := h
           temp.stepLimit := k
           temp.interval := i
           temp.summary.next := (s.clock / 8192 / i + 1) * i
           temp.summary.short := true }.answered t 12 ans)))
    ∧ (to_ ≠ s.temp.bounds → s.cal.lock = false → ∃ u, exec .setTemperature s = .next u
        ∧ u.ex.taken = some { t with phase := .outcome 12 ans.1 ans.2 false } ∧ u.temp.bounds = to_ ∧ u.temp.holdLimit = h
        ∧ u.temp.stepLimit = k ∧ u.temp.interval = i ∧ u.cal.gen = (if s.cal.gen < 65535 then s.cal.gen + 1 else 1)
        ∧ (∀ l b, ((u.cal.cells.get l).get b).kd = ((s.cal.cells.get l).get b).kd ∧ ((u.cal.cells.get l).get b).count = 0)
        ∧ u.rw.created = s.rw.created + 1
        ∧ (s.rw.queue.length < 64 →
          let w (j : Nat) : Nat := half (to_.getD j 0) + 65536 * half (to_.getD (j + 1) 0)
          u.rw.queue = s.rw.queue
            ++ [({ s with cal.gen := u.cal.gen } : State).calRecord 5 0 0 0 0 (w 0) (w 2) (w 4) (half (to_.getD 6 0))])))

/-- The curve orders with the lock clear (R76, R77). LOAD TEMPERATURE CURVE with a good count goes on to read its
points into an empty shadow; a bad count or length is INVALID with detail 2. When the points have been read, rising in
temperature and each factor in 8,192-32,767, they become the active curve, the generation rises and a record is
created; SELECT BUILT-IN CURVE does the same with the built-in curve. The record is one of kind curve changed, with
the point count and whether the curve was loaded (R122; 10, 10.4). The model's choices: all the data is read before it
is checked (log 25), and the fields of the record which its kind does not use are 0 (log 50). -/
def Obligations.CurveOrders : Prop :=
  (∀ (len : Nat) (n : Word) (t : OrderPage) (s : State), OrderHeld .loadTemperatureCurve len [n] t s → s.cal.lock = false →
    (2 ≤ n.toNat → n.toNat ≤ 16 → len = 3 + n.toNat →
      exec .loadTemperatureCurve s
        = .next (settleDown ({ s with temp.shadow := some [] }.reading t (.loading .loadTemperatureCurve len [n]))))
    ∧ (n.toNat < 2 ∨ 16 < n.toNat ∨ len ≠ 3 + n.toNat →
      exec .loadTemperatureCurve s = .next (settleDown (s.answered t len (.invalid, 2)))))
  ∧ (∀ (len : Nat) (ps ws : List Word) (t : OrderPage) (s : State), LoadHeld .loadTemperatureCurve len ps t s →
    s.temp.shadow = some ws →
    let points : List (Int × Nat) := ws.map fun w => ((w.setWidth 16).toInt, w.toNat / 65536)
    (points.Pairwise (·.1 < ·.1)) → (∀ p ∈ points, 8192 ≤ p.2 ∧ p.2 ≤ 32767) →
    ∃ u, exec .loadTemperatureCurveDone s = .next u ∧ u.temp.curve = { points := points, loaded := true } ∧ u.temp.shadow = none
      ∧ u.cal.gen = (if s.cal.gen < 65535 then s.cal.gen + 1 else 1) ∧ u.cal.cells = s.cal.cells
      ∧ u.rw.created = s.rw.created + 1 ∧ u.ex.taken = some { t with phase := .outcome len .done 0 false }
      ∧ (s.rw.queue.length < 64 → u.rw.queue = s.rw.queue
          ++ [({ s with cal.gen := u.cal.gen } : State).calRecord 4 0 0 0 0 (1 + 256 * points.length) 0 0 0]))
  ∧ (∀ (len : Nat) (ps : List Word) (t : OrderPage) (s : State), OrderHeld .selectBuiltInCurve len ps t s → s.cal.lock = false →
    ∃ u, exec .selectBuiltInCurve s = .next u
      ∧ u.temp.curve = { points := [(-300, 17039), (0, 16630), (200, 16384), (400, 16056), (700, 15647)], loaded := false }
      ∧ u.cal.gen = (if s.cal.gen < 65535 then s.cal.gen + 1 else 1) ∧ u.cal.cells = s.cal.cells
      ∧ u.rw.created = s.rw.created + 1 ∧ u.ex.taken = some { t with phase := .outcome len .done 0 false }
      ∧ (s.rw.queue.length < 64 → u.rw.queue = s.rw.queue
          ++ [({ s with cal.gen := u.cal.gen } : State).calRecord 4 0 0 0 0 (256 * 5) 0 0 0]))

/-- LOAD CLASS TABLE (R104). A count of 1-32 in an order longer than 3 words goes on to read its entries; otherwise it is
INVALID with detail 2. Entries laid out as 10.6 gives, each good, are read back exactly: they become the active table
with the next loaded generation, 65,535 being followed by 1. All the data is read
before it is checked (the model's choice, log 25). -/
def Obligations.ClassTableLoads : Prop :=
  (∀ (len : Nat) (n : Word) (t : OrderPage) (s : State), OrderHeld .loadClassTable len [n] t s →
    (1 ≤ n.toNat → n.toNat ≤ 32 → 3 < len →
      exec .loadClassTable s = .next (settleDown ({ s with cls.shadow := some [] }.reading t (.loading .loadClassTable len [n]))))
    ∧ (n.toNat = 0 ∨ 32 < n.toNat ∨ len ≤ 3 → exec .loadClassTable s = .next (settleDown (s.answered t len (.invalid, 2)))))
  ∧ (∀ (es : List ClassEntry) (len : Nat) (n : Word) (ps : List Word) (t : OrderPage) (s : State),
    LoadHeld .loadClassTable len (n :: ps) t s → n.toNat = es.length → (∀ e ∈ es, e.fitsLayout) →
    s.cls.shadow = some (es.flatMap ClassEntry.words) →
    let g := if s.cls.lastGen < 65535 then s.cls.lastGen + 1 else 1
    exec .loadClassTableDone s = .next (settleDown
      ({ s with cls := { active := es, gen := g, lastGen := g, shadow := none } }.answered t len (.done, 0))))

/-- Drift and calibration orders. SET CHANNEL FACTORS (R110) in READY, unlocked: each factor is stored, a 0 as 1, the
generation rises and a record is created. SET DRIFT (R113, R114), unlocked or with the limits held: the fields are
stored in their ranges, every factor is brought within the limits, with one record of kind limit reached for each
factor so moved, in the order of lane and band; a new window clears the tallies. RESET DRIFT (R120) and RESTORE DRIFT
(R121), unlocked, replace the table, with a record. LOCK CALIBRATION (R124) sets the lock, with a record if it was
clear. The records' words are those of 10.4 (R122). That lane, band, limit, cause and the words which a record's kind
does not use are 0 is the model's choice (log 50). -/
def Obligations.CalibrationOrders : Prop :=
  (∀ (ps : List Word) (t : OrderPage) (s : State), OrderHeld .setChannelFactors 18 ps t s → ps.length = 16 → s.run = .ready →
    s.cal.lock = false →
    ∃ u, exec .setChannelFactors s = .next u ∧ (∀ c : Chan, u.cal.factors.get c = max 1 (ps.getD c.val 0).toNat)
      ∧ u.cal.gen = (if s.cal.gen < 65535 then s.cal.gen + 1 else 1) ∧ u.cal.cells = s.cal.cells
      ∧ u.rw.created = s.rw.created + 1
      ∧ (let ans := rangeAnswer ((List.range 16).map fun i => (2 + i, within 1 4294967295 (ps.getD i 0).toNat))
         u.ex.taken = some { t with phase := .outcome 18 ans.1 ans.2 false })
      ∧ (s.rw.queue.length < 64 → u.rw.queue = s.rw.queue
          ++ [({ s with cal.gen := u.cal.gen } : State).calRecord 3 0 0 0 0
            (if ∃ c : Chan, (ps.getD c.val 0).toNat = 0 then 1 else 0) 0 0 0]))
  ∧ (∀ (a b c d e : Word) (t : OrderPage) (s : State), OrderHeld .setDrift 7 [a, b, c, d, e] t s →
    (s.cal.lock = false ∨ (c.toNat = s.cal.lower ∧ d.toNat = s.cal.upper)) →
    let lower := bring 8192 16384 c.toNat
    let upper := bring 16384 24576 d.toNat
    ∃ u, exec .setDrift s = .next u ∧ u.cal.window = bring 8 1024 a.toNat ∧ u.cal.maxStep = bring 16 1638 b.toNat
      ∧ u.cal.lower = lower ∧ u.cal.upper = upper ∧ (∀ l, u.cal.enables.get l = e.getLsbD l.val) ∧ u.cal.gen = s.cal.gen
      ∧ (∀ l k, let x := (s.cal.cells.get l).get k
          let y := (u.cal.cells.get l).get k
          y.kd = bring lower upper x.kd ∧ y.limit = (x.limit || !within lower upper x.kd) ∧ y.updates = x.updates
            ∧ y.lastTick = x.lastTick ∧ y.count = (if bring 8 1024 a.toNat = s.cal.window then x.count else 0))
      ∧ (let ans := rangeAnswer [(2, within 8 1024 a.toNat), (3, within 16 1638 b.toNat), (4, within 8192 16384 c.toNat),
           (5, within 16384 24576 d.toNat)]
         u.ex.taken = some { t with phase := .outcome 7 ans.1 ans.2 false })
      ∧ (let narrowed := ((indices 4).flatMap fun l => (indices 8).map fun k => (l, k)).filter fun (l, k) =>
           !within lower upper ((s.cal.cells.get l).get k).kd
         u.rw.created = s.rw.created + narrowed.length
         ∧ (s.rw.queue.length + narrowed.length ≤ 64 → u.rw.queue = s.rw.queue ++ narrowed.zipIdx.map fun ((l, k), i) =>
             let x := (s.cal.cells.get l).get k
             ({ s with rw.created := s.rw.created + i } : State).calRecord 2 (if upper < x.kd then 1 else 0) 1 (l.val + 1) k.val
               (x.kd + 65536 * bring lower upper x.kd) (x.lastTick % 4294967296) 0 x.updates)))
  ∧ (∀ (len : Nat) (ps : List Word) (t : OrderPage) (s : State), OrderHeld .resetDrift len ps t s → s.cal.lock = false →
    ∃ u, exec .resetDrift s = .next u
      ∧ (∀ l b, (u.cal.cells.get l).get b
          = { kd := 16384, count := 0, sum := 0, target := none, updates := 0, lastTick := 0, limit := false })
      ∧ u.settings = s.settings ∧ u.rw.created = s.rw.created + 1
      ∧ u.ex.taken = some { t with phase := .outcome len .done 0 false }
      ∧ (s.rw.queue.length < 64 → u.rw.queue = s.rw.queue ++ [s.calRecord 6 0 0 0 0 0 0 0 0]))
  ∧ (∀ (ps : List Word) (t : OrderPage) (s : State), OrderHeld .restoreDrift 34 ps t s → ps.length = 32 → s.cal.lock = false →
    s.cal.lower ≤ s.cal.upper →
    ∃ u, exec .restoreDrift s = .next u
      ∧ (∀ (l : Lane) (b : Fin 8), (u.cal.cells.get l).get b
          = { kd := bring s.cal.lower s.cal.upper (ps.getD (8 * l.val + b.val) 0).toNat, count := 0, sum := 0, target := none,
              updates := 0, lastTick := 0, limit := false })
      ∧ u.settings = s.settings ∧ u.rw.created = s.rw.created + 1
      ∧ (let ans := rangeAnswer ((List.range 32).map fun i => (2 + i, within s.cal.lower s.cal.upper (ps.getD i 0).toNat))
         u.ex.taken = some { t with phase := .outcome 34 ans.1 ans.2 false })
      ∧ (s.rw.queue.length < 64 → u.rw.queue = s.rw.queue ++ [s.calRecord 7 0 0 0 0
          ((List.range 32).countP fun i => !within s.cal.lower s.cal.upper (ps.getD i 0).toNat) 0 0 0]))
  ∧ (∀ (len : Nat) (ps : List Word) (t : OrderPage) (s : State), OrderHeld .lockCalibration len ps t s →
    ∃ u, exec .lockCalibration s = .next u ∧ u.settings = { s.settings with lock := true } ∧ u.cal.cells = s.cal.cells
      ∧ u.rw.created = (if s.cal.lock then s.rw.created else s.rw.created + 1)
      ∧ u.ex.taken = some { t with phase := .outcome len .done 0 false }
      ∧ (s.cal.lock = false → s.rw.queue.length < 64 →
          u.rw.queue = s.rw.queue ++ [({ s with cal.lock := true } : State).calRecord 8 0 0 0 0 0 0 0 0]))

/-- SET TRIGGER reads back every definition its layout holds (R128; 10, 10.6): for any definition in its ranges, written
out as the order's parameter words, the set takes the definition and the enabled state, its timer STOPPED, its side
UNKNOWN and its degraded memory clear, no other set changes, and a row update that waits gives the set no occurrence (log 11); the
answer is DONE. That timer operation code 0 is stored and does nothing, and that the fields of an absent action are not looked
at, is the model's choice (log 13). -/
def Obligations.TriggerDefinitionRoundTrip : Prop :=
  ∀ (n : SetId) (en : Bool) (d : TriggerDef) (t : OrderPage) (s : State), d.fitsLayout n →
    OrderHeld .setTrigger 15 (d.words n en) t s →
    exec .setTrigger s = .next (settleDown
      ({ s with
         trig.waiting := s.trig.waiting.map fun (e : TrigEvent) => match e with
           | .temperature row temp occ => TrigEvent.temperature row temp (occ &&& ~~~BitVec.ofNat 8 (2 ^ n.val))
           | x => x
         trig.sets := s.trig.sets.set n { enabled := en, dfn := d, timer := .stopped, side := .unknown, degraded := false } }.answered
        t 15 (.done, 0)))

/-- SET FIELD LINES (R127): code 1 makes a line an output and code 2 an input. A line that keeps its function keeps
its schedule or sampled level; a new output has an empty schedule; a new input takes up its level, the pulses of its
schedule being counted discarded. Another code is INVALID with detail 2. The events waiting stay, an edge of a line
that becomes an output within the edge's tick among them (the model's choice, log 46). CONTROL TRIGGERS (R143) applies
the enable mask and then the disable mask; with an empty activate mask nothing else changes; else the sets of the
activate mask are activated in rising number as a CONTROL event's cascade, chains among them, each set firing at most
once (R134, R135). -/
def Obligations.LineAndControlOrders : Prop :=
  (∀ (w : Word) (t : OrderPage) (s : State), OrderHeld .setFieldLines 3 [w] t s →
    let code (l : Line) : Nat := w.toNat / 2 ^ (4 * l.val) % 4
    ((∀ l, code l = 1 ∨ code l = 2) → ∃ u, exec .setFieldLines s = .next u ∧ u.settings = s.settings
      ∧ (∀ l, u.trig.lines.get l = match s.trig.lines.get l with
          | .output ps => if code l = 1 then .output ps else .input (s.pins.field.get l)
          | .input v => if code l = 1 then .output [] else .input v)
      ∧ u.trig.discarded = min 4294967295 (s.trig.discarded
          + ((indices 4).map fun l => if code l = 2 then (s.trig.lines.get l).pulses.length else 0).sum)
      ∧ u.trig.waiting = s.trig.waiting
      ∧ (∀ l, u.trig.edgeTaken.get l = (s.trig.edgeTaken.get l && s.isInput l))
      ∧ u.trig.sets = s.trig.sets ∧ u.ex.taken = some { t with phase := .outcome 3 .done 0 false })
    ∧ ((∃ l, code l ≠ 1 ∧ code l ≠ 2) → exec .setFieldLines s = .next (settleDown (s.answered t 3 (.invalid, 2)))))
  ∧ (∀ (w : Word) (t : OrderPage) (s : State), OrderHeld .controlTriggers 3 [w] t s → w.toNat / 65536 % 256 = 0 →
    ∃ u, exec .controlTriggers s = .next u ∧ u.settings = s.settings
      ∧ (∀ n, u.trig.sets.get n =
          { s.trig.sets.get n with
            enabled := if w.getLsbD (8 + n.val) then false else w.getLsbD n.val || (s.trig.sets.get n).enabled })
      ∧ u.trig.lines = s.trig.lines ∧ u.rw.created = s.rw.created ∧ u.ex.taken = some { t with phase := .outcome 3 .done 0 false })
  ∧ (∀ (w : Word) (t : OrderPage) (s : State), OrderHeld .controlTriggers 3 [w] t s →
    ∃ (sets : Tab 8 TriggerSet) (b : State × BitVec 8),
      (∀ n, sets.get n =
        { s.trig.sets.get n with
          enabled := if w.getLsbD (8 + n.val) then false else w.getLsbD n.val || (s.trig.sets.get n).enabled })
      ∧ Activates .control (BitVec.ofNat 8 (w.toNat / 65536 % 256)) (indices 8) ({ s with trig.sets := sets }, 0) b
      ∧ exec .controlTriggers s = .next (settleDown (b.1.answered t 3 (.done, 0))))

/-- Orders refused with nothing changed. In a run state other than READY: START, SET SITE GEOMETRY, SET CHANNEL MASK,
SET DETECTION, SET WEIGHING, SET ASSEMBLY and SET CHANNEL FACTORS are WRONG_STATE, as is CAPTURE in DRAINING. With the
lock set: SET SITE GEOMETRY and SET CHANNEL FACTORS in READY, LOAD TEMPERATURE CURVE, SELECT BUILT-IN CURVE, RESET
DRIFT and RESTORE DRIFT are LOCKED, as are SET DRIFT with another limit and SET TEMPERATURE with other boundaries
(R79). A wrong length is INVALID with detail 0 where the checks of run state and lock, which come before it, let it
be. SET PROBES is INVALID at its first bad assignment (R83), SET TEMPERATURE at its first boundary out of range or not
above the one before (R79). A LOAD whose data has been read is INVALID, its shadow dropped: a curve at the number of
its first bad point (R76), a class table with detail 2 where the walk of its entries does not end with the data, else
at the number of its first bad entry (R104); that all the data is read first is the model's choice (log 25). SET
TRIGGER is INVALID at its first bad field, else stores the fields clamped into their ranges and is CLAMPED at the
first of them, or DONE (R128); unassigned codes and the fields of absent actions are not looked at (log 13). -/
def Obligations.OrdersRefused : Prop :=
  (∀ (k : OrderKind) (c : Instr), (k, c) ∈ [(.start, .start), (.setSiteGeometry, .setSiteGeometry),
      (.setChannelMask, .setChannelMask), (.setDetection, .setDetection), (.setWeighing, .setWeighing),
      (.setAssembly, .setAssembly), (.setChannelFactors, Instr.setChannelFactors)] →
    ∀ len ps t s, OrderHeld k len ps t s → s.run ≠ .ready → exec c s = .next (settleDown (s.answered t len (.wrongState, 0))))
  ∧ (∀ len ps t s, OrderHeld .capture len ps t s → s.run = .draining →
    exec .capture s = .next (settleDown (s.answered t len (.wrongState, 0))))
  ∧ (∀ (k : OrderKind) (c : Instr), (k, c) ∈ [(.setSiteGeometry, .setSiteGeometry), (.setChannelFactors, Instr.setChannelFactors)] →
    ∀ len ps t s, OrderHeld k len ps t s → s.run = .ready → s.cal.lock = true →
      exec c s = .next (settleDown (s.answered t len (.locked, 0))))
  ∧ (∀ (k : OrderKind) (c : Instr), (k, c) ∈ [(.loadTemperatureCurve, .loadTemperatureCurve),
      (.selectBuiltInCurve, .selectBuiltInCurve), (.resetDrift, .resetDrift), (.restoreDrift, Instr.restoreDrift)] →
    ∀ len ps t s, OrderHeld k len ps t s → s.cal.lock = true → exec c s = .next (settleDown (s.answered t len (.locked, 0))))
  ∧ (∀ (a b c d e : Word) (t : OrderPage) (s : State), OrderHeld .setDrift 7 [a, b, c, d, e] t s → s.cal.lock = true →
    (c.toNat ≠ s.cal.lower ∨ d.toNat ≠ s.cal.upper) → exec .setDrift s = .next (settleDown (s.answered t 7 (.locked, 0))))
  ∧ (∀ (k : OrderKind) (n : Nat) (c : Instr), (k, n, c) ∈ [(.setExchange, 4, .setExchange), (.setClock, 4, .setClock),
      (.setQuiet, 5, .setQuiet), (.setSiteGeometry, 15, .setSiteGeometry), (.setChannelMask, 3, .setChannelMask),
      (.setDetection, 7, .setDetection), (.capture, 5, .capture), (.setWeighing, 8, .setWeighing), (.setProbes, 7, .setProbes),
      (.setTemperature, 12, .setTemperature), (.setAssembly, 3, .setAssembly), (.setChannelFactors, 18, .setChannelFactors),
      (.setDrift, 7, .setDrift), (.restoreDrift, 34, .restoreDrift), (.setTrigger, 15, .setTrigger),
      (.setFieldLines, 3, .setFieldLines), (.controlTriggers, 3, Instr.controlTriggers)] →
    ∀ len ps t s, OrderHeld k len ps t s → len ≠ n → s.run = .ready → s.cal.lock = false →
      exec c s = .next (settleDown (s.answered t len (.invalid, 0))))
  ∧ (∀ (k : OrderKind) (n : Nat) (c : Instr), (k, n, c) ∈ [(.setExchange, 4, .setExchange), (.setClock, 4, .setClock),
      (.setQuiet, 5, .setQuiet), (.setProbes, 7, .setProbes), (.setTemperature, 12, .setTemperature), (.setDrift, 7, .setDrift),
      (.setTrigger, 15, .setTrigger), (.setFieldLines, 3, .setFieldLines), (.controlTriggers, 3, Instr.controlTriggers)] →
    ∀ len ps t s, OrderHeld k len ps t s → len ≠ n → exec c s = .next (settleDown (s.answered t len (.invalid, 0))))
  ∧ (∀ len ps t s, len ≠ 5 → OrderHeld .capture len ps t s → s.run ≠ .draining →
    exec .capture s = .next (settleDown (s.answered t len (.invalid, 0))))
  ∧ (∀ len ps t s, len ≠ 34 → OrderHeld .restoreDrift len ps t s → s.cal.lock = false →
    exec .restoreDrift s = .next (settleDown (s.answered t len (.invalid, 0))))
  ∧ (∀ (k : OrderKind) (n : Nat) (c : Instr), (k, n, c) ∈ [(.setChannelMask, 3, .setChannelMask), (.setDetection, 7, .setDetection),
      (.setWeighing, 8, .setWeighing), (.setAssembly, 3, Instr.setAssembly)] →
    ∀ len ps t s, OrderHeld k len ps t s → len ≠ n → s.run = .ready →
      exec c s = .next (settleDown (s.answered t len (.invalid, 0))))
  ∧ (∀ (mask pa sa pb sb : Word) (t : OrderPage) (s : State), OrderHeld .setProbes 7 [mask, pa, sa, pb, sb] t s →
    let primary (w : Word) : Prop := w.toNat = 15 ∨ (w.toNat < 6 ∧ mask.getLsbD w.toNat = true)
    let secondary (p w : Word) : Prop :=
      w.toNat = 15 ∨ (w.toNat < 6 ∧ mask.getLsbD w.toNat = true ∧ p.toNat ≠ 15 ∧ p.toNat ≠ w.toNat)
    let invalid (pos : Nat) : Prop := exec .setProbes s = .next (settleDown (s.answered t 7 (.invalid, pos)))
    (¬primary pa → invalid 3) ∧ (primary pa → ¬secondary pa sa → invalid 4)
      ∧ (primary pa → secondary pa sa → ¬primary pb → invalid 5)
      ∧ (primary pa → secondary pa sa → primary pb → ¬secondary pb sb → invalid 6))
  ∧ (∀ (hold step interval : Word) (bs : List Word) (t : OrderPage) (s : State),
    OrderHeld .setTemperature 12 (hold :: step :: interval :: bs) t s → bs.length = 7 →
    let to_ := bs.map (·.toInt)
    (s.cal.lock = true → to_ ≠ s.temp.bounds → exec .setTemperature s = .next (settleDown (s.answered t 12 (.locked, 0))))
    ∧ (s.cal.lock = false ∨ to_ = s.temp.bounds →
      let good (i : Nat) : Prop := ∀ b, to_[i]? = some b → (-400 ≤ b ∧ b ≤ 850) ∧ ∀ j p, i = j + 1 → to_[j]? = some p → p < b
      ∀ i, (∀ j, j < i → good j) → ¬good i → exec .setTemperature s = .next (settleDown (s.answered t 12 (.invalid, 5 + i)))))
  ∧ (∀ (len : Nat) (ps ws : List Word) (t : OrderPage) (s : State), LoadHeld .loadTemperatureCurve len ps t s →
    s.temp.shadow = some ws →
    let points : List (Int × Nat) := ws.map fun w => ((w.setWidth 16).toInt, w.toNat / 65536)
    let good (i : Nat) : Prop := ∀ x, points[i]? = some x →
      (8192 ≤ x.2 ∧ x.2 ≤ 32767) ∧ ∀ j y, i = j + 1 → points[j]? = some y → y.1 < x.1
    ∀ i, (∀ j, j < i → good j) → ¬good i →
      exec .loadTemperatureCurveDone s = .next (settleDown ({ s with temp.shadow := none }.answered t len (.invalid, i + 1))))
  ∧ (∀ (len : Nat) (n : Word) (ps ws : List Word) (t : OrderPage) (s : State), LoadHeld .loadClassTable len (n :: ps) t s →
    s.cls.shadow = some ws →
    let invalid (detail : Nat) : Prop :=
      exec .loadClassTableDone s = .next (settleDown ({ s with cls.shadow := none }.answered t len (.invalid, detail)))
    (¬WalkEnds n.toNat ws → invalid 2)
    ∧ ∀ pre e post, ws = (pre ++ e :: post).flatMap ClassEntry.words → n.toNat = (pre ++ e :: post).length →
        (∀ d ∈ pre ++ e :: post, d.fitsFields) → (∀ d ∈ pre, d.Sound) → ¬e.Sound → invalid (pre.length + 1))
  ∧ (∀ (ps : List Word) (t : OrderPage) (s : State), OrderHeld .setTrigger 15 ps t s → ps.length = 13 →
    let w (pos : Nat) : Word := ps.getD (pos - 2) 0
    let bad := (triggerFaults ps).find? fun f => !f.2
    let theta : Int := ((w 4).extractLsb' 16 16).toInt
    let far := (w 8).getLsbD 8
    let limits : List (Nat × Bool) :=
      (if bitsOf (w 2) 16 4 = 5 then [(4, decide (-400 ≤ theta ∧ theta ≤ 850))] else [])
        ++ (if (w 8).getLsbD 0 then
            [(8, within 1 8192 (bitsOf (w 8) 16 14)), (9, within 0 (if far then 100000 else 65535) (w 9).toNat)] else [])
        ++ (if (w 11).getLsbD 0 then
            [(11, within 0 1024 (bitsOf (w 11) 16 11)), (12, within 512 65535 (w 12).toNat)] else [])
        ++ [(13, within 82 16777215 (w 13).toNat)]
    (∀ f, bad = some f → exec .setTrigger s = .next (settleDown (s.answered t 15 (.invalid, f.1))))
    ∧ (bad = none → ∃ (n : SetId) (u : State), exec .setTrigger s = .next u ∧ n.val = bitsOf (w 2) 0 4
      ∧ u.ex.taken = some { t with phase := .outcome 15 (rangeAnswer limits).1 (rangeAnswer limits).2 false }
      ∧ (∀ m, m ≠ n → u.trig.sets.get m = s.trig.sets.get m)
      ∧ (let d := (u.trig.sets.get n).dfn
         d.period = bring 82 16777215 (w 13).toNat
         ∧ (∀ r x up down deg, d.factor = .temperature r x up down deg → x = max (-400) (min 850 theta))
         ∧ (d.pulse.isSome = (w 8).getLsbD 0)
         ∧ (∀ p, d.pulse = some p → p.line.val = bitsOf (w 8) 4 4 ∧ p.width = bring 1 8192 (bitsOf (w 8) 16 14)
             ∧ p.timing = if far then .distance (bring 0 100000 (w 9).toNat) else .fixed (bring 0 65535 (w 9).toNat))
         ∧ (d.captureAct.isSome = (w 11).getLsbD 0)
         ∧ (∀ c, d.captureAct = some c → c.pre = bring 0 1024 (bitsOf (w 11) 16 11)
             ∧ c.maxFrames = bring 512 65535 (w 12).toNat))))
end

