-- ==== Sys2Proof/Laws/Queue.lean ====
section
/-!
SUPPORT. Creating a record: NO_PAGE in one equation, and a record that joins a queue with room.
-/

namespace Sys2Proof.Machine

/-- NO_PAGE keeps a set bit and takes its condition (R155). -/
theorem raiseNoPage_eq (s : State) : raiseNoPage s = { s with regs.noPage := s.regs.noPage || s.noPageHolds } := by
  unfold raiseNoPage
  split
  · rename_i h; simp [h]
  · rename_i h; simp [Bool.not_eq_true _ |>.mp h]

/-- A record created with fewer than 31 queued joins the queue (R153, R154, R155). -/
theorem createRecord_eq (k : RecKind) (ws : List Nat) (s : State) (h : s.rw.queue.length < 31) :
    createRecord k ws s = s.recorded { serial := s.rw.created + 1, kind := k, words := stamped (s.rw.created + 1) ws } := by
  unfold createRecord enterRecord
  simp only [queueMax]
  rw [if_pos (by omega), if_neg (by omega), raiseNoPage_eq]
  simp [State.noPageHolds, State.recorded]
  congr 1
  rcases hq : s.rw.queue <;> simp

/-- Losing a record creates none. -/
@[simp] theorem handEvent_created (e : TrigEvent) (s : State) : (handEvent e s).rw.created = s.rw.created := by
  unfold handEvent
  split <;> rfl

@[simp] theorem raiseNoPage_created (s : State) : (raiseNoPage s).rw.created = s.rw.created := by
  rw [raiseNoPage_eq]

@[simp] theorem loseRecord_created (r : Rec) (s : State) : (loseRecord r s).rw.created = s.rw.created := by
  unfold loseRecord
  split <;> simp

@[simp] theorem enterRecord_created (r : Rec) (s : State) : (enterRecord r s).rw.created = s.rw.created := by
  unfold enterRecord
  split
  · simp only [raiseNoPage_created]
    split <;> simp
  · split
    · split <;> simp
    · simp

/-- Every record created takes the next stream serial (R153). -/
@[simp] theorem createRecord_created (k : RecKind) (ws : List Nat) (s : State) :
    (createRecord k ws s).rw.created = s.rw.created + 1 := by
  simp [createRecord]

@[simp] theorem calibrationRecord_created (k l c n b w x y z : Nat) (s : State) :
    (calibrationRecord k l c n b w x y z s).rw.created = s.rw.created + 1 := by
  simp [calibrationRecord]

/-- What creating a record can touch: the Record Writer, NO_PAGE and the events waiting for the Trigger Unit. -/
theorem createRecord_frame (k : RecKind) (ws : List Nat) (s : State) :
    ∃ rw noPage waiting, createRecord k ws s
      = { s with rw := rw, regs.noPage := noPage, trig.waiting := waiting } := by
  have hand (e : TrigEvent) (s : State) : ∃ w, handEvent e s = { s with trig.waiting := w } := by
    unfold handEvent
    split <;> exact ⟨_, rfl⟩
  have lose (r : Rec) (s : State) : ∃ rw w, loseRecord r s = { s with rw := rw, trig.waiting := w } := by
    unfold loseRecord
    split
    · obtain ⟨w, h⟩ := hand (.recordLost true)
        { s with rw.lostVehicle := satInc s.rw.lostVehicle, rw.headerVehicle := s.rw.headerVehicle + 1 }
      rw [h]
      exact ⟨_, _, rfl⟩
    · obtain ⟨w, h⟩ := hand (.recordLost false)
        { s with rw.lostOther := satInc s.rw.lostOther, rw.headerOther := s.rw.headerOther + 1 }
      rw [h]
      exact ⟨_, _, rfl⟩
    · exact ⟨_, s.trig.waiting, rfl⟩
  unfold createRecord enterRecord
  dsimp only
  split
  · rw [raiseNoPage_eq]
    split
    · obtain ⟨w, h⟩ := hand (.backlog 32)
        { s with
          rw.created := s.rw.created + 1
          rw.queue := s.rw.queue ++ [{ serial := s.rw.created + 1, kind := k, words := stamped (s.rw.created + 1) ws }] }
      rw [h]
      exact ⟨_, _, _, rfl⟩
    · exact ⟨_, _, s.trig.waiting, rfl⟩
  · split
    · split
      · rename_i old rest _
        obtain ⟨x, w, h⟩ := lose old
          { s with
            rw.created := s.rw.created + 1
            rw.queue := rest ++ [{ serial := s.rw.created + 1, kind := k, words := stamped (s.rw.created + 1) ws }] }
        rw [raiseNoPage_eq, h]
        exact ⟨_, _, _, rfl⟩
      · obtain ⟨x, w, h⟩ := lose { serial := s.rw.created + 1, kind := k, words := stamped (s.rw.created + 1) ws }
          { s with rw.created := s.rw.created + 1 }
        rw [h]
        exact ⟨_, s.regs.noPage, _, rfl⟩
    · obtain ⟨x, w, h⟩ := lose { serial := s.rw.created + 1, kind := k, words := stamped (s.rw.created + 1) ws }
        { s with rw.created := s.rw.created + 1 }
      rw [h]
      exact ⟨_, s.regs.noPage, _, rfl⟩

/-- Losing a record keeps the queue, the page and the pin. -/
theorem loseRecord_keeps (r : Rec) (s : State) :
    (loseRecord r s).rw.queue = s.rw.queue ∧ (loseRecord r s).rw.page = s.rw.page ∧ (loseRecord r s).rw.pinned = s.rw.pinned := by
  unfold loseRecord handEvent
  repeat' first | exact ⟨rfl, rfl, rfl⟩ | split

/-- Handing an event on keeps the Record Writer. -/
@[simp] theorem handEvent_rw (e : TrigEvent) (s : State) : (handEvent e s).rw = s.rw := by
  unfold handEvent
  split <;> rfl

/-- No record displaces a pinned head (R154): it, the page and the pin stay through a record's creation. -/
theorem createRecord_pinned (k : RecKind) (ws : List Nat) (s : State) (r : Rec) (rest : List Rec)
    (hq : s.rw.queue = r :: rest) (hp : s.rw.pinned = true) :
    (createRecord k ws s).rw.page = s.rw.page ∧ (createRecord k ws s).rw.pinned = true
      ∧ ∃ more, (createRecord k ws s).rw.queue = r :: more := by
  unfold createRecord enterRecord
  simp only [raiseNoPage_eq, hq, hp, displaceable]
  split
  · split <;> simp
  · split
    · cases takeOldestOther rest <;> simp [loseRecord_keeps]
    · simp [loseRecord_keeps]

end Sys2Proof.Machine
end

