-- ==== Sys2Proof/Laws/Cascade.lean ====
section
/-!
SUPPORT. What firing trigger sets can touch: the Trigger Unit, the capture unit, the Record Writer and NO_PAGE, and
nothing else (R133-R143).
-/

namespace Sys2Proof.Machine

/-- `t` differs from `s` in the Trigger Unit, the capture unit, the Record Writer and NO_PAGE at most. -/
def FiringFrame (s t : State) : Prop :=
  t = { s with trig := t.trig, cap := t.cap, rw := t.rw, regs.noPage := t.regs.noPage }

theorem FiringFrame.refl (s : State) : FiringFrame s s := rfl

theorem FiringFrame.trans {s t u : State} (h : FiringFrame s t) (k : FiringFrame t u) : FiringFrame s u := by
  unfold FiringFrame at *
  rw [k, h]

theorem FiringFrame.foldl {α : Type} (f : State × BitVec 8 → α → State × BitVec 8) (h : ∀ a x, FiringFrame a.1 (f a x).1)
    (l : List α) (a : State × BitVec 8) : FiringFrame a.1 (l.foldl f a).1 := by
  induction l generalizing a with
  | nil => exact .refl _
  | cons x rest ih => exact (h a x).trans (ih _)

theorem handEvent_firing (e : TrigEvent) (s : State) : FiringFrame s (handEvent e s) := by
  unfold handEvent
  split <;> rfl

theorem createRecord_firing (k : RecKind) (ws : List Nat) (s : State) : FiringFrame s (createRecord k ws s) := by
  obtain ⟨rw, noPage, waiting, h⟩ := createRecord_frame k ws s
  rw [h]
  rfl

theorem placePulse_firing (a : PulseAction) (n : SetId) (v : Option VehicleEvent) (s : State) :
    FiringFrame s (placePulse a n v s).1 := by
  unfold placePulse
  split
  · rfl
  · rfl
  · dsimp only
    split <;> rfl

theorem firePulse_firing (e : TrigEvent) (n : SetId) (s : State) : FiringFrame s (firePulse e n s).1 := by
  unfold firePulse
  split
  · rfl
  · exact placePulse_firing _ _ _ _

theorem fireTimer_firing (n : SetId) (s : State) : FiringFrame s (fireTimer n s) := by
  unfold fireTimer
  split <;> rfl

theorem armCapture_firing (r : ArmRequest) (s : State) : FiringFrame s (armCapture r s) := by
  unfold armCapture
  split <;> rfl

theorem fireCapture_firing (e : TrigEvent) (n : SetId) (s : State) : FiringFrame s (fireCapture e n s).1 := by
  unfold fireCapture applyCaptureAction
  split
  · rfl
  · split
    · rfl
    · exact armCapture_firing _ _

theorem fireReport_firing (e : TrigEvent) (n : SetId) (a : Bool) (r : PulseResult) (b : Bool) (s : State) :
    FiringFrame s (fireReport e n a r b s) := by
  unfold fireReport
  split
  · exact createRecord_firing _ _ _
  · rfl

/-- Steps 2 to 7 of a firing. -/
theorem fireSteps_firing (e : TrigEvent) (n : SetId) (a : Bool) (s : State) : FiringFrame s (fireSteps e n a s) := by
  unfold fireSteps
  dsimp only
  refine (firePulse_firing e n s).trans ((fireTimer_firing n _).trans ((fireCapture_firing e n _).trans
    ((fireReport_firing e n a (firePulse e n s).2 (fireCapture e n (fireTimer n (firePulse e n s).1)).2 _).trans ?_)))
  split <;> rfl

/-- A firing with its chains. -/
theorem fire_firing (e : TrigEvent) (depth : Nat) (n : SetId) (a : Bool) (acc : State × BitVec 8) :
    FiringFrame acc.1 (fire e depth n a acc).1 := by
  induction depth generalizing n a acc with
  | zero => exact .refl _
  | succ d ih =>
    unfold fire
    refine (fireSteps_firing e n a acc.1).trans (FiringFrame.foldl _ (fun b m => ?_) _ (_, _))
    split
    · exact ih _ _ _
    · exact .refl _

/-- A cascade. -/
theorem runCascade_firing (e : TrigEvent) (s : State) : FiringFrame s (runCascade e s).1 := by
  unfold runCascade
  split
  · refine FiringFrame.foldl _ (fun b m => ?_) _ (s, 0)
    split
    · exact fire_firing _ _ _ _ _
    · exact .refl _
  · exact .refl _

/-- The cascade of CONTROL TRIGGERS. -/
theorem controlCascade_firing (m : BitVec 8) (s : State) : FiringFrame s (controlCascade m s) := by
  unfold controlCascade
  refine FiringFrame.foldl _ (fun b m => ?_) _ (s, 0)
  split
  · exact fire_firing _ _ _ _ _
  · exact .refl _

end Sys2Proof.Machine
end

