-- ==== Sys2Proof/Laws/Tab.lean ====
section
/-!
SUPPORT. Reading a table after each way of building one.
-/

namespace Sys2Proof.Tab

variable {n : Nat} {α β γ : Type}

/-- Two tables with the same entries are equal. -/
theorem ext_get {t u : Tab n α} (h : ∀ i, t.get i = u.get i) : t = u := by
  obtain ⟨a, ha⟩ := t
  obtain ⟨b, hb⟩ := u
  have : a = b := by
    apply List.ext_getElem (by omega)
    intro i h1 h2
    have := h ⟨i, by omega⟩
    simpa [get] using this
  subst this
  rfl

@[simp] theorem get_set_same (t : Tab n α) (i : Fin n) (a : α) : (t.set i a).get i = a := by
  simp only [get, set, List.get_eq_getElem]
  exact List.getElem_set_self _

@[simp] theorem get_set_ne (t : Tab n α) {i j : Fin n} (a : α) (h : i ≠ j) : (t.set i a).get j = t.get j := by
  simp only [get, set, List.get_eq_getElem, Fin.val_cast]
  exact List.getElem_set_ne (fun e => h (Fin.ext e)) _

theorem get_set (t : Tab n α) (i j : Fin n) (a : α) : (t.set i a).get j = if i = j then a else t.get j := by
  by_cases h : i = j
  · subst h; simp
  · simp [h]

@[simp] theorem get_fill (a : α) (i : Fin n) : (fill n a).get i = a := by
  simp [get, fill]

@[simp] theorem get_map (f : α → β) (t : Tab n α) (i : Fin n) : (t.map f).get i = f (t.get i) := by
  simp [get, map]
  rfl

@[simp] theorem get_modify_same (t : Tab n α) (i : Fin n) (f : α → α) : (t.modify i f).get i = f (t.get i) := by
  simp [modify]

@[simp] theorem get_modify_ne (t : Tab n α) {i j : Fin n} (f : α → α) (h : i ≠ j) : (t.modify i f).get j = t.get j := by
  simp [modify, h]

theorem getElem_listOf (f : Nat → α) (i : Nat) (h : i < (listOf n f).length) : (listOf n f)[i] = f i := by
  induction n generalizing f i with
  | zero => simp [listOf] at h
  | succ k ih =>
    cases i with
    | zero => rfl
    | succ j => simpa [listOf] using ih (fun i => f (i + 1)) j (by simpa [listOf] using h)

@[simp] theorem get_ofNat (f : Nat → α) (i : Fin n) : (ofNat n f).get i = f i.val := by
  simp [get, ofNat, getElem_listOf]
  rfl

@[simp] theorem get_zipWith (f : α → β → γ) (t : Tab n α) (u : Tab n β) (i : Fin n) :
    (t.zipWith f u).get i = f (t.get i) (u.get i) := by
  simp [get, zipWith]
  rfl

@[simp] theorem set_get (t : Tab n α) (i : Fin n) : t.set i (t.get i) = t := by
  apply ext_get
  intro j
  rw [get_set]
  split
  · rename_i h; rw [h]
  · rfl

/-- Mapping after a replacement. -/
theorem map_set (f : α → β) (t : Tab n α) (i : Fin n) (a : α) : (t.set i a).map f = (t.map f).set i (f a) := by
  apply ext_get
  intro j
  simp only [get_map, get_set]
  split <;> rfl

/-- A replacement that a function does not see. -/
theorem map_set_same (f : α → β) (t : Tab n α) (i : Fin n) (a : α) (h : f a = f (t.get i)) : (t.set i a).map f = t.map f := by
  rw [map_set, h, show f (t.get i) = (t.map f).get i from (get_map f t i).symm, set_get]

/-- A property of every entry of the list is one of every entry by index. -/
theorem forall_mem (t : Tab n α) (p : α → Prop) : (∀ a ∈ t.items, p a) ↔ ∀ i, p (t.get i) := by
  constructor
  · intro h i
    exact h _ (List.get_mem _ _)
  · intro h a ha
    obtain ⟨k, hk, rfl⟩ := List.getElem_of_mem ha
    exact h ⟨k, by have := t.len; omega⟩

/-- `all` over the entries. -/
theorem all_items (t : Tab n α) (p : α → Bool) : t.items.all p = true ↔ ∀ i, p (t.get i) = true := by
  rw [List.all_eq_true]
  exact t.forall_mem (fun a => p a = true)

end Sys2Proof.Tab

namespace Sys2Proof

/-- Every index is listed. -/
theorem mem_indices (n : Nat) (i : Fin n) : i ∈ indices n := by
  induction n with
  | zero => exact i.elim0
  | succ k ih =>
    cases i using Fin.cases with
    | zero => simp [indices]
    | succ j => simp [indices, ih j]

end Sys2Proof
end

