-- ==== Sys2Proof/Laws/State.lean ====
section
/-!
SUPPORT. The fields each named update leaves alone, one lemma a field, true by computation.
-/

namespace Sys2Proof.Machine

/-! stopMeasuring -/

@[simp] theorem stopMeasuring_clock (s : State) : (stopMeasuring s).clock = s.clock := rfl
@[simp] theorem stopMeasuring_run (s : State) : (stopMeasuring s).run = s.run := rfl
@[simp] theorem stopMeasuring_regs (s : State) : (stopMeasuring s).regs = s.regs := rfl
@[simp] theorem stopMeasuring_pins (s : State) : (stopMeasuring s).pins = s.pins := rfl
@[simp] theorem stopMeasuring_site (s : State) : (stopMeasuring s).site = s.site := rfl
@[simp] theorem stopMeasuring_loops (s : State) : (stopMeasuring s).loops = s.loops := rfl
@[simp] theorem stopMeasuring_link (s : State) : (stopMeasuring s).link = s.link := rfl
@[simp] theorem stopMeasuring_history (s : State) : (stopMeasuring s).history = s.history := rfl
@[simp] theorem stopMeasuring_cap (s : State) : (stopMeasuring s).cap = s.cap := rfl
@[simp] theorem stopMeasuring_axle (s : State) : (stopMeasuring s).axle = s.axle := rfl
@[simp] theorem stopMeasuring_temp (s : State) : (stopMeasuring s).temp = s.temp := rfl
@[simp] theorem stopMeasuring_veh (s : State) : (stopMeasuring s).veh = s.veh := rfl
@[simp] theorem stopMeasuring_cls (s : State) : (stopMeasuring s).cls = s.cls := rfl
@[simp] theorem stopMeasuring_cal (s : State) : (stopMeasuring s).cal = s.cal := rfl
@[simp] theorem stopMeasuring_trig (s : State) : (stopMeasuring s).trig = s.trig := rfl
@[simp] theorem stopMeasuring_rw (s : State) : (stopMeasuring s).rw = s.rw := rfl
@[simp] theorem stopMeasuring_ex (s : State) : (stopMeasuring s).ex = s.ex := rfl
@[simp] theorem stopMeasuring_ctrl (s : State) : (stopMeasuring s).ctrl = s.ctrl := rfl
@[simp] theorem stopMeasuring_mem (s : State) : (stopMeasuring s).mem = s.mem := rfl
@[simp] theorem stopMeasuring_pending (s : State) : (stopMeasuring s).pending = s.pending := rfl

/-! emptyRowLists -/

@[simp] theorem emptyRowLists_clock (s : State) : (emptyRowLists s).clock = s.clock := rfl
@[simp] theorem emptyRowLists_run (s : State) : (emptyRowLists s).run = s.run := rfl
@[simp] theorem emptyRowLists_regs (s : State) : (emptyRowLists s).regs = s.regs := rfl
@[simp] theorem emptyRowLists_pins (s : State) : (emptyRowLists s).pins = s.pins := rfl
@[simp] theorem emptyRowLists_site (s : State) : (emptyRowLists s).site = s.site := rfl
@[simp] theorem emptyRowLists_loops (s : State) : (emptyRowLists s).loops = s.loops := rfl
@[simp] theorem emptyRowLists_link (s : State) : (emptyRowLists s).link = s.link := rfl
@[simp] theorem emptyRowLists_det (s : State) : (emptyRowLists s).det = s.det := rfl
@[simp] theorem emptyRowLists_history (s : State) : (emptyRowLists s).history = s.history := rfl
@[simp] theorem emptyRowLists_cap (s : State) : (emptyRowLists s).cap = s.cap := rfl
@[simp] theorem emptyRowLists_temp (s : State) : (emptyRowLists s).temp = s.temp := rfl
@[simp] theorem emptyRowLists_veh (s : State) : (emptyRowLists s).veh = s.veh := rfl
@[simp] theorem emptyRowLists_cls (s : State) : (emptyRowLists s).cls = s.cls := rfl
@[simp] theorem emptyRowLists_cal (s : State) : (emptyRowLists s).cal = s.cal := rfl
@[simp] theorem emptyRowLists_trig (s : State) : (emptyRowLists s).trig = s.trig := rfl
@[simp] theorem emptyRowLists_rw (s : State) : (emptyRowLists s).rw = s.rw := rfl
@[simp] theorem emptyRowLists_ex (s : State) : (emptyRowLists s).ex = s.ex := rfl
@[simp] theorem emptyRowLists_ctrl (s : State) : (emptyRowLists s).ctrl = s.ctrl := rfl
@[simp] theorem emptyRowLists_mem (s : State) : (emptyRowLists s).mem = s.mem := rfl
@[simp] theorem emptyRowLists_pending (s : State) : (emptyRowLists s).pending = s.pending := rfl

/-! stopRunTimers -/

@[simp] theorem stopRunTimers_clock (s : State) : (stopRunTimers s).clock = s.clock := rfl
@[simp] theorem stopRunTimers_run (s : State) : (stopRunTimers s).run = s.run := rfl
@[simp] theorem stopRunTimers_regs (s : State) : (stopRunTimers s).regs = s.regs := rfl
@[simp] theorem stopRunTimers_pins (s : State) : (stopRunTimers s).pins = s.pins := rfl
@[simp] theorem stopRunTimers_site (s : State) : (stopRunTimers s).site = s.site := rfl
@[simp] theorem stopRunTimers_loops (s : State) : (stopRunTimers s).loops = s.loops := rfl
@[simp] theorem stopRunTimers_link (s : State) : (stopRunTimers s).link = s.link := rfl
@[simp] theorem stopRunTimers_det (s : State) : (stopRunTimers s).det = s.det := rfl
@[simp] theorem stopRunTimers_history (s : State) : (stopRunTimers s).history = s.history := rfl
@[simp] theorem stopRunTimers_cap (s : State) : (stopRunTimers s).cap = s.cap := rfl
@[simp] theorem stopRunTimers_axle (s : State) : (stopRunTimers s).axle = s.axle := rfl
@[simp] theorem stopRunTimers_temp (s : State) : (stopRunTimers s).temp = s.temp := rfl
@[simp] theorem stopRunTimers_veh (s : State) : (stopRunTimers s).veh = s.veh := rfl
@[simp] theorem stopRunTimers_cls (s : State) : (stopRunTimers s).cls = s.cls := rfl
@[simp] theorem stopRunTimers_cal (s : State) : (stopRunTimers s).cal = s.cal := rfl
@[simp] theorem stopRunTimers_trig (s : State) : (stopRunTimers s).trig = s.trig := rfl
@[simp] theorem stopRunTimers_rw (s : State) : (stopRunTimers s).rw = s.rw := rfl
@[simp] theorem stopRunTimers_ex (s : State) : (stopRunTimers s).ex = s.ex := rfl
@[simp] theorem stopRunTimers_mem (s : State) : (stopRunTimers s).mem = s.mem := rfl
@[simp] theorem stopRunTimers_pending (s : State) : (stopRunTimers s).pending = s.pending := rfl

/-! stopSweeper -/

@[simp] theorem stopSweeper_clock (s : State) : (stopSweeper s).clock = s.clock := rfl
@[simp] theorem stopSweeper_run (s : State) : (stopSweeper s).run = s.run := rfl
@[simp] theorem stopSweeper_regs (s : State) : (stopSweeper s).regs = s.regs := rfl
@[simp] theorem stopSweeper_pins (s : State) : (stopSweeper s).pins = s.pins := rfl
@[simp] theorem stopSweeper_site (s : State) : (stopSweeper s).site = s.site := rfl
@[simp] theorem stopSweeper_loops (s : State) : (stopSweeper s).loops = s.loops := rfl
@[simp] theorem stopSweeper_link (s : State) : (stopSweeper s).link = s.link := rfl
@[simp] theorem stopSweeper_det (s : State) : (stopSweeper s).det = s.det := rfl
@[simp] theorem stopSweeper_history (s : State) : (stopSweeper s).history = s.history := rfl
@[simp] theorem stopSweeper_cap (s : State) : (stopSweeper s).cap = s.cap := rfl
@[simp] theorem stopSweeper_axle (s : State) : (stopSweeper s).axle = s.axle := rfl
@[simp] theorem stopSweeper_temp (s : State) : (stopSweeper s).temp = s.temp := rfl
@[simp] theorem stopSweeper_veh (s : State) : (stopSweeper s).veh = s.veh := rfl
@[simp] theorem stopSweeper_cls (s : State) : (stopSweeper s).cls = s.cls := rfl
@[simp] theorem stopSweeper_cal (s : State) : (stopSweeper s).cal = s.cal := rfl
@[simp] theorem stopSweeper_trig (s : State) : (stopSweeper s).trig = s.trig := rfl
@[simp] theorem stopSweeper_rw (s : State) : (stopSweeper s).rw = s.rw := rfl
@[simp] theorem stopSweeper_ctrl (s : State) : (stopSweeper s).ctrl = s.ctrl := rfl
@[simp] theorem stopSweeper_mem (s : State) : (stopSweeper s).mem = s.mem := rfl
@[simp] theorem stopSweeper_pending (s : State) : (stopSweeper s).pending = s.pending := rfl

/-! startSweep -/

@[simp] theorem startSweep_clock (s : State) : (startSweep s).clock = s.clock := rfl
@[simp] theorem startSweep_run (s : State) : (startSweep s).run = s.run := rfl
@[simp] theorem startSweep_regs (s : State) : (startSweep s).regs = s.regs := rfl
@[simp] theorem startSweep_pins (s : State) : (startSweep s).pins = s.pins := rfl
@[simp] theorem startSweep_site (s : State) : (startSweep s).site = s.site := rfl
@[simp] theorem startSweep_loops (s : State) : (startSweep s).loops = s.loops := rfl
@[simp] theorem startSweep_link (s : State) : (startSweep s).link = s.link := rfl
@[simp] theorem startSweep_det (s : State) : (startSweep s).det = s.det := rfl
@[simp] theorem startSweep_history (s : State) : (startSweep s).history = s.history := rfl
@[simp] theorem startSweep_cap (s : State) : (startSweep s).cap = s.cap := rfl
@[simp] theorem startSweep_axle (s : State) : (startSweep s).axle = s.axle := rfl
@[simp] theorem startSweep_temp (s : State) : (startSweep s).temp = s.temp := rfl
@[simp] theorem startSweep_veh (s : State) : (startSweep s).veh = s.veh := rfl
@[simp] theorem startSweep_cls (s : State) : (startSweep s).cls = s.cls := rfl
@[simp] theorem startSweep_cal (s : State) : (startSweep s).cal = s.cal := rfl
@[simp] theorem startSweep_trig (s : State) : (startSweep s).trig = s.trig := rfl
@[simp] theorem startSweep_rw (s : State) : (startSweep s).rw = s.rw := rfl
@[simp] theorem startSweep_ctrl (s : State) : (startSweep s).ctrl = s.ctrl := rfl
@[simp] theorem startSweep_mem (s : State) : (startSweep s).mem = s.mem := rfl
@[simp] theorem startSweep_pending (s : State) : (startSweep s).pending = s.pending := rfl

/-! countStray -/

@[simp] theorem countStray_clock (s : State) : (countStray s).clock = s.clock := rfl
@[simp] theorem countStray_run (s : State) : (countStray s).run = s.run := rfl
@[simp] theorem countStray_regs (s : State) : (countStray s).regs = s.regs := rfl
@[simp] theorem countStray_pins (s : State) : (countStray s).pins = s.pins := rfl
@[simp] theorem countStray_site (s : State) : (countStray s).site = s.site := rfl
@[simp] theorem countStray_loops (s : State) : (countStray s).loops = s.loops := rfl
@[simp] theorem countStray_link (s : State) : (countStray s).link = s.link := rfl
@[simp] theorem countStray_det (s : State) : (countStray s).det = s.det := rfl
@[simp] theorem countStray_history (s : State) : (countStray s).history = s.history := rfl
@[simp] theorem countStray_cap (s : State) : (countStray s).cap = s.cap := rfl
@[simp] theorem countStray_axle (s : State) : (countStray s).axle = s.axle := rfl
@[simp] theorem countStray_temp (s : State) : (countStray s).temp = s.temp := rfl
@[simp] theorem countStray_veh (s : State) : (countStray s).veh = s.veh := rfl
@[simp] theorem countStray_cls (s : State) : (countStray s).cls = s.cls := rfl
@[simp] theorem countStray_cal (s : State) : (countStray s).cal = s.cal := rfl
@[simp] theorem countStray_trig (s : State) : (countStray s).trig = s.trig := rfl
@[simp] theorem countStray_rw (s : State) : (countStray s).rw = s.rw := rfl
@[simp] theorem countStray_ctrl (s : State) : (countStray s).ctrl = s.ctrl := rfl
@[simp] theorem countStray_mem (s : State) : (countStray s).mem = s.mem := rfl
@[simp] theorem countStray_pending (s : State) : (countStray s).pending = s.pending := rfl

/-! dropShadows -/

@[simp] theorem dropShadows_clock (s : State) : (dropShadows s).clock = s.clock := rfl
@[simp] theorem dropShadows_run (s : State) : (dropShadows s).run = s.run := rfl
@[simp] theorem dropShadows_regs (s : State) : (dropShadows s).regs = s.regs := rfl
@[simp] theorem dropShadows_pins (s : State) : (dropShadows s).pins = s.pins := rfl
@[simp] theorem dropShadows_site (s : State) : (dropShadows s).site = s.site := rfl
@[simp] theorem dropShadows_loops (s : State) : (dropShadows s).loops = s.loops := rfl
@[simp] theorem dropShadows_link (s : State) : (dropShadows s).link = s.link := rfl
@[simp] theorem dropShadows_det (s : State) : (dropShadows s).det = s.det := rfl
@[simp] theorem dropShadows_history (s : State) : (dropShadows s).history = s.history := rfl
@[simp] theorem dropShadows_cap (s : State) : (dropShadows s).cap = s.cap := rfl
@[simp] theorem dropShadows_axle (s : State) : (dropShadows s).axle = s.axle := rfl
@[simp] theorem dropShadows_veh (s : State) : (dropShadows s).veh = s.veh := rfl
@[simp] theorem dropShadows_cal (s : State) : (dropShadows s).cal = s.cal := rfl
@[simp] theorem dropShadows_trig (s : State) : (dropShadows s).trig = s.trig := rfl
@[simp] theorem dropShadows_rw (s : State) : (dropShadows s).rw = s.rw := rfl
@[simp] theorem dropShadows_ex (s : State) : (dropShadows s).ex = s.ex := rfl
@[simp] theorem dropShadows_ctrl (s : State) : (dropShadows s).ctrl = s.ctrl := rfl
@[simp] theorem dropShadows_mem (s : State) : (dropShadows s).mem = s.mem := rfl
@[simp] theorem dropShadows_pending (s : State) : (dropShadows s).pending = s.pending := rfl

/-! raiseGeneration -/

@[simp] theorem raiseGeneration_clock (s : State) : (raiseGeneration s).clock = s.clock := rfl
@[simp] theorem raiseGeneration_run (s : State) : (raiseGeneration s).run = s.run := rfl
@[simp] theorem raiseGeneration_regs (s : State) : (raiseGeneration s).regs = s.regs := rfl
@[simp] theorem raiseGeneration_pins (s : State) : (raiseGeneration s).pins = s.pins := rfl
@[simp] theorem raiseGeneration_site (s : State) : (raiseGeneration s).site = s.site := rfl
@[simp] theorem raiseGeneration_loops (s : State) : (raiseGeneration s).loops = s.loops := rfl
@[simp] theorem raiseGeneration_link (s : State) : (raiseGeneration s).link = s.link := rfl
@[simp] theorem raiseGeneration_det (s : State) : (raiseGeneration s).det = s.det := rfl
@[simp] theorem raiseGeneration_history (s : State) : (raiseGeneration s).history = s.history := rfl
@[simp] theorem raiseGeneration_cap (s : State) : (raiseGeneration s).cap = s.cap := rfl
@[simp] theorem raiseGeneration_axle (s : State) : (raiseGeneration s).axle = s.axle := rfl
@[simp] theorem raiseGeneration_temp (s : State) : (raiseGeneration s).temp = s.temp := rfl
@[simp] theorem raiseGeneration_veh (s : State) : (raiseGeneration s).veh = s.veh := rfl
@[simp] theorem raiseGeneration_cls (s : State) : (raiseGeneration s).cls = s.cls := rfl
@[simp] theorem raiseGeneration_trig (s : State) : (raiseGeneration s).trig = s.trig := rfl
@[simp] theorem raiseGeneration_rw (s : State) : (raiseGeneration s).rw = s.rw := rfl
@[simp] theorem raiseGeneration_ex (s : State) : (raiseGeneration s).ex = s.ex := rfl
@[simp] theorem raiseGeneration_ctrl (s : State) : (raiseGeneration s).ctrl = s.ctrl := rfl
@[simp] theorem raiseGeneration_mem (s : State) : (raiseGeneration s).mem = s.mem := rfl
@[simp] theorem raiseGeneration_pending (s : State) : (raiseGeneration s).pending = s.pending := rfl

/-! clearTallies -/

@[simp] theorem clearTallies_clock (s : State) : (clearTallies s).clock = s.clock := rfl
@[simp] theorem clearTallies_run (s : State) : (clearTallies s).run = s.run := rfl
@[simp] theorem clearTallies_regs (s : State) : (clearTallies s).regs = s.regs := rfl
@[simp] theorem clearTallies_pins (s : State) : (clearTallies s).pins = s.pins := rfl
@[simp] theorem clearTallies_site (s : State) : (clearTallies s).site = s.site := rfl
@[simp] theorem clearTallies_loops (s : State) : (clearTallies s).loops = s.loops := rfl
@[simp] theorem clearTallies_link (s : State) : (clearTallies s).link = s.link := rfl
@[simp] theorem clearTallies_det (s : State) : (clearTallies s).det = s.det := rfl
@[simp] theorem clearTallies_history (s : State) : (clearTallies s).history = s.history := rfl
@[simp] theorem clearTallies_cap (s : State) : (clearTallies s).cap = s.cap := rfl
@[simp] theorem clearTallies_axle (s : State) : (clearTallies s).axle = s.axle := rfl
@[simp] theorem clearTallies_temp (s : State) : (clearTallies s).temp = s.temp := rfl
@[simp] theorem clearTallies_veh (s : State) : (clearTallies s).veh = s.veh := rfl
@[simp] theorem clearTallies_cls (s : State) : (clearTallies s).cls = s.cls := rfl
@[simp] theorem clearTallies_trig (s : State) : (clearTallies s).trig = s.trig := rfl
@[simp] theorem clearTallies_rw (s : State) : (clearTallies s).rw = s.rw := rfl
@[simp] theorem clearTallies_ex (s : State) : (clearTallies s).ex = s.ex := rfl
@[simp] theorem clearTallies_ctrl (s : State) : (clearTallies s).ctrl = s.ctrl := rfl
@[simp] theorem clearTallies_mem (s : State) : (clearTallies s).mem = s.mem := rfl
@[simp] theorem clearTallies_pending (s : State) : (clearTallies s).pending = s.pending := rfl

/-! setCell -/

@[simp] theorem setCell_clock (l : Lane) (b : Fin 8) (c : Cell) (s : State) : (setCell l b c s).clock = s.clock := rfl
@[simp] theorem setCell_run (l : Lane) (b : Fin 8) (c : Cell) (s : State) : (setCell l b c s).run = s.run := rfl
@[simp] theorem setCell_regs (l : Lane) (b : Fin 8) (c : Cell) (s : State) : (setCell l b c s).regs = s.regs := rfl
@[simp] theorem setCell_pins (l : Lane) (b : Fin 8) (c : Cell) (s : State) : (setCell l b c s).pins = s.pins := rfl
@[simp] theorem setCell_site (l : Lane) (b : Fin 8) (c : Cell) (s : State) : (setCell l b c s).site = s.site := rfl
@[simp] theorem setCell_loops (l : Lane) (b : Fin 8) (c : Cell) (s : State) : (setCell l b c s).loops = s.loops := rfl
@[simp] theorem setCell_link (l : Lane) (b : Fin 8) (c : Cell) (s : State) : (setCell l b c s).link = s.link := rfl
@[simp] theorem setCell_det (l : Lane) (b : Fin 8) (c : Cell) (s : State) : (setCell l b c s).det = s.det := rfl
@[simp] theorem setCell_history (l : Lane) (b : Fin 8) (c : Cell) (s : State) : (setCell l b c s).history = s.history := rfl
@[simp] theorem setCell_cap (l : Lane) (b : Fin 8) (c : Cell) (s : State) : (setCell l b c s).cap = s.cap := rfl
@[simp] theorem setCell_axle (l : Lane) (b : Fin 8) (c : Cell) (s : State) : (setCell l b c s).axle = s.axle := rfl
@[simp] theorem setCell_temp (l : Lane) (b : Fin 8) (c : Cell) (s : State) : (setCell l b c s).temp = s.temp := rfl
@[simp] theorem setCell_veh (l : Lane) (b : Fin 8) (c : Cell) (s : State) : (setCell l b c s).veh = s.veh := rfl
@[simp] theorem setCell_cls (l : Lane) (b : Fin 8) (c : Cell) (s : State) : (setCell l b c s).cls = s.cls := rfl
@[simp] theorem setCell_trig (l : Lane) (b : Fin 8) (c : Cell) (s : State) : (setCell l b c s).trig = s.trig := rfl
@[simp] theorem setCell_rw (l : Lane) (b : Fin 8) (c : Cell) (s : State) : (setCell l b c s).rw = s.rw := rfl
@[simp] theorem setCell_ex (l : Lane) (b : Fin 8) (c : Cell) (s : State) : (setCell l b c s).ex = s.ex := rfl
@[simp] theorem setCell_ctrl (l : Lane) (b : Fin 8) (c : Cell) (s : State) : (setCell l b c s).ctrl = s.ctrl := rfl
@[simp] theorem setCell_mem (l : Lane) (b : Fin 8) (c : Cell) (s : State) : (setCell l b c s).mem = s.mem := rfl
@[simp] theorem setCell_pending (l : Lane) (b : Fin 8) (c : Cell) (s : State) : (setCell l b c s).pending = s.pending := rfl

/-! setLoop -/

@[simp] theorem setLoop_clock (l : Lane) (x : LoopState) (s : State) : (setLoop l x s).clock = s.clock := rfl
@[simp] theorem setLoop_run (l : Lane) (x : LoopState) (s : State) : (setLoop l x s).run = s.run := rfl
@[simp] theorem setLoop_regs (l : Lane) (x : LoopState) (s : State) : (setLoop l x s).regs = s.regs := rfl
@[simp] theorem setLoop_pins (l : Lane) (x : LoopState) (s : State) : (setLoop l x s).pins = s.pins := rfl
@[simp] theorem setLoop_site (l : Lane) (x : LoopState) (s : State) : (setLoop l x s).site = s.site := rfl
@[simp] theorem setLoop_link (l : Lane) (x : LoopState) (s : State) : (setLoop l x s).link = s.link := rfl
@[simp] theorem setLoop_det (l : Lane) (x : LoopState) (s : State) : (setLoop l x s).det = s.det := rfl
@[simp] theorem setLoop_history (l : Lane) (x : LoopState) (s : State) : (setLoop l x s).history = s.history := rfl
@[simp] theorem setLoop_cap (l : Lane) (x : LoopState) (s : State) : (setLoop l x s).cap = s.cap := rfl
@[simp] theorem setLoop_axle (l : Lane) (x : LoopState) (s : State) : (setLoop l x s).axle = s.axle := rfl
@[simp] theorem setLoop_temp (l : Lane) (x : LoopState) (s : State) : (setLoop l x s).temp = s.temp := rfl
@[simp] theorem setLoop_veh (l : Lane) (x : LoopState) (s : State) : (setLoop l x s).veh = s.veh := rfl
@[simp] theorem setLoop_cls (l : Lane) (x : LoopState) (s : State) : (setLoop l x s).cls = s.cls := rfl
@[simp] theorem setLoop_cal (l : Lane) (x : LoopState) (s : State) : (setLoop l x s).cal = s.cal := rfl
@[simp] theorem setLoop_trig (l : Lane) (x : LoopState) (s : State) : (setLoop l x s).trig = s.trig := rfl
@[simp] theorem setLoop_rw (l : Lane) (x : LoopState) (s : State) : (setLoop l x s).rw = s.rw := rfl
@[simp] theorem setLoop_ex (l : Lane) (x : LoopState) (s : State) : (setLoop l x s).ex = s.ex := rfl
@[simp] theorem setLoop_ctrl (l : Lane) (x : LoopState) (s : State) : (setLoop l x s).ctrl = s.ctrl := rfl
@[simp] theorem setLoop_mem (l : Lane) (x : LoopState) (s : State) : (setLoop l x s).mem = s.mem := rfl
@[simp] theorem setLoop_pending (l : Lane) (x : LoopState) (s : State) : (setLoop l x s).pending = s.pending := rfl

/-! setContext -/

@[simp] theorem setContext_clock (l : Lane) (k : Slot) (c : Option Context) (s : State) : (setContext l k c s).clock = s.clock := rfl
@[simp] theorem setContext_run (l : Lane) (k : Slot) (c : Option Context) (s : State) : (setContext l k c s).run = s.run := rfl
@[simp] theorem setContext_regs (l : Lane) (k : Slot) (c : Option Context) (s : State) : (setContext l k c s).regs = s.regs := rfl
@[simp] theorem setContext_pins (l : Lane) (k : Slot) (c : Option Context) (s : State) : (setContext l k c s).pins = s.pins := rfl
@[simp] theorem setContext_site (l : Lane) (k : Slot) (c : Option Context) (s : State) : (setContext l k c s).site = s.site := rfl
@[simp] theorem setContext_loops (l : Lane) (k : Slot) (c : Option Context) (s : State) : (setContext l k c s).loops = s.loops := rfl
@[simp] theorem setContext_link (l : Lane) (k : Slot) (c : Option Context) (s : State) : (setContext l k c s).link = s.link := rfl
@[simp] theorem setContext_det (l : Lane) (k : Slot) (c : Option Context) (s : State) : (setContext l k c s).det = s.det := rfl
@[simp] theorem setContext_history (l : Lane) (k : Slot) (c : Option Context) (s : State) : (setContext l k c s).history = s.history := rfl
@[simp] theorem setContext_cap (l : Lane) (k : Slot) (c : Option Context) (s : State) : (setContext l k c s).cap = s.cap := rfl
@[simp] theorem setContext_axle (l : Lane) (k : Slot) (c : Option Context) (s : State) : (setContext l k c s).axle = s.axle := rfl
@[simp] theorem setContext_temp (l : Lane) (k : Slot) (c : Option Context) (s : State) : (setContext l k c s).temp = s.temp := rfl
@[simp] theorem setContext_cls (l : Lane) (k : Slot) (c : Option Context) (s : State) : (setContext l k c s).cls = s.cls := rfl
@[simp] theorem setContext_cal (l : Lane) (k : Slot) (c : Option Context) (s : State) : (setContext l k c s).cal = s.cal := rfl
@[simp] theorem setContext_trig (l : Lane) (k : Slot) (c : Option Context) (s : State) : (setContext l k c s).trig = s.trig := rfl
@[simp] theorem setContext_rw (l : Lane) (k : Slot) (c : Option Context) (s : State) : (setContext l k c s).rw = s.rw := rfl
@[simp] theorem setContext_ex (l : Lane) (k : Slot) (c : Option Context) (s : State) : (setContext l k c s).ex = s.ex := rfl
@[simp] theorem setContext_ctrl (l : Lane) (k : Slot) (c : Option Context) (s : State) : (setContext l k c s).ctrl = s.ctrl := rfl
@[simp] theorem setContext_mem (l : Lane) (k : Slot) (c : Option Context) (s : State) : (setContext l k c s).mem = s.mem := rfl
@[simp] theorem setContext_pending (l : Lane) (k : Slot) (c : Option Context) (s : State) : (setContext l k c s).pending = s.pending := rfl

/-! setReader -/

@[simp] theorem setReader_clock (ph : ReadPhase) (s : State) : (setReader ph s).clock = s.clock := rfl
@[simp] theorem setReader_run (ph : ReadPhase) (s : State) : (setReader ph s).run = s.run := rfl
@[simp] theorem setReader_regs (ph : ReadPhase) (s : State) : (setReader ph s).regs = s.regs := rfl
@[simp] theorem setReader_pins (ph : ReadPhase) (s : State) : (setReader ph s).pins = s.pins := rfl
@[simp] theorem setReader_site (ph : ReadPhase) (s : State) : (setReader ph s).site = s.site := rfl
@[simp] theorem setReader_loops (ph : ReadPhase) (s : State) : (setReader ph s).loops = s.loops := rfl
@[simp] theorem setReader_link (ph : ReadPhase) (s : State) : (setReader ph s).link = s.link := rfl
@[simp] theorem setReader_det (ph : ReadPhase) (s : State) : (setReader ph s).det = s.det := rfl
@[simp] theorem setReader_history (ph : ReadPhase) (s : State) : (setReader ph s).history = s.history := rfl
@[simp] theorem setReader_cap (ph : ReadPhase) (s : State) : (setReader ph s).cap = s.cap := rfl
@[simp] theorem setReader_axle (ph : ReadPhase) (s : State) : (setReader ph s).axle = s.axle := rfl
@[simp] theorem setReader_temp (ph : ReadPhase) (s : State) : (setReader ph s).temp = s.temp := rfl
@[simp] theorem setReader_veh (ph : ReadPhase) (s : State) : (setReader ph s).veh = s.veh := rfl
@[simp] theorem setReader_cls (ph : ReadPhase) (s : State) : (setReader ph s).cls = s.cls := rfl
@[simp] theorem setReader_cal (ph : ReadPhase) (s : State) : (setReader ph s).cal = s.cal := rfl
@[simp] theorem setReader_trig (ph : ReadPhase) (s : State) : (setReader ph s).trig = s.trig := rfl
@[simp] theorem setReader_rw (ph : ReadPhase) (s : State) : (setReader ph s).rw = s.rw := rfl
@[simp] theorem setReader_ctrl (ph : ReadPhase) (s : State) : (setReader ph s).ctrl = s.ctrl := rfl
@[simp] theorem setReader_mem (ph : ReadPhase) (s : State) : (setReader ph s).mem = s.mem := rfl
@[simp] theorem setReader_pending (ph : ReadPhase) (s : State) : (setReader ph s).pending = s.pending := rfl

/-! restartSummary -/

@[simp] theorem restartSummary_clock (s : State) : (restartSummary s).clock = s.clock := rfl
@[simp] theorem restartSummary_run (s : State) : (restartSummary s).run = s.run := rfl
@[simp] theorem restartSummary_regs (s : State) : (restartSummary s).regs = s.regs := rfl
@[simp] theorem restartSummary_pins (s : State) : (restartSummary s).pins = s.pins := rfl
@[simp] theorem restartSummary_site (s : State) : (restartSummary s).site = s.site := rfl
@[simp] theorem restartSummary_loops (s : State) : (restartSummary s).loops = s.loops := rfl
@[simp] theorem restartSummary_link (s : State) : (restartSummary s).link = s.link := rfl
@[simp] theorem restartSummary_det (s : State) : (restartSummary s).det = s.det := rfl
@[simp] theorem restartSummary_history (s : State) : (restartSummary s).history = s.history := rfl
@[simp] theorem restartSummary_cap (s : State) : (restartSummary s).cap = s.cap := rfl
@[simp] theorem restartSummary_axle (s : State) : (restartSummary s).axle = s.axle := rfl
@[simp] theorem restartSummary_veh (s : State) : (restartSummary s).veh = s.veh := rfl
@[simp] theorem restartSummary_cls (s : State) : (restartSummary s).cls = s.cls := rfl
@[simp] theorem restartSummary_cal (s : State) : (restartSummary s).cal = s.cal := rfl
@[simp] theorem restartSummary_trig (s : State) : (restartSummary s).trig = s.trig := rfl
@[simp] theorem restartSummary_rw (s : State) : (restartSummary s).rw = s.rw := rfl
@[simp] theorem restartSummary_ex (s : State) : (restartSummary s).ex = s.ex := rfl
@[simp] theorem restartSummary_ctrl (s : State) : (restartSummary s).ctrl = s.ctrl := rfl
@[simp] theorem restartSummary_mem (s : State) : (restartSummary s).mem = s.mem := rfl
@[simp] theorem restartSummary_pending (s : State) : (restartSummary s).pending = s.pending := rfl

/-! abandonRound -/

@[simp] theorem abandonRound_clock (s : State) : (abandonRound s).clock = s.clock := rfl
@[simp] theorem abandonRound_run (s : State) : (abandonRound s).run = s.run := rfl
@[simp] theorem abandonRound_regs (s : State) : (abandonRound s).regs = s.regs := rfl
@[simp] theorem abandonRound_pins (s : State) : (abandonRound s).pins = s.pins := rfl
@[simp] theorem abandonRound_site (s : State) : (abandonRound s).site = s.site := rfl
@[simp] theorem abandonRound_loops (s : State) : (abandonRound s).loops = s.loops := rfl
@[simp] theorem abandonRound_link (s : State) : (abandonRound s).link = s.link := rfl
@[simp] theorem abandonRound_det (s : State) : (abandonRound s).det = s.det := rfl
@[simp] theorem abandonRound_history (s : State) : (abandonRound s).history = s.history := rfl
@[simp] theorem abandonRound_cap (s : State) : (abandonRound s).cap = s.cap := rfl
@[simp] theorem abandonRound_axle (s : State) : (abandonRound s).axle = s.axle := rfl
@[simp] theorem abandonRound_veh (s : State) : (abandonRound s).veh = s.veh := rfl
@[simp] theorem abandonRound_cls (s : State) : (abandonRound s).cls = s.cls := rfl
@[simp] theorem abandonRound_cal (s : State) : (abandonRound s).cal = s.cal := rfl
@[simp] theorem abandonRound_trig (s : State) : (abandonRound s).trig = s.trig := rfl
@[simp] theorem abandonRound_rw (s : State) : (abandonRound s).rw = s.rw := rfl
@[simp] theorem abandonRound_ex (s : State) : (abandonRound s).ex = s.ex := rfl
@[simp] theorem abandonRound_ctrl (s : State) : (abandonRound s).ctrl = s.ctrl := rfl
@[simp] theorem abandonRound_mem (s : State) : (abandonRound s).mem = s.mem := rfl
@[simp] theorem abandonRound_pending (s : State) : (abandonRound s).pending = s.pending := rfl

/-! closeResultPage -/

@[simp] theorem closeResultPage_clock (f : BitVec 6) (s : State) : (closeResultPage f s).clock = s.clock := rfl
@[simp] theorem closeResultPage_run (f : BitVec 6) (s : State) : (closeResultPage f s).run = s.run := rfl
@[simp] theorem closeResultPage_regs (f : BitVec 6) (s : State) : (closeResultPage f s).regs = s.regs := rfl
@[simp] theorem closeResultPage_pins (f : BitVec 6) (s : State) : (closeResultPage f s).pins = s.pins := rfl
@[simp] theorem closeResultPage_site (f : BitVec 6) (s : State) : (closeResultPage f s).site = s.site := rfl
@[simp] theorem closeResultPage_loops (f : BitVec 6) (s : State) : (closeResultPage f s).loops = s.loops := rfl
@[simp] theorem closeResultPage_link (f : BitVec 6) (s : State) : (closeResultPage f s).link = s.link := rfl
@[simp] theorem closeResultPage_det (f : BitVec 6) (s : State) : (closeResultPage f s).det = s.det := rfl
@[simp] theorem closeResultPage_history (f : BitVec 6) (s : State) : (closeResultPage f s).history = s.history := rfl
@[simp] theorem closeResultPage_cap (f : BitVec 6) (s : State) : (closeResultPage f s).cap = s.cap := rfl
@[simp] theorem closeResultPage_axle (f : BitVec 6) (s : State) : (closeResultPage f s).axle = s.axle := rfl
@[simp] theorem closeResultPage_temp (f : BitVec 6) (s : State) : (closeResultPage f s).temp = s.temp := rfl
@[simp] theorem closeResultPage_veh (f : BitVec 6) (s : State) : (closeResultPage f s).veh = s.veh := rfl
@[simp] theorem closeResultPage_cls (f : BitVec 6) (s : State) : (closeResultPage f s).cls = s.cls := rfl
@[simp] theorem closeResultPage_cal (f : BitVec 6) (s : State) : (closeResultPage f s).cal = s.cal := rfl
@[simp] theorem closeResultPage_trig (f : BitVec 6) (s : State) : (closeResultPage f s).trig = s.trig := rfl
@[simp] theorem closeResultPage_ex (f : BitVec 6) (s : State) : (closeResultPage f s).ex = s.ex := rfl
@[simp] theorem closeResultPage_ctrl (f : BitVec 6) (s : State) : (closeResultPage f s).ctrl = s.ctrl := rfl
@[simp] theorem closeResultPage_mem (f : BitVec 6) (s : State) : (closeResultPage f s).mem = s.mem := rfl
@[simp] theorem closeResultPage_pending (f : BitVec 6) (s : State) : (closeResultPage f s).pending = s.pending := rfl

/-! setHits -/

@[simp] theorem setHits_clock (r : Row) (hs : List Hit) (s : State) : (setHits r hs s).clock = s.clock := rfl
@[simp] theorem setHits_run (r : Row) (hs : List Hit) (s : State) : (setHits r hs s).run = s.run := rfl
@[simp] theorem setHits_regs (r : Row) (hs : List Hit) (s : State) : (setHits r hs s).regs = s.regs := rfl
@[simp] theorem setHits_pins (r : Row) (hs : List Hit) (s : State) : (setHits r hs s).pins = s.pins := rfl
@[simp] theorem setHits_site (r : Row) (hs : List Hit) (s : State) : (setHits r hs s).site = s.site := rfl
@[simp] theorem setHits_loops (r : Row) (hs : List Hit) (s : State) : (setHits r hs s).loops = s.loops := rfl
@[simp] theorem setHits_link (r : Row) (hs : List Hit) (s : State) : (setHits r hs s).link = s.link := rfl
@[simp] theorem setHits_history (r : Row) (hs : List Hit) (s : State) : (setHits r hs s).history = s.history := rfl
@[simp] theorem setHits_cap (r : Row) (hs : List Hit) (s : State) : (setHits r hs s).cap = s.cap := rfl
@[simp] theorem setHits_axle (r : Row) (hs : List Hit) (s : State) : (setHits r hs s).axle = s.axle := rfl
@[simp] theorem setHits_temp (r : Row) (hs : List Hit) (s : State) : (setHits r hs s).temp = s.temp := rfl
@[simp] theorem setHits_veh (r : Row) (hs : List Hit) (s : State) : (setHits r hs s).veh = s.veh := rfl
@[simp] theorem setHits_cls (r : Row) (hs : List Hit) (s : State) : (setHits r hs s).cls = s.cls := rfl
@[simp] theorem setHits_cal (r : Row) (hs : List Hit) (s : State) : (setHits r hs s).cal = s.cal := rfl
@[simp] theorem setHits_trig (r : Row) (hs : List Hit) (s : State) : (setHits r hs s).trig = s.trig := rfl
@[simp] theorem setHits_rw (r : Row) (hs : List Hit) (s : State) : (setHits r hs s).rw = s.rw := rfl
@[simp] theorem setHits_ex (r : Row) (hs : List Hit) (s : State) : (setHits r hs s).ex = s.ex := rfl
@[simp] theorem setHits_ctrl (r : Row) (hs : List Hit) (s : State) : (setHits r hs s).ctrl = s.ctrl := rfl
@[simp] theorem setHits_mem (r : Row) (hs : List Hit) (s : State) : (setHits r hs s).mem = s.mem := rfl
@[simp] theorem setHits_pending (r : Row) (hs : List Hit) (s : State) : (setHits r hs s).pending = s.pending := rfl

/-! releaseWaiting -/

@[simp] theorem releaseWaiting_clock (c : Context) (s : State) : (releaseWaiting c s).clock = s.clock := rfl
@[simp] theorem releaseWaiting_run (c : Context) (s : State) : (releaseWaiting c s).run = s.run := rfl
@[simp] theorem releaseWaiting_regs (c : Context) (s : State) : (releaseWaiting c s).regs = s.regs := rfl
@[simp] theorem releaseWaiting_pins (c : Context) (s : State) : (releaseWaiting c s).pins = s.pins := rfl
@[simp] theorem releaseWaiting_site (c : Context) (s : State) : (releaseWaiting c s).site = s.site := rfl
@[simp] theorem releaseWaiting_loops (c : Context) (s : State) : (releaseWaiting c s).loops = s.loops := rfl
@[simp] theorem releaseWaiting_link (c : Context) (s : State) : (releaseWaiting c s).link = s.link := rfl
@[simp] theorem releaseWaiting_det (c : Context) (s : State) : (releaseWaiting c s).det = s.det := rfl
@[simp] theorem releaseWaiting_history (c : Context) (s : State) : (releaseWaiting c s).history = s.history := rfl
@[simp] theorem releaseWaiting_cap (c : Context) (s : State) : (releaseWaiting c s).cap = s.cap := rfl
@[simp] theorem releaseWaiting_temp (c : Context) (s : State) : (releaseWaiting c s).temp = s.temp := rfl
@[simp] theorem releaseWaiting_veh (c : Context) (s : State) : (releaseWaiting c s).veh = s.veh := rfl
@[simp] theorem releaseWaiting_cls (c : Context) (s : State) : (releaseWaiting c s).cls = s.cls := rfl
@[simp] theorem releaseWaiting_cal (c : Context) (s : State) : (releaseWaiting c s).cal = s.cal := rfl
@[simp] theorem releaseWaiting_trig (c : Context) (s : State) : (releaseWaiting c s).trig = s.trig := rfl
@[simp] theorem releaseWaiting_rw (c : Context) (s : State) : (releaseWaiting c s).rw = s.rw := rfl
@[simp] theorem releaseWaiting_ex (c : Context) (s : State) : (releaseWaiting c s).ex = s.ex := rfl
@[simp] theorem releaseWaiting_ctrl (c : Context) (s : State) : (releaseWaiting c s).ctrl = s.ctrl := rfl
@[simp] theorem releaseWaiting_mem (c : Context) (s : State) : (releaseWaiting c s).mem = s.mem := rfl
@[simp] theorem releaseWaiting_pending (c : Context) (s : State) : (releaseWaiting c s).pending = s.pending := rfl

/-! State.answered -/

@[simp] theorem State.answered_clock (s : State) (t : OrderPage) (n : Nat) (a : OrderOutcome × Nat) : (s.answered t n a).clock = s.clock := rfl
@[simp] theorem State.answered_run (s : State) (t : OrderPage) (n : Nat) (a : OrderOutcome × Nat) : (s.answered t n a).run = s.run := rfl
@[simp] theorem State.answered_regs (s : State) (t : OrderPage) (n : Nat) (a : OrderOutcome × Nat) : (s.answered t n a).regs = s.regs := rfl
@[simp] theorem State.answered_pins (s : State) (t : OrderPage) (n : Nat) (a : OrderOutcome × Nat) : (s.answered t n a).pins = s.pins := rfl
@[simp] theorem State.answered_site (s : State) (t : OrderPage) (n : Nat) (a : OrderOutcome × Nat) : (s.answered t n a).site = s.site := rfl
@[simp] theorem State.answered_loops (s : State) (t : OrderPage) (n : Nat) (a : OrderOutcome × Nat) : (s.answered t n a).loops = s.loops := rfl
@[simp] theorem State.answered_link (s : State) (t : OrderPage) (n : Nat) (a : OrderOutcome × Nat) : (s.answered t n a).link = s.link := rfl
@[simp] theorem State.answered_det (s : State) (t : OrderPage) (n : Nat) (a : OrderOutcome × Nat) : (s.answered t n a).det = s.det := rfl
@[simp] theorem State.answered_history (s : State) (t : OrderPage) (n : Nat) (a : OrderOutcome × Nat) : (s.answered t n a).history = s.history := rfl
@[simp] theorem State.answered_cap (s : State) (t : OrderPage) (n : Nat) (a : OrderOutcome × Nat) : (s.answered t n a).cap = s.cap := rfl
@[simp] theorem State.answered_axle (s : State) (t : OrderPage) (n : Nat) (a : OrderOutcome × Nat) : (s.answered t n a).axle = s.axle := rfl
@[simp] theorem State.answered_temp (s : State) (t : OrderPage) (n : Nat) (a : OrderOutcome × Nat) : (s.answered t n a).temp = s.temp := rfl
@[simp] theorem State.answered_veh (s : State) (t : OrderPage) (n : Nat) (a : OrderOutcome × Nat) : (s.answered t n a).veh = s.veh := rfl
@[simp] theorem State.answered_cls (s : State) (t : OrderPage) (n : Nat) (a : OrderOutcome × Nat) : (s.answered t n a).cls = s.cls := rfl
@[simp] theorem State.answered_cal (s : State) (t : OrderPage) (n : Nat) (a : OrderOutcome × Nat) : (s.answered t n a).cal = s.cal := rfl
@[simp] theorem State.answered_trig (s : State) (t : OrderPage) (n : Nat) (a : OrderOutcome × Nat) : (s.answered t n a).trig = s.trig := rfl
@[simp] theorem State.answered_rw (s : State) (t : OrderPage) (n : Nat) (a : OrderOutcome × Nat) : (s.answered t n a).rw = s.rw := rfl
@[simp] theorem State.answered_ctrl (s : State) (t : OrderPage) (n : Nat) (a : OrderOutcome × Nat) : (s.answered t n a).ctrl = s.ctrl := rfl
@[simp] theorem State.answered_mem (s : State) (t : OrderPage) (n : Nat) (a : OrderOutcome × Nat) : (s.answered t n a).mem = s.mem := rfl
@[simp] theorem State.answered_pending (s : State) (t : OrderPage) (n : Nat) (a : OrderOutcome × Nat) : (s.answered t n a).pending = s.pending := rfl
@[simp] theorem State.answered_ex_table (s : State) (t : OrderPage) (n : Nat) (a : OrderOutcome × Nat) : (s.answered t n a).ex.table = s.ex.table := rfl
@[simp] theorem State.answered_ex_resultList (s : State) (t : OrderPage) (n : Nat) (a : OrderOutcome × Nat) : (s.answered t n a).ex.resultList = s.ex.resultList := rfl
@[simp] theorem State.answered_ex_traceList (s : State) (t : OrderPage) (n : Nat) (a : OrderOutcome × Nat) : (s.answered t n a).ex.traceList = s.ex.traceList := rfl
@[simp] theorem State.answered_ex_orderList (s : State) (t : OrderPage) (n : Nat) (a : OrderOutcome × Nat) : (s.answered t n a).ex.orderList = s.ex.orderList := rfl
@[simp] theorem State.answered_ex_handovers (s : State) (t : OrderPage) (n : Nat) (a : OrderOutcome × Nat) : (s.answered t n a).ex.handovers = s.ex.handovers := rfl
@[simp] theorem State.answered_ex_work (s : State) (t : OrderPage) (n : Nat) (a : OrderOutcome × Nat) : (s.answered t n a).ex.work = s.ex.work := rfl
@[simp] theorem State.answered_ex_sweepAt (s : State) (t : OrderPage) (n : Nat) (a : OrderOutcome × Nat) : (s.answered t n a).ex.sweepAt = s.ex.sweepAt := rfl
@[simp] theorem State.answered_ex_sweepTimer (s : State) (t : OrderPage) (n : Nat) (a : OrderOutcome × Nat) : (s.answered t n a).ex.sweepTimer = s.ex.sweepTimer := rfl
@[simp] theorem State.answered_ex_resuming (s : State) (t : OrderPage) (n : Nat) (a : OrderOutcome × Nat) : (s.answered t n a).ex.resuming = s.ex.resuming := rfl
@[simp] theorem State.answered_ex_grant (s : State) (t : OrderPage) (n : Nat) (a : OrderOutcome × Nat) : (s.answered t n a).ex.grant = s.ex.grant := rfl
@[simp] theorem State.answered_ex_closures (s : State) (t : OrderPage) (n : Nat) (a : OrderOutcome × Nat) : (s.answered t n a).ex.closures = s.ex.closures := rfl
@[simp] theorem State.answered_ex_stray (s : State) (t : OrderPage) (n : Nat) (a : OrderOutcome × Nat) : (s.answered t n a).ex.stray = s.ex.stray := rfl
@[simp] theorem State.answered_ex_sweepMs (s : State) (t : OrderPage) (n : Nat) (a : OrderOutcome × Nat) : (s.answered t n a).ex.sweepMs = s.ex.sweepMs := rfl
@[simp] theorem State.answered_ex_flushMs (s : State) (t : OrderPage) (n : Nat) (a : OrderOutcome × Nat) : (s.answered t n a).ex.flushMs = s.ex.flushMs := rfl

/-! State.reading -/

@[simp] theorem State.reading_clock (s : State) (t : OrderPage) (ph : ReadPhase) : (s.reading t ph).clock = s.clock := rfl
@[simp] theorem State.reading_run (s : State) (t : OrderPage) (ph : ReadPhase) : (s.reading t ph).run = s.run := rfl
@[simp] theorem State.reading_regs (s : State) (t : OrderPage) (ph : ReadPhase) : (s.reading t ph).regs = s.regs := rfl
@[simp] theorem State.reading_pins (s : State) (t : OrderPage) (ph : ReadPhase) : (s.reading t ph).pins = s.pins := rfl
@[simp] theorem State.reading_site (s : State) (t : OrderPage) (ph : ReadPhase) : (s.reading t ph).site = s.site := rfl
@[simp] theorem State.reading_loops (s : State) (t : OrderPage) (ph : ReadPhase) : (s.reading t ph).loops = s.loops := rfl
@[simp] theorem State.reading_link (s : State) (t : OrderPage) (ph : ReadPhase) : (s.reading t ph).link = s.link := rfl
@[simp] theorem State.reading_det (s : State) (t : OrderPage) (ph : ReadPhase) : (s.reading t ph).det = s.det := rfl
@[simp] theorem State.reading_history (s : State) (t : OrderPage) (ph : ReadPhase) : (s.reading t ph).history = s.history := rfl
@[simp] theorem State.reading_cap (s : State) (t : OrderPage) (ph : ReadPhase) : (s.reading t ph).cap = s.cap := rfl
@[simp] theorem State.reading_axle (s : State) (t : OrderPage) (ph : ReadPhase) : (s.reading t ph).axle = s.axle := rfl
@[simp] theorem State.reading_temp (s : State) (t : OrderPage) (ph : ReadPhase) : (s.reading t ph).temp = s.temp := rfl
@[simp] theorem State.reading_veh (s : State) (t : OrderPage) (ph : ReadPhase) : (s.reading t ph).veh = s.veh := rfl
@[simp] theorem State.reading_cls (s : State) (t : OrderPage) (ph : ReadPhase) : (s.reading t ph).cls = s.cls := rfl
@[simp] theorem State.reading_cal (s : State) (t : OrderPage) (ph : ReadPhase) : (s.reading t ph).cal = s.cal := rfl
@[simp] theorem State.reading_trig (s : State) (t : OrderPage) (ph : ReadPhase) : (s.reading t ph).trig = s.trig := rfl
@[simp] theorem State.reading_rw (s : State) (t : OrderPage) (ph : ReadPhase) : (s.reading t ph).rw = s.rw := rfl
@[simp] theorem State.reading_ctrl (s : State) (t : OrderPage) (ph : ReadPhase) : (s.reading t ph).ctrl = s.ctrl := rfl
@[simp] theorem State.reading_mem (s : State) (t : OrderPage) (ph : ReadPhase) : (s.reading t ph).mem = s.mem := rfl
@[simp] theorem State.reading_pending (s : State) (t : OrderPage) (ph : ReadPhase) : (s.reading t ph).pending = s.pending := rfl
@[simp] theorem State.reading_ex_table (s : State) (t : OrderPage) (ph : ReadPhase) : (s.reading t ph).ex.table = s.ex.table := rfl
@[simp] theorem State.reading_ex_resultList (s : State) (t : OrderPage) (ph : ReadPhase) : (s.reading t ph).ex.resultList = s.ex.resultList := rfl
@[simp] theorem State.reading_ex_traceList (s : State) (t : OrderPage) (ph : ReadPhase) : (s.reading t ph).ex.traceList = s.ex.traceList := rfl
@[simp] theorem State.reading_ex_orderList (s : State) (t : OrderPage) (ph : ReadPhase) : (s.reading t ph).ex.orderList = s.ex.orderList := rfl
@[simp] theorem State.reading_ex_handovers (s : State) (t : OrderPage) (ph : ReadPhase) : (s.reading t ph).ex.handovers = s.ex.handovers := rfl
@[simp] theorem State.reading_ex_work (s : State) (t : OrderPage) (ph : ReadPhase) : (s.reading t ph).ex.work = s.ex.work := rfl
@[simp] theorem State.reading_ex_sweepAt (s : State) (t : OrderPage) (ph : ReadPhase) : (s.reading t ph).ex.sweepAt = s.ex.sweepAt := rfl
@[simp] theorem State.reading_ex_sweepTimer (s : State) (t : OrderPage) (ph : ReadPhase) : (s.reading t ph).ex.sweepTimer = s.ex.sweepTimer := rfl
@[simp] theorem State.reading_ex_resuming (s : State) (t : OrderPage) (ph : ReadPhase) : (s.reading t ph).ex.resuming = s.ex.resuming := rfl
@[simp] theorem State.reading_ex_grant (s : State) (t : OrderPage) (ph : ReadPhase) : (s.reading t ph).ex.grant = s.ex.grant := rfl
@[simp] theorem State.reading_ex_closures (s : State) (t : OrderPage) (ph : ReadPhase) : (s.reading t ph).ex.closures = s.ex.closures := rfl
@[simp] theorem State.reading_ex_stray (s : State) (t : OrderPage) (ph : ReadPhase) : (s.reading t ph).ex.stray = s.ex.stray := rfl
@[simp] theorem State.reading_ex_sweepMs (s : State) (t : OrderPage) (ph : ReadPhase) : (s.reading t ph).ex.sweepMs = s.ex.sweepMs := rfl
@[simp] theorem State.reading_ex_flushMs (s : State) (t : OrderPage) (ph : ReadPhase) : (s.reading t ph).ex.flushMs = s.ex.flushMs := rfl

/-! What the updates put in place -/

@[simp] theorem stopMeasuring_chans (s : State) (c : Chan) : (stopMeasuring s).det.chans.get c = .off := by
  exact Tab.get_fill _ _
@[simp] theorem stopMeasuring_hits (s : State) : (stopMeasuring s).det.hits = { a := [], b := [] } := rfl
@[simp] theorem emptyRowLists_rowA (s : State) : (emptyRowLists s).axle.rowA = [] := rfl
@[simp] theorem State.answered_taken (s : State) (t : OrderPage) (n : Nat) (a : OrderOutcome × Nat) :
    (s.answered t n a).ex.taken = some { t with phase := .outcome n a.1 a.2 false } := rfl
@[simp] theorem State.reading_taken (s : State) (t : OrderPage) (ph : ReadPhase) :
    (s.reading t ph).ex.taken = some { t with phase := ph } := rfl

/-- The context put in a slot is the one that stands there. -/
@[simp] theorem setContext_context_same (l : Lane) (k : Slot) (c : Option Context) (s : State) :
    (setContext l k c s).context l k = c := by
  cases k <;> simp [setContext, State.context, LaneSlots.get, LaneSlots.set]

/-- The other slots keep theirs. -/
theorem setContext_context_ne (l m : Lane) (k j : Slot) (c : Option Context) (s : State) (h : m ≠ l ∨ j ≠ k) :
    (setContext l k c s).context m j = s.context m j := by
  by_cases hm : m = l
  · subst hm
    cases k <;> cases j <;> simp_all [setContext, State.context, LaneSlots.get, LaneSlots.set]
  · have hm' : l ≠ m := fun e => hm e.symm
    simp [setContext, State.context, hm']

/-- The cell put in place is the one read there. -/
@[simp] theorem setCell_get_same (l : Lane) (b : Fin 8) (c : Cell) (s : State) :
    ((setCell l b c s).cal.cells.get l).get b = c := by
  simp [setCell]

/-- The other cells keep theirs. -/
theorem setCell_get_ne (l m : Lane) (b d : Fin 8) (c : Cell) (s : State) (h : m ≠ l ∨ d ≠ b) :
    ((setCell l b c s).cal.cells.get m).get d = (s.cal.cells.get m).get d := by
  by_cases hm : m = l
  · subst hm
    have hd : b ≠ d := fun e => by simp_all
    simp [setCell, hd]
  · have hm' : l ≠ m := fun e => hm e.symm
    simp [setCell, hm']

/-! breakCapture, updateRow, closeForRestart -/

/-- Clearing BUS_FAULT marks the capture in progress and touches nothing else (R38, R164). -/
theorem breakCapture_frame (s : State) : breakCapture s = { s with cap := (breakCapture s).cap } := by
  unfold breakCapture
  split <;> rfl

@[simp] theorem breakCapture_clock (s : State) : (breakCapture s).clock = s.clock := by
  rw [breakCapture_frame]
@[simp] theorem breakCapture_run (s : State) : (breakCapture s).run = s.run := by
  rw [breakCapture_frame]
@[simp] theorem breakCapture_regs (s : State) : (breakCapture s).regs = s.regs := by
  rw [breakCapture_frame]
@[simp] theorem breakCapture_pins (s : State) : (breakCapture s).pins = s.pins := by
  rw [breakCapture_frame]
@[simp] theorem breakCapture_history (s : State) : (breakCapture s).history = s.history := by
  rw [breakCapture_frame]
@[simp] theorem breakCapture_temp (s : State) : (breakCapture s).temp = s.temp := by
  rw [breakCapture_frame]
@[simp] theorem breakCapture_veh (s : State) : (breakCapture s).veh = s.veh := by
  rw [breakCapture_frame]
@[simp] theorem breakCapture_trig (s : State) : (breakCapture s).trig = s.trig := by
  rw [breakCapture_frame]
@[simp] theorem breakCapture_rw (s : State) : (breakCapture s).rw = s.rw := by
  rw [breakCapture_frame]
@[simp] theorem breakCapture_ex (s : State) : (breakCapture s).ex = s.ex := by
  rw [breakCapture_frame]
@[simp] theorem breakCapture_ctrl (s : State) : (breakCapture s).ctrl = s.ctrl := by
  rw [breakCapture_frame]
@[simp] theorem breakCapture_mem (s : State) : (breakCapture s).mem = s.mem := by
  rw [breakCapture_frame]
@[simp] theorem breakCapture_pending (s : State) : (breakCapture s).pending = s.pending := by
  rw [breakCapture_frame]

/-- A row update touches the sets' tracking and the waiting events, and nothing else (R129, R132). -/
theorem updateRow_frame (row : Row) (temp : RowTemp) (s : State) :
    updateRow row temp s
      = { s with trig.sets := s.trig.sets.map (TriggerSet.track row temp), trig.waiting := (updateRow row temp s).trig.waiting } := by
  unfold updateRow handEvent
  split <;> rfl

@[simp] theorem updateRow_sets (row : Row) (temp : RowTemp) (s : State) (n : SetId) :
    (updateRow row temp s).trig.sets.get n = (s.trig.sets.get n).track row temp := by
  rw [updateRow_frame]
  exact Tab.get_map ..
@[simp] theorem updateRow_run (row : Row) (temp : RowTemp) (s : State) : (updateRow row temp s).run = s.run := by
  rw [updateRow_frame]
@[simp] theorem updateRow_regs (row : Row) (temp : RowTemp) (s : State) : (updateRow row temp s).regs = s.regs := by
  rw [updateRow_frame]
@[simp] theorem updateRow_temp (row : Row) (temp : RowTemp) (s : State) : (updateRow row temp s).temp = s.temp := by
  rw [updateRow_frame]
@[simp] theorem updateRow_rw (row : Row) (temp : RowTemp) (s : State) : (updateRow row temp s).rw = s.rw := by
  rw [updateRow_frame]
@[simp] theorem updateRow_ex (row : Row) (temp : RowTemp) (s : State) : (updateRow row temp s).ex = s.ex := by
  rw [updateRow_frame]
@[simp] theorem updateRow_ctrl (row : Row) (temp : RowTemp) (s : State) : (updateRow row temp s).ctrl = s.ctrl := by
  rw [updateRow_frame]
@[simp] theorem updateRow_mem (row : Row) (temp : RowTemp) (s : State) : (updateRow row temp s).mem = s.mem := by
  rw [updateRow_frame]
@[simp] theorem updateRow_pending (row : Row) (temp : RowTemp) (s : State) : (updateRow row temp s).pending = s.pending := by
  rw [updateRow_frame]

/-- The close of a soft restart is the close asked for, with NO_PAGE besides (R166, log 7). -/
theorem closeForRestart_frame (s : State) :
    closeForRestart s = { closeResultPage dirRestart s with regs.noPage := (closeForRestart s).regs.noPage } := rfl

/-! withdrawEdge -/

@[simp] theorem withdrawEdge_clock (l : Line) (v : Bool) (s : State) : (withdrawEdge l v s).clock = s.clock := rfl
@[simp] theorem withdrawEdge_run (l : Line) (v : Bool) (s : State) : (withdrawEdge l v s).run = s.run := rfl
@[simp] theorem withdrawEdge_regs (l : Line) (v : Bool) (s : State) : (withdrawEdge l v s).regs = s.regs := rfl
@[simp] theorem withdrawEdge_pins (l : Line) (v : Bool) (s : State) : (withdrawEdge l v s).pins = s.pins := rfl
@[simp] theorem withdrawEdge_site (l : Line) (v : Bool) (s : State) : (withdrawEdge l v s).site = s.site := rfl
@[simp] theorem withdrawEdge_loops (l : Line) (v : Bool) (s : State) : (withdrawEdge l v s).loops = s.loops := rfl
@[simp] theorem withdrawEdge_link (l : Line) (v : Bool) (s : State) : (withdrawEdge l v s).link = s.link := rfl
@[simp] theorem withdrawEdge_det (l : Line) (v : Bool) (s : State) : (withdrawEdge l v s).det = s.det := rfl
@[simp] theorem withdrawEdge_history (l : Line) (v : Bool) (s : State) : (withdrawEdge l v s).history = s.history := rfl
@[simp] theorem withdrawEdge_cap (l : Line) (v : Bool) (s : State) : (withdrawEdge l v s).cap = s.cap := rfl
@[simp] theorem withdrawEdge_axle (l : Line) (v : Bool) (s : State) : (withdrawEdge l v s).axle = s.axle := rfl
@[simp] theorem withdrawEdge_temp (l : Line) (v : Bool) (s : State) : (withdrawEdge l v s).temp = s.temp := rfl
@[simp] theorem withdrawEdge_veh (l : Line) (v : Bool) (s : State) : (withdrawEdge l v s).veh = s.veh := rfl
@[simp] theorem withdrawEdge_cls (l : Line) (v : Bool) (s : State) : (withdrawEdge l v s).cls = s.cls := rfl
@[simp] theorem withdrawEdge_cal (l : Line) (v : Bool) (s : State) : (withdrawEdge l v s).cal = s.cal := rfl
@[simp] theorem withdrawEdge_rw (l : Line) (v : Bool) (s : State) : (withdrawEdge l v s).rw = s.rw := rfl
@[simp] theorem withdrawEdge_ex (l : Line) (v : Bool) (s : State) : (withdrawEdge l v s).ex = s.ex := rfl
@[simp] theorem withdrawEdge_ctrl (l : Line) (v : Bool) (s : State) : (withdrawEdge l v s).ctrl = s.ctrl := rfl
@[simp] theorem withdrawEdge_mem (l : Line) (v : Bool) (s : State) : (withdrawEdge l v s).mem = s.mem := rfl
@[simp] theorem withdrawEdge_pending (l : Line) (v : Bool) (s : State) : (withdrawEdge l v s).pending = s.pending := rfl
@[simp] theorem withdrawEdge_sets (l : Line) (v : Bool) (s : State) : (withdrawEdge l v s).trig.sets = s.trig.sets := rfl

/-- Without an edge of the line nothing is withdrawn. -/
theorem withoutEdge_none {l : Line} {es : List TrigEvent} (h : es.any (TrigEvent.edgeOn l) = false) : withoutEdge l es = es := by
  induction es with
  | nil => rfl
  | cons e rest ih =>
    rw [List.any_cons, Bool.or_eq_false_iff] at h
    simp [withoutEdge, h.1, ih h.2]

/-- The newest edge of the line is the one withdrawn. -/
theorem withoutEdge_newest {l : Line} {e : TrigEvent} (he : e.edgeOn l = true) {post : List TrigEvent}
    (h : post.any (TrigEvent.edgeOn l) = false) (pre : List TrigEvent) : withoutEdge l (pre ++ e :: post) = pre ++ post := by
  induction pre with
  | nil => simp [withoutEdge, he, h]
  | cons d rest ih =>
    have : (rest ++ e :: post).any (TrigEvent.edgeOn l) = true := by simp [he]
    rw [List.cons_append, withoutEdge, this, ih]
    simp

/-- An edge may still be withdrawn when its line has given an edge at the present tick and no newer one waits. -/
theorem edgeOpen_newest {s : State} {l : Line} {rising : Bool} {tick : Nat} {pre post : List TrigEvent}
    (hs : s.trig.waiting = pre ++ .fieldEdge l rising tick :: post) (h : post.any (TrigEvent.edgeOn l) = false) :
    s.edgeOpen pre.length = s.trig.edgeTaken.get l := by
  unfold State.edgeOpen
  rw [hs]
  simp [List.drop_append, List.drop_of_length_le, h]

/-- An event that is no edge of the present tick is not withdrawn. -/
theorem edgeOpen_other {s : State} {k : Nat} {e : TrigEvent} (he : s.trig.waiting[k]? = some e)
    (h : ∀ l rising tick, e = .fieldEdge l rising tick → s.trig.edgeTaken.get l = false) : s.edgeOpen k = false := by
  unfold State.edgeOpen
  rw [he]
  cases e <;> simp_all

end Sys2Proof.Machine
end

