-- ==== Sys2Proof/Laws/Close.lean ====
section
/-!
SUPPORT. What the close of a context can touch outside a drain: vehicles, the row-A list, the drift table, and what a
cascade touches (R97, R106, R107).
-/

namespace Sys2Proof.Machine

/-- `t` differs from `s` at most in the vehicles, the row-A list, the drift cells and rejected count, the Trigger Unit,
the capture unit, the Record Writer and NO_PAGE. -/
def CloseFrame (s t : State) : Prop :=
  t = { s with
        veh := t.veh, axle.rowA := t.axle.rowA, cal.cells := t.cal.cells, cal.rejected := t.cal.rejected, trig := t.trig,
        cap := t.cap, rw := t.rw, regs.noPage := t.regs.noPage }

theorem CloseFrame.refl (s : State) : CloseFrame s s := rfl

theorem CloseFrame.trans {s t u : State} (h : CloseFrame s t) (k : CloseFrame t u) : CloseFrame s u := by
  unfold CloseFrame at *
  rw [k, h]

theorem FiringFrame.close {s t : State} (h : FiringFrame s t) : CloseFrame s t := by
  unfold FiringFrame at h
  rw [h]
  rfl

/-- An update of a drift cell. -/
theorem driftUpdate_close (l : Lane) (b : Fin 8) (c : Cell) (s : State) : CloseFrame s (driftUpdate l b c s) := by
  unfold driftUpdate
  dsimp only
  split
  · refine CloseFrame.trans (t := setCell l b _ s) ?_ ((createRecord_firing .other _ _).trans (runCascade_firing _ _)).close
    rfl
  · refine CloseFrame.trans (t := setCell l b _ s) ?_ (createRecord_firing .other _ _).close
    rfl

/-- The taking of a reference offer. -/
theorem takeOffer_close (o : Offer) (s : State) : CloseFrame s (takeOffer o s) := by
  unfold takeOffer
  split
  · dsimp only
    split
    · split
      · exact driftUpdate_close ..
      · rfl
    · rfl
  · rfl

/-- Stage 8 of a close. -/
theorem offerStage_close (v : ClosedVehicle) (e : Option ClassEntry) (s : State) : CloseFrame s (offerStage v e s) := by
  unfold offerStage
  split
  · split
    · exact takeOffer_close ..
    · rfl
  · rfl

/-- Stages 9 and 10 of a close. -/
theorem recordStage_close (v : ClosedVehicle) (s : State) : CloseFrame s (recordStage v s) := by
  have counted (u : State) (n m : Nat) : CloseFrame u { u with veh.vehicles := n, veh.axles := m } := rfl
  unfold recordStage
  dsimp only
  exact ((runCascade_firing _ s).trans (createRecord_firing .vehicle _ _)).close.trans (counted _ _ _)

/-- Every stage of a close. -/
theorem closeStages_close (l : Lane) (c : Context) (x : CloseCause) (s : State) : CloseFrame s (closeStages l c x s) := by
  unfold closeStages
  refine CloseFrame.trans (t := releaseWaiting c s) rfl ?_
  exact (offerStage_close ..).trans (recordStage_close ..)

/-- Outside a drain, the close of a context. -/
theorem closeContext_close (l : Lane) (k : Slot) (x : CloseCause) (s : State) (h : s.run ≠ .draining) :
    CloseFrame s (closeContext l k x s) := by
  have told (n : Nat) (u : State) : CloseFrame u (captureClosed n u) := by
    unfold captureClosed
    repeat' first | rfl | split
  have emptied (u : State) : CloseFrame u (setContext l k none u) := rfl
  unfold closeContext
  split
  · rfl
  · rename_i c _
    have hs : CloseFrame s (if c.axles.isEmpty then s else closeStages l c x s) := by
      split
      · rfl
      · exact closeStages_close ..
    have hall := (hs.trans (emptied _)).trans (told c.serial _)
    have hrun : (captureClosed c.serial (setContext l k none (if c.axles.isEmpty then s else closeStages l c x s))).run = s.run := by
      rw [hall]
    unfold testDrain
    rw [if_neg (fun e => h (hrun.symm.trans e.1))]
    exact hall

end Sys2Proof.Machine
end

