-- ==== Sys2Proof/Laws/Memory.lean ====
section
/-!
SUPPORT. Board memory: every operation keeps the canonical form; a read after a write.
-/

namespace Sys2Proof.Machine

/-- The canonical form of a list and its tail. -/
theorem Memory.wf_cons (c : Host.Cell) (m : List Host.Cell) :
    Memory.wf (c :: m) = true ↔ c.2 ≠ 0 ∧ (∀ d ∈ m, c.1 < d.1) ∧ Memory.wf m = true := by
  induction m generalizing c with
  | nil => simp [Memory.wf]
  | cons d rest ih =>
    rw [Memory.wf, Bool.and_eq_true, Bool.and_eq_true, decide_eq_true_eq, bne_iff_ne]
    constructor
    · rintro ⟨h1, h2, h3⟩
      refine ⟨h2, ?_, h3⟩
      intro e he
      rcases List.mem_cons.mp he with rfl | he
      · exact h1
      · exact h1.trans (((ih d).mp h3).2.1 e he)
    · rintro ⟨h1, h2, h3⟩
      exact ⟨h2 d (by simp), h1, h3⟩

/-- What a write can list. -/
theorem Memory.mem_write {m : List Host.Cell} {a : Nat} {v : Byte} {c : Host.Cell} (h : c ∈ Memory.write m a v) :
    c = (a, v) ∨ c ∈ m := by
  induction m with
  | nil =>
    simp only [Memory.write] at h
    split at h <;> simp_all
  | cons d rest ih =>
    simp only [Memory.write] at h
    split at h
    · split at h <;> simp_all
    · split at h
      · split at h
        · exact .inr (List.mem_cons_of_mem _ h)
        · rcases List.mem_cons.mp h with rfl | h
          · exact .inl rfl
          · exact .inr (List.mem_cons_of_mem _ h)
      · rcases List.mem_cons.mp h with rfl | h
        · exact .inr (by simp)
        · rcases ih h with rfl | h
          · exact .inl rfl
          · exact .inr (List.mem_cons_of_mem _ h)

/-- A write of a byte keeps the canonical form. -/
theorem Memory.wf_write (m : List Host.Cell) (a : Nat) (v : Byte) (h : Memory.wf m = true) :
    Memory.wf (Memory.write m a v) = true := by
  induction m with
  | nil =>
    simp only [Memory.write]
    split
    · rfl
    · rename_i hv
      simpa [Memory.wf, Memory.unlisted] using hv
  | cons c rest ih =>
    obtain ⟨h1, h2, h3⟩ := (Memory.wf_cons c rest).mp h
    simp only [Memory.write]
    split
    · rename_i hlt
      split
      · exact h
      · rename_i hv
        refine (Memory.wf_cons _ _).mpr ⟨hv, ?_, h⟩
        intro d hd
        rcases List.mem_cons.mp hd with rfl | hd
        · exact hlt
        · exact hlt.trans (h2 d hd)
    · split
      · rename_i heq
        split
        · exact h3
        · rename_i hv
          refine (Memory.wf_cons _ _).mpr ⟨hv, ?_, h3⟩
          intro d hd
          have := h2 d hd
          simp only [heq]
          exact this
      · rename_i hlt hne
        refine (Memory.wf_cons _ _).mpr ⟨h1, ?_, ih h3⟩
        intro d hd
        rcases Memory.mem_write hd with rfl | hd
        · show c.1 < a
          omega
        · exact h2 d hd

/-- A write of words keeps the canonical form. -/
theorem Memory.wf_writeWords (m : List Host.Cell) (a : Nat) (ws : List Word) (h : Memory.wf m = true) :
    Memory.wf (Memory.writeWords m a ws) = true := by
  induction ws generalizing m a with
  | nil => exact h
  | cons w rest ih => exact ih _ _ (Memory.wf_write _ _ _ (Memory.wf_write _ _ _ (Memory.wf_write _ _ _ (Memory.wf_write _ _ _ h))))

/-- A byte not listed reads as the unlisted value. -/
theorem Memory.read_of_lt (m : List Host.Cell) (a : Nat) (h : ∀ d ∈ m, a < d.1) : Memory.read m a = Memory.unlisted := by
  induction m with
  | nil => rfl
  | cons c rest ih =>
    have := h c (by simp)
    rw [Memory.read, if_neg (by omega)]
    exact ih fun d hd => h d (by simp [hd])

/-- A read after a write of a byte, in memory of canonical form. -/
theorem Memory.read_write (m : List Host.Cell) (a b : Nat) (v : Byte) (h : Memory.wf m = true) :
    Memory.read (Memory.write m a v) b = if a = b then v else Memory.read m b := by
  induction m with
  | nil =>
    simp only [Memory.write]
    split
    · rename_i hv; subst hv; simp [Memory.read, Memory.unlisted]
    · simp [Memory.read, Memory.unlisted]
  | cons c rest ih =>
    obtain ⟨h1, h2, h3⟩ := (Memory.wf_cons c rest).mp h
    simp only [Memory.write]
    split
    · rename_i hlt
      split
      · rename_i hv
        split
        · rename_i hab
          subst hab; subst hv
          exact Memory.read_of_lt _ _ fun d hd => by
            rcases List.mem_cons.mp hd with rfl | hd
            · exact hlt
            · exact hlt.trans (h2 d hd)
        · rfl
      · simp [Memory.read]
    · split
      · rename_i heq
        split
        · rename_i hv
          split
          · rename_i hab
            subst hab; subst hv
            exact Memory.read_of_lt _ _ fun d hd => by rw [heq]; exact h2 d hd
          · rename_i hab
            rw [Memory.read, if_neg (by omega)]
        · rename_i hv
          simp only [Memory.read]
          split
          · rfl
          · rename_i hab
            rw [if_neg (by omega)]
      · rename_i hlt hne
        simp only [Memory.read]
        rw [ih h3]
        split
        · rw [if_neg (by omega)]
        · rfl

end Sys2Proof.Machine
end

