-- ==== Sys2Proof/Laws/Orders.lean ====
section
/-!
SUPPORT. What an order in hand does: it is carried out on its length and parameters, and it is answered with an
outcome and a detail.
-/

namespace Sys2Proof.Machine

variable {k : OrderKind} {len : Nat} {ps : List Word} {t : OrderPage} {s : State}

/-- An order held is the one in hand. -/
theorem OrderHeld.inHand (h : OrderHeld k len ps t s) : s.inHand k = some (len, ps) := by
  obtain ⟨h1, h2, h3, h4, h5⟩ := h
  simp [State.inHand, State.powerIdle, h1, h2, h3, h4, h5]

/-- A LOAD held has its data in hand. -/
theorem LoadHeld.loadedInHand (h : LoadHeld k len ps t s) : s.loadedInHand k = some len := by
  obtain ⟨h1, h2, h3, h4, h5⟩ := h
  simp [State.loadedInHand, State.powerIdle, h1, h2, h3, h4, h5]

/-- An order command carries out the order held. -/
theorem OrderHeld.run (h : OrderHeld k len ps t s) (f : Nat → List Word → State → State) :
    runOrder k f s = .next (settleDown (f len ps s)) := by
  rw [runOrder, h.inHand]
  rfl

/-- With no order of its kind in hand, an order command changes nothing. -/
theorem runOrder_none (f : Nat → List Word → State → State) (h : s.inHand k = none) : runOrder k f s = .next s := by
  rw [runOrder, h]

/-- Fixing an outcome answers the order whose page is taken. -/
theorem fixOutcome_eq (o : OrderOutcome) (d : Nat) (h : s.ex.taken = some t) (hl : t.phase.orderLen = some len) :
    fixOutcome o d s = s.answered t len (o, d) := by
  simp [fixOutcome, h, hl, State.answered]

/-- An order in hand has its own length. -/
theorem OrderHeld.orderLen (h : OrderHeld k len ps t s) : t.phase.orderLen = some len := by
  rw [h.2.2.2.2, ReadPhase.orderLen]

theorem LoadHeld.orderLen (h : LoadHeld k len ps t s) : t.phase.orderLen = some len := by
  rw [h.2.2.2.2, ReadPhase.orderLen]

theorem OrderHeld.taken (h : OrderHeld k len ps t s) : s.ex.taken = some t := h.2.2.2.1

theorem LoadHeld.taken (h : LoadHeld k len ps t s) : s.ex.taken = some t := h.2.2.2.1

/-- The order held is answered from any state with the same page taken. -/
theorem OrderHeld.answer (h : OrderHeld k len ps t s) {u : State} (hu : u.ex.taken = s.ex.taken) (o : OrderOutcome) (d : Nat) :
    fixOutcome o d u = u.answered t len (o, d) :=
  fixOutcome_eq o d (hu.trans h.taken) h.orderLen

theorem LoadHeld.answer (h : LoadHeld k len ps t s) {u : State} (hu : u.ex.taken = s.ex.taken) (o : OrderOutcome) (d : Nat) :
    fixOutcome o d u = u.answered t len (o, d) :=
  fixOutcome_eq o d (hu.trans h.taken) h.orderLen

/-- An order command answers what the order held makes of the state. -/
theorem OrderHeld.run_eq (h : OrderHeld k len ps t s) {f : Nat → List Word → State → State} {u : State} (hu : f len ps s = u) :
    runOrder k f s = .next (settleDown u) := by
  rw [h.run, hu]

theorem OrderHeld.works (h : OrderHeld k len ps t s) : s.run.works = true := h.1

/-- Parameter word `i`, counted from the order's start (R183), is word `i - 2` of those read. -/
theorem param_eq (ps : List Word) (i : Nat) : param ps i = ps.getD (i - 2) 0 := by
  rfl

/-! ### Clamped fields -/

/-- Clamping to a range brings a number into it. -/
theorem clamp_eq_bring {lo hi : Nat} (h : lo ≤ hi) (v : Nat) : clamp lo hi v = bring lo hi v := by
  unfold clamp bring
  split
  · omega
  · split <;> omega

/-- A number stays under its clamp exactly when it lies in the range. -/
theorem clamp_eq_self {lo hi : Nat} (_h : lo ≤ hi) (v : Nat) : v = clamp lo hi v ↔ within lo hi v = true := by
  unfold clamp within
  rw [Bool.and_eq_true, decide_eq_true_eq, decide_eq_true_eq]
  split
  · omega
  · split <;> omega

/-- The answer of clamped fields, given as position, range and value. -/
theorem clampOutcome_map (fs : List (Nat × Nat × Nat × Nat)) (h : ∀ f ∈ fs, f.2.1 ≤ f.2.2.1) :
    clampOutcome (firstClamped (fs.map fun f => clamped f.1 f.2.1 f.2.2.1 f.2.2.2))
      = rangeAnswer (fs.map fun f => (f.1, within f.2.1 f.2.2.1 f.2.2.2)) := by
  induction fs with
  | nil => rfl
  | cons f rest ih =>
    have hf := clamp_eq_self (h f (by simp)) f.2.2.2
    have ih := ih fun g hg => h g (List.mem_cons_of_mem _ hg)
    rw [List.map_cons, List.map_cons, rangeAnswer, List.find?_cons]
    by_cases hw : within f.2.1 f.2.2.1 f.2.2.2 = true
    · have : firstClamped (clamped f.1 f.2.1 f.2.2.1 f.2.2.2 :: rest.map fun f => clamped f.1 f.2.1 f.2.2.1 f.2.2.2)
          = firstClamped (rest.map fun f => clamped f.1 f.2.1 f.2.2.1 f.2.2.2) := by
        rw [clamped, firstClamped, if_pos (by exact_mod_cast hf.mpr hw)]
      rw [this, ih, rangeAnswer, hw]
      rfl
    · have : firstClamped (clamped f.1 f.2.1 f.2.2.1 f.2.2.2 :: rest.map fun f => clamped f.1 f.2.1 f.2.2.1 f.2.2.2)
          = some f.1 := by
        rw [clamped, firstClamped, if_neg (fun e => hw (hf.mp (by exact_mod_cast e)))]
      rw [this, Bool.not_eq_true _ |>.mp hw]
      rfl

end Sys2Proof.Machine
end

