-- ==== Sys2Proof/Laws/Settings.lean ====
section
/-!
SUPPORT. The settings pass unchanged through every operation that traffic, temperature and exchange run.
-/

namespace Sys2Proof.Machine

@[simp] theorem handEvent_settings (e : TrigEvent) (s : State) : (handEvent e s).settings = s.settings := by
  unfold handEvent
  repeat' first | rfl | split

@[simp] theorem raiseNoPage_settings (s : State) : (raiseNoPage s).settings = s.settings := by
  unfold raiseNoPage
  repeat' first | rfl | split

@[simp] theorem loseRecord_settings (r : Rec) (s : State) : (loseRecord r s).settings = s.settings := by
  unfold loseRecord
  repeat' first | rfl | (refine (handEvent_settings ..).trans ?_) | split

@[simp] theorem enterRecord_settings (r : Rec) (s : State) : (enterRecord r s).settings = s.settings := by
  unfold enterRecord
  repeat' first | rfl | (refine (raiseNoPage_settings ..).trans ?_) | (refine (loseRecord_settings ..).trans ?_) | (refine (handEvent_settings ..).trans ?_) | split

@[simp] theorem createRecord_settings (k : RecKind) (ws : List Nat) (s : State) : (createRecord k ws s).settings = s.settings := by
  unfold createRecord
  repeat' first | rfl | (refine (enterRecord_settings ..).trans ?_)

@[simp] theorem calibrationRecord_settings (a b c d e w x y z : Nat) (s : State) : (calibrationRecord a b c d e w x y z s).settings = s.settings := by
  unfold calibrationRecord
  repeat' first | rfl | (refine (createRecord_settings ..).trans ?_)

@[simp] theorem armCapture_settings (r : ArmRequest) (s : State) : (armCapture r s).settings = s.settings := by
  unfold armCapture
  repeat' first | rfl | split

@[simp] theorem captureOpening_settings (l : Lane) (n : Nat) (s : State) : (captureOpening l n s).settings = s.settings := by
  unfold captureOpening
  repeat' first | rfl | split

@[simp] theorem captureClosed_settings (n : Nat) (s : State) : (captureClosed n s).settings = s.settings := by
  unfold captureClosed
  repeat' first | rfl | split

@[simp] theorem stopCapture_settings (r : EndReason) (s : State) : (stopCapture r s).settings = s.settings := by
  unfold stopCapture
  repeat' first | rfl | split

@[simp] theorem stopMeasuring_settings (s : State) : (stopMeasuring s).settings = s.settings := by
  unfold stopMeasuring
  rfl

@[simp] theorem emptyRowLists_settings (s : State) : (emptyRowLists s).settings = s.settings := by
  unfold emptyRowLists
  rfl

@[simp] theorem closeResultPage_settings (f : BitVec 6) (s : State) : (closeResultPage f s).settings = s.settings := by
  unfold closeResultPage
  rfl

@[simp] theorem fixOutcome_settings (o : OrderOutcome) (d : Nat) (s : State) : (fixOutcome o d s).settings = s.settings := by
  unfold fixOutcome
  repeat' first | rfl | split

@[simp] theorem answerStop_settings (s : State) : (answerStop s).settings = s.settings := by
  unfold answerStop
  repeat' first | rfl | (refine (fixOutcome_settings ..).trans ?_) | split

@[simp] theorem endDrain_settings (s : State) : (endDrain s).settings = s.settings := by
  unfold endDrain
  repeat' first | rfl | (refine (answerStop_settings ..).trans ?_)

@[simp] theorem testDrain_settings (s : State) : (testDrain s).settings = s.settings := by
  unfold testDrain
  repeat' first | rfl | (refine (endDrain_settings ..).trans ?_) | split

@[simp] theorem setCell_settings (l : Lane) (b : Fin 8) (c : Cell) (s : State) : (setCell l b c s).settings = s.settings := by
  unfold setCell
  rfl

@[simp] theorem clearTallies_settings (s : State) : (clearTallies s).settings = s.settings := by
  unfold clearTallies
  rfl

@[simp] theorem rejectOffer_settings (s : State) : (rejectOffer s).settings = s.settings := by
  unfold rejectOffer
  rfl

/-- A change of run state. -/
theorem run_settings (s : State) (r : RunState) : ({ s with run := r } : State).settings = s.settings := rfl

/-- A fold keeps the settings when each of its steps does. -/
theorem foldl_settings {α : Type} (f : State → α → State) (h : ∀ s a, (f s a).settings = s.settings) (l : List α) (s : State) :
    (l.foldl f s).settings = s.settings := by
  induction l generalizing s with
  | nil => rfl
  | cons a rest ih => exact (ih (f s a)).trans (h s a)

/-- The same for a fold that carries something beside the state. -/
theorem foldl_settings_fst {α β : Type} (f : State × β → α → State × β) (h : ∀ p a, (f p a).1.settings = p.1.settings)
    (l : List α) (p : State × β) : (l.foldl f p).1.settings = p.1.settings := by
  induction l generalizing p with
  | nil => rfl
  | cons a rest ih => exact (ih (f p a)).trans (h p a)

/-- Trigger sets replaced by sets of the same definitions. -/
theorem setsSame_settings (s : State) (t : Tab 8 TriggerSet) (h : t.map (·.dfn) = s.trig.sets.map (·.dfn)) :
    ({ s with trig.sets := t } : State).settings = s.settings := by
  simp only [State.settings, h]

@[simp] theorem loseAllRecords_settings (s : State) : (loseAllRecords s).settings = s.settings :=
  (foldl_settings _ (fun t r => loseRecord_settings r t) _ _).trans rfl

@[simp] theorem placePulse_settings (a : PulseAction) (n : SetId) (v : Option VehicleEvent) (s : State) :
    (placePulse a n v s).1.settings = s.settings := by
  unfold placePulse
  repeat' first | rfl | split

@[simp] theorem applyTimerAction_settings (a : TimerAction) (s : State) : (applyTimerAction a s).settings = s.settings :=
  setsSame_settings s _ (Tab.map_set_same _ _ _ _ rfl)

@[simp] theorem applyCaptureAction_settings (a : CaptureAction) (v : Option VehicleEvent) (s : State) :
    (applyCaptureAction a v s).1.settings = s.settings := by
  unfold applyCaptureAction
  repeat' first | rfl | exact armCapture_settings .. | split

@[simp] theorem setEnabled_settings (n : SetId) (v : Bool) (s : State) : (setEnabled n v s).settings = s.settings :=
  setsSame_settings s _ (Tab.map_set_same _ _ _ _ rfl)

@[simp] theorem applyMasks_settings (a b : BitVec 8) (s : State) : (applyMasks a b s).settings = s.settings := by
  refine setsSame_settings s _ (Tab.ext_get fun i => ?_)
  simp

@[simp] theorem firePulse_settings (e : TrigEvent) (n : SetId) (s : State) : (firePulse e n s).1.settings = s.settings := by
  unfold firePulse
  repeat' first | rfl | exact placePulse_settings .. | split

@[simp] theorem fireTimer_settings (n : SetId) (s : State) : (fireTimer n s).settings = s.settings := by
  unfold fireTimer
  split
  · rfl
  · exact applyTimerAction_settings ..

@[simp] theorem fireCapture_settings (e : TrigEvent) (n : SetId) (s : State) : (fireCapture e n s).1.settings = s.settings := by
  unfold fireCapture
  repeat' first | rfl | exact applyCaptureAction_settings .. | split

@[simp] theorem fireReport_settings (e : TrigEvent) (n : SetId) (v : Bool) (r : PulseResult) (b : Bool) (s : State) :
    (fireReport e n v r b s).settings = s.settings := by
  unfold fireReport
  split
  · exact createRecord_settings ..
  · rfl

@[simp] theorem fireSteps_settings (e : TrigEvent) (n : SetId) (v : Bool) (s : State) :
    (fireSteps e n v s).settings = s.settings := by
  simp only [fireSteps, applyMasks_settings]
  split <;> simp

@[simp] theorem fire_settings (e : TrigEvent) (d : Nat) (n : SetId) (v : Bool) (p : State × BitVec 8) :
    (fire e d n v p).1.settings = p.1.settings := by
  induction d generalizing n v p with
  | zero => rfl
  | succ d ih =>
    refine (foldl_settings_fst _ (fun q a => ?_) _ _).trans (fireSteps_settings ..)
    split
    · exact ih ..
    · rfl

@[simp] theorem updateRow_settings (r : Row) (v : RowTemp) (s : State) : (updateRow r v s).settings = s.settings := by
  refine (handEvent_settings ..).trans (setsSame_settings s _ (Tab.ext_get fun i => ?_))
  simp only [Tab.get_map, TriggerSet.track]
  repeat' first | rfl | split

@[simp] theorem runCascade_settings (e : TrigEvent) (s : State) : (runCascade e s).1.settings = s.settings := by
  unfold runCascade
  split
  · refine foldl_settings_fst _ (fun q a => ?_) _ _
    split
    · exact fire_settings ..
    · rfl
  · rfl

@[simp] theorem controlCascade_settings (m : BitVec 8) (s : State) : (controlCascade m s).settings = s.settings := by
  refine (foldl_settings_fst _ (fun q a => ?_) _ _)
  split
  · exact fire_settings ..
  · rfl

@[simp] theorem discardPulses_settings (s : State) : (discardPulses s).settings = s.settings := rfl

@[simp] theorem quietTriggers_settings (s : State) : (quietTriggers s).settings = s.settings := by
  refine setsSame_settings s _ (Tab.ext_get fun i => ?_)
  simp

@[simp] theorem holdTimers_settings (s : State) : (holdTimers s).settings = s.settings := by
  refine setsSame_settings s _ (Tab.ext_get fun i => ?_)
  simp only [Tab.get_map]
  split <;> rfl

@[simp] theorem resumeTimers_settings (s : State) : (resumeTimers s).settings = s.settings := by
  refine setsSame_settings s _ (Tab.ext_get fun i => ?_)
  simp only [Tab.get_map]
  split <;> rfl

@[simp] theorem takeUpInputs_settings (s : State) : (takeUpInputs s).settings = s.settings := rfl

@[simp] theorem driftUpdate_settings (l : Lane) (b : Fin 8) (c : Cell) (s : State) : (driftUpdate l b c s).settings = s.settings := by
  unfold driftUpdate
  dsimp only
  repeat' first | rfl | (refine (runCascade_settings ..).trans ?_) | (refine (calibrationRecord_settings ..).trans ?_) | (refine (setCell_settings ..).trans ?_) | split

@[simp] theorem takeOffer_settings (o : Offer) (s : State) : (takeOffer o s).settings = s.settings := by
  unfold takeOffer
  split
  · dsimp only
    split
    · split
      · exact driftUpdate_settings ..
      · exact setCell_settings ..
    · exact rejectOffer_settings ..
  · exact rejectOffer_settings ..

@[simp] theorem narrowCell_settings (l : Lane) (b : Fin 8) (s : State) : (narrowCell l b s).settings = s.settings := by
  unfold narrowCell
  dsimp only
  repeat' first | rfl | (refine (calibrationRecord_settings ..).trans ?_) | (refine (setCell_settings ..).trans ?_) | split

@[simp] theorem narrowAll_settings (s : State) : (narrowAll s).settings = s.settings :=
  foldl_settings _ (fun t _ => foldl_settings _ (fun u _ => narrowCell_settings _ _ u) _ t) _ _

@[simp] theorem setContext_settings (l : Lane) (k : Slot) (c : Option Context) (s : State) : (setContext l k c s).settings = s.settings := by
  unfold setContext
  rfl

@[simp] theorem offerStage_settings (v : ClosedVehicle) (e : Option ClassEntry) (s : State) : (offerStage v e s).settings = s.settings := by
  unfold offerStage
  repeat' first | rfl | (refine (takeOffer_settings ..).trans ?_) | split

@[simp] theorem recordStage_settings (v : ClosedVehicle) (s : State) : (recordStage v s).settings = s.settings := by
  unfold recordStage
  dsimp only
  repeat' first | rfl | (refine (createRecord_settings ..).trans ?_) | (refine (runCascade_settings ..).trans ?_)

@[simp] theorem releaseWaiting_settings (c : Context) (s : State) : (releaseWaiting c s).settings = s.settings := by
  unfold releaseWaiting
  rfl

@[simp] theorem closeStages_settings (l : Lane) (c : Context) (k : CloseCause) (s : State) : (closeStages l c k s).settings = s.settings := by
  unfold closeStages
  dsimp only
  repeat' first | rfl | (refine (recordStage_settings ..).trans ?_) | (refine (offerStage_settings ..).trans ?_)

@[simp] theorem closeContext_settings (l : Lane) (k : Slot) (c : CloseCause) (s : State) : (closeContext l k c s).settings = s.settings := by
  unfold closeContext
  repeat' first | rfl | (refine (testDrain_settings ..).trans ?_) | (refine (captureClosed_settings ..).trans ?_) | (refine (setContext_settings ..).trans ?_) | (refine (closeStages_settings ..).trans ?_) | split

@[simp] theorem closeTest_settings (l : Lane) (k : Slot) (s : State) : (closeTest l k s).settings = s.settings := by
  unfold closeTest
  repeat' first | rfl | (refine (closeContext_settings ..).trans ?_) | split

@[simp] theorem truncateAll_settings (s : State) : (truncateAll s).settings = s.settings :=
  foldl_settings _ (fun t _ => (closeContext_settings ..).trans (closeContext_settings _ _ _ t)) _ _

@[simp] theorem moveToClosing_settings (l : Lane) (f : Context → Context) (s : State) : (moveToClosing l f s).settings = s.settings := by
  unfold moveToClosing
  repeat' first | rfl | (refine (setContext_settings ..).trans ?_) | split

@[simp] theorem onsetContext_settings (l : Lane) (t : Nat) (s : State) : (onsetContext l t s).settings = s.settings := by
  unfold onsetContext
  repeat' first | rfl | (refine (captureOpening_settings ..).trans ?_) | (refine (setContext_settings ..).trans ?_) | (refine (moveToClosing_settings ..).trans ?_) | (refine (closeContext_settings ..).trans ?_) | split

@[simp] theorem loopEndContext_settings (l : Lane) (t : Nat) (k : Bool) (s : State) : (loopEndContext l t k s).settings = s.settings := by
  unfold loopEndContext
  repeat' first | rfl | (refine (moveToClosing_settings ..).trans ?_) | (refine (closeContext_settings ..).trans ?_) | (refine (closeTest_settings ..).trans ?_) | split

@[simp] theorem openWithAxle_settings (l : Lane) (k : Slot) (m : Nat → Context) (x : Axle) (s : State) : (openWithAxle l k m x s).settings = s.settings := by
  unfold openWithAxle
  rfl

@[simp] theorem joinSlot_settings (l : Lane) (k : Slot) (x : Axle) (s : State) : (joinSlot l k x s).settings = s.settings := by
  unfold joinSlot
  repeat' first | rfl | (refine (openWithAxle_settings ..).trans ?_) | (refine (closeContext_settings ..).trans ?_) | (refine (setContext_settings ..).trans ?_) | split

@[simp] theorem assignAxle_settings (x : Axle) (s : State) : (assignAxle x s).settings = s.settings := by
  unfold assignAxle
  dsimp only
  repeat' first | rfl | (refine (joinSlot_settings ..).trans ?_) | (refine (openWithAxle_settings ..).trans ?_) | split

@[simp] theorem completeAxle_settings (n : Nat) (f : Axle → Axle) (s : State) : (completeAxle n f s).settings = s.settings := by
  unfold completeAxle
  repeat' first | rfl | (refine (closeTest_settings ..).trans ?_) | (refine (setContext_settings ..).trans ?_) | split

@[simp] theorem enterRowA_settings (p : RowAxle) (s : State) : (enterRowA p s).settings = s.settings := by
  unfold enterRowA
  dsimp only
  repeat' first | rfl | (refine (assignAxle_settings ..).trans ?_) | (refine (completeAxle_settings ..).trans ?_) | split

@[simp] theorem matchRowB_settings (p : RowAxle) (s : State) : (matchRowB p s).settings = s.settings := by
  unfold matchRowB
  dsimp only
  repeat' first | rfl | (refine (assignAxle_settings ..).trans ?_) | (refine (completeAxle_settings ..).trans ?_) | split

@[simp] theorem formRowAxle_settings (p : RowAxle) (s : State) : (formRowAxle p s).settings = s.settings := by
  unfold formRowAxle
  repeat' first | rfl | (refine (enterRowA_settings ..).trans ?_) | (refine (matchRowB_settings ..).trans ?_) | split

@[simp] theorem setHits_settings (r : Row) (h : List Hit) (s : State) : (setHits r h s).settings = s.settings := by
  unfold setHits
  rfl

@[simp] theorem offerHit_settings (h : Hit) (s : State) : (offerHit h s).settings = s.settings := by
  unfold offerHit
  dsimp only
  repeat' first | rfl | (refine (formRowAxle_settings ..).trans ?_) | (refine (setHits_settings ..).trans ?_) | split

@[simp] theorem enterHit_settings (h : Hit) (s : State) : (enterHit h s).settings = s.settings := by
  unfold enterHit
  dsimp only
  repeat' first | rfl | (refine (offerHit_settings ..).trans ?_) | (refine (setHits_settings ..).trans ?_) | split

@[simp] theorem expireHits_settings (r : Row) (t : Nat) (s : State) : (expireHits r t s).settings = s.settings :=
  (foldl_settings _ (fun u h => formRowAxle_settings (oneWheelAxle h) u) _ _).trans (setHits_settings ..)

@[simp] theorem expireAxle_settings (w : WaitingAxle) (s : State) : (expireAxle w s).settings = s.settings := by
  unfold expireAxle
  repeat' first | rfl | (refine (completeAxle_settings ..).trans ?_)

@[simp] theorem expireAxles_settings (t : Nat) (s : State) : (expireAxles t s).settings = s.settings :=
  foldl_settings _ (fun u w => expireAxle_settings w u) _ _

@[simp] theorem timeMark_settings (t : Nat) (s : State) : (timeMark t s).settings = s.settings := by
  unfold timeMark
  repeat' first | rfl | (refine (expireAxles_settings ..).trans ?_) | (refine (expireHits_settings ..).trans ?_)

@[simp] theorem wake_settings (s : State) : (wake s).settings = s.settings := by
  unfold wake
  repeat' first | rfl | split

@[simp] theorem settleHit_settings (c : Chan) (r : ChanResult) (s : State) : (settleHit c r s).settings = s.settings := by
  unfold settleHit
  repeat' first | rfl | (refine (enterHit_settings ..).trans ?_) | split

@[simp] theorem detectFrame_settings (f : Frame) (k : Finding) (s : State) : (detectFrame f k s).settings = s.settings := by
  have h : ∀ (b : Bool) (t : State), (if b then wake t else t).settings = t.settings := by
    intro b t
    split
    · exact wake_settings t
    · rfl
  exact (timeMark_settings ..).trans
    ((foldl_settings _ (fun u (p : Chan × ChanResult) => settleHit_settings p.1 p.2 u) _ _).trans ((h _ _).trans rfl))

@[simp] theorem takeFrame_settings (f : Frame) (s : State) : (takeFrame f s).settings = s.settings := by
  unfold takeFrame
  split
  · rfl
  · split
    · rfl
    · dsimp only
      split
      · exact detectFrame_settings ..
      · rfl

@[simp] theorem loseOpenHits_settings (s : State) : (loseOpenHits s).settings = s.settings := by
  unfold loseOpenHits
  rfl

@[simp] theorem loseLink_settings (s : State) : (loseLink s).settings = s.settings := by
  unfold loseLink
  split
  · split
    · exact loseOpenHits_settings ..
    · rfl
  · rfl

@[simp] theorem loseHitLists_settings (s : State) : (loseHitLists s).settings = s.settings := by
  unfold loseHitLists
  rfl

@[simp] theorem releaseRowA_settings (s : State) : (releaseRowA s).settings = s.settings :=
  foldl_settings _ (fun u w => expireAxle_settings w u) _ _

@[simp] theorem intervalCheck_settings (s : State) : (intervalCheck s).settings = s.settings := by
  unfold intervalCheck
  dsimp only
  repeat' first | rfl | (refine (createRecord_settings ..).trans ?_) | split

@[simp] theorem restartSummary_settings (s : State) : (restartSummary s).settings = s.settings := by
  unfold restartSummary
  rfl

@[simp] theorem recutSummary_settings (s : State) : (recutSummary s).settings = s.settings := by
  unfold recutSummary
  rfl

@[simp] theorem shortSummary_settings (s : State) : (shortSummary s).settings = s.settings := by
  unfold shortSummary
  rfl

@[simp] theorem secondClose_settings (s : State) : (secondClose s).settings = s.settings := by
  unfold secondClose
  dsimp only
  repeat' first | rfl | (refine (intervalCheck_settings ..).trans ?_) | (refine (updateRow_settings ..).trans ?_)

@[simp] theorem pollNext_settings (l : List Probe) (s : State) : (pollNext l s).settings = s.settings := by
  unfold pollNext
  repeat' first | rfl | (refine (secondClose_settings ..).trans ?_) | split

@[simp] theorem startRound_settings (s : State) : (startRound s).settings = s.settings := by
  unfold startRound
  repeat' first | rfl | (refine (pollNext_settings ..).trans ?_) | split

@[simp] theorem deliver_settings (p : Polled) (o : ProbeOutcome) (s : State) : (deliver p o s).settings = s.settings := by
  unfold deliver
  dsimp only
  split
  · refine (pollNext_settings ..).trans ?_
    split <;> rfl
  · split <;> rfl

@[simp] theorem takeAnswer_settings (a : Answer) (s : State) : (takeAnswer a s).settings = s.settings := by
  unfold takeAnswer
  split
  · rfl
  · split
    · exact deliver_settings ..
    · rfl

@[simp] theorem answerTimedOut_settings (s : State) : (answerTimedOut s).settings = s.settings := by
  unfold answerTimedOut
  split
  · split
    · exact deliver_settings ..
    · rfl
  · rfl

@[simp] theorem abandonRound_settings (s : State) : (abandonRound s).settings = s.settings := by
  unfold abandonRound
  rfl

@[simp] theorem advanceTrace_settings (s : State) : (advanceTrace s).settings = s.settings := by
  unfold advanceTrace
  repeat' first | rfl | split

@[simp] theorem pageClosed_settings (p : Page) (s : State) : (pageClosed p s).settings = s.settings := by
  unfold pageClosed
  rfl

@[simp] theorem traceClosed_settings (c : CaptureRun) (p : TracePage) (s : State) : (traceClosed c p s).settings = s.settings := by
  unfold traceClosed
  dsimp only
  split
  · split
    · exact pageClosed_settings p.page s
    · exact pageClosed_settings p.page s
  · exact pageClosed_settings p.page s

@[simp] theorem completeTrace_settings (s : State) : (completeTrace s).settings = s.settings := by
  unfold completeTrace
  split
  · split
    · rfl
    · split
      · rfl
      · rfl
      · rfl
      · rfl
      · rfl
      · exact traceClosed_settings ..
  · rfl

@[simp] theorem faultTrace_settings (own : Bool) (s : State) : (faultTrace own s).settings = s.settings := by
  unfold faultTrace
  repeat' first | rfl | split

@[simp] theorem resumeTrace_settings (c : CaptureRun) (s : State) : (resumeTrace c s).settings = s.settings := by
  unfold resumeTrace
  repeat' first | rfl | split

@[simp] theorem takeResultHead_settings (s : State) : (takeResultHead s).settings = s.settings := by
  unfold takeResultHead
  repeat' first | rfl | split

@[simp] theorem advanceWriter_settings (s : State) : (advanceWriter s).settings = s.settings := by
  unfold advanceWriter
  repeat' first | rfl | split

@[simp] theorem composeHeader_settings (p : ResultPage) (s : State) : (composeHeader p s).settings = s.settings := by
  unfold composeHeader
  rfl

@[simp] theorem completeWriter_settings (s : State) : (completeWriter s).settings = s.settings := by
  unfold completeWriter
  split
  · rfl
  · split
    · exact composeHeader_settings ..
    · rfl
    · rfl
    · split
      · rfl
      · split <;> rfl
    · rename_i p _ _ _
      refine (raiseNoPage_settings _).trans ?_
      exact pageClosed_settings p.page s

@[simp] theorem faultWriter_settings (o : Bool) (s : State) : (faultWriter o s).settings = s.settings := by
  unfold faultWriter
  repeat' first | rfl | split

@[simp] theorem setReader_settings (ph : ReadPhase) (s : State) : (setReader ph s).settings = s.settings := by
  unfold setReader
  rfl

@[simp] theorem releaseOrderPage_settings (p : Page) (s : State) : (releaseOrderPage p s).settings = s.settings := by
  unfold releaseOrderPage
  rfl

@[simp] theorem gather_settings (k : OrderKind) (w : Word) (s : State) : (gather k w s).settings = s.settings := by
  unfold gather
  repeat' first | rfl | split

@[simp] theorem completeReader_settings (ws : List Word) (s : State) : (completeReader ws s).settings = s.settings := by
  unfold completeReader
  dsimp only
  split
  · rfl
  · split
    · exact setReader_settings ..
    · exact releaseOrderPage_settings ..
    · exact setReader_settings ..
    · exact setReader_settings ..
    · exact setReader_settings ..
    · exact (setReader_settings ..).trans (gather_settings ..)
    · rfl
    · exact releaseOrderPage_settings ..
    all_goals rfl

@[simp] theorem dropShadows_settings (s : State) : (dropShadows s).settings = s.settings := by
  unfold dropShadows
  rfl

@[simp] theorem faultReader_settings (own : Bool) (s : State) : (faultReader own s).settings = s.settings := by
  unfold faultReader
  repeat' first | rfl | split

@[simp] theorem takeOrderHead_settings (s : State) : (takeOrderHead s).settings = s.settings := by
  unfold takeOrderHead
  repeat' first | rfl | split

@[simp] theorem abandonOrders_settings (f : BitVec 6) (s : State) : (abandonOrders f s).settings = s.settings := by
  unfold abandonOrders
  split
  · rfl
  · split
    · rfl
    · split
      · rfl
      · exact (fixOutcome_settings ..).trans (dropShadows_settings ..)

@[simp] theorem countStray_settings (s : State) : (countStray s).settings = s.settings := by
  unfold countStray
  rfl

@[simp] theorem takeEntryRead_settings (p : Page) (h : Bool) (e : DirEntry) (s : State) : (takeEntryRead p h e s).settings = s.settings := by
  unfold takeEntryRead
  dsimp only
  repeat' first | exact countStray_settings .. | rfl | split

@[simp] theorem completeSweeper_settings (ws : List Word) (s : State) : (completeSweeper ws s).settings = s.settings := by
  unfold completeSweeper
  repeat' first | rfl | (refine (takeEntryRead_settings ..).trans ?_) | split

@[simp] theorem advanceSweeper_settings (s : State) : (advanceSweeper s).settings = s.settings := by
  unfold advanceSweeper
  repeat' first | rfl | split

@[simp] theorem startSweep_settings (s : State) : (startSweep s).settings = s.settings := by
  unfold startSweep
  rfl

@[simp] theorem stopSweeper_settings (s : State) : (stopSweeper s).settings = s.settings := by
  unfold stopSweeper
  rfl

@[simp] theorem arbitrate_settings (s : State) : (arbitrate s).settings = s.settings := by
  unfold arbitrate
  repeat' first | rfl | split

@[simp] theorem completeFor_settings (r : Requester) (ws : List Word) (s : State) : (completeFor r ws s).settings = s.settings := by
  unfold completeFor
  repeat' first | rfl | (refine (completeWriter_settings ..).trans ?_) | (refine (completeTrace_settings ..).trans ?_) | (refine (completeReader_settings ..).trans ?_) | (refine (completeSweeper_settings ..).trans ?_) | split

@[simp] theorem takeBusError_settings (r : Requester) (s : State) : (takeBusError r s).settings = s.settings := by
  unfold takeBusError
  exact (stopSweeper_settings ..).trans ((faultReader_settings ..).trans ((faultTrace_settings ..).trans
    (faultWriter_settings ..)))

@[simp] theorem resumeEnds_settings (s : State) : (resumeEnds s).settings = s.settings := by
  unfold resumeEnds
  dsimp only
  split
  · exact startSweep_settings ..
  · rfl

@[simp] theorem resumeOrders_settings (s : State) : (resumeOrders s).settings = s.settings := by
  unfold resumeOrders
  split
  · exact resumeEnds_settings ..
  · split <;> rfl

@[simp] theorem resumeRest_settings (s : State) : (resumeRest s).settings = s.settings := by
  unfold resumeRest
  split
  · split
    · split
      · exact resumeTrace_settings ..
      · exact (resumeOrders_settings ..).trans (resumeTrace_settings ..)
    · exact resumeOrders_settings ..
  · exact resumeOrders_settings ..

@[simp] theorem resumeProgress_settings (s : State) : (resumeProgress s).settings = s.settings := by
  unfold resumeProgress
  split
  · split
    · split <;> rfl
    · exact resumeRest_settings ..
  · rfl

@[simp] theorem quietUpdate_settings (s : State) : (quietUpdate s).settings = s.settings := by
  unfold quietUpdate
  rfl

@[simp] theorem settleDown_settings (s : State) : (settleDown s).settings = s.settings := by
  unfold settleDown
  repeat' first | rfl | (refine (arbitrate_settings ..).trans ?_) | (refine (advanceSweeper_settings ..).trans ?_) | (refine (advanceTrace_settings ..).trans ?_) | (refine (advanceWriter_settings ..).trans ?_)

@[simp] theorem takeUpLoops_settings (s : State) : (takeUpLoops s).settings = s.settings := by
  unfold takeUpLoops
  rfl

@[simp] theorem beginReady_settings (s : State) : (beginReady s).settings = s.settings := by
  unfold beginReady
  rfl

@[simp] theorem leavePowerFail_settings (s : State) : (leavePowerFail s).settings = s.settings := by
  exact (resumeTimers_settings ..).trans (beginReady_settings ..)

@[simp] theorem stopRunTimers_settings (s : State) : (stopRunTimers s).settings = s.settings := by
  unfold stopRunTimers
  rfl

@[simp] theorem haltSteps_settings (r : EndReason) (s : State) : (haltSteps r s).settings = s.settings := by
  simp [haltSteps]

@[simp] theorem disarm_settings (s : State) : (disarm s).settings = s.settings := by
  unfold disarm
  repeat' first | rfl | split

@[simp] theorem halt_settings (s : State) : (halt s).settings = s.settings := by
  unfold halt
  split
  · exact (run_settings _ .ready).trans (haltSteps_settings .halted s)
  · exact disarm_settings s

@[simp] theorem stopSensors_settings (s : State) : (stopSensors s).settings = s.settings := by
  exact (shortSummary_settings ..).trans (abandonRound_settings ..)

@[simp] theorem endPowerFail_settings (s : State) : (endPowerFail s).settings = s.settings := by
  have h : ∀ t : State, t.settings = s.settings → (if s.pins.pfi then t else leavePowerFail t).settings = s.settings := by
    intro t ht
    split
    · exact ht
    · exact (leavePowerFail_settings t).trans ht
  refine h _ ((stopSensors_settings ..).trans ?_)
  exact (disarm_settings ..).trans ((dropShadows_settings ..).trans ((discardPulses_settings ..).trans
    ((holdTimers_settings ..).trans (loseAllRecords_settings s))))

@[simp] theorem pfProgress_settings (s : State) : (pfProgress s).settings = s.settings := by
  unfold pfProgress
  split
  · rfl
  · split
    · rfl
    · split
      · exact (endPowerFail_settings ..).trans (closeResultPage_settings ..)
      · split
        · rfl
        · split
          · split
            · exact endPowerFail_settings ..
            · exact takeResultHead_settings ..
          · split <;> rfl

@[simp] theorem beginPowerFail_settings (s : State) : (beginPowerFail s).settings = s.settings := by
  unfold beginPowerFail
  simp only [pfProgress_settings, abandonOrders_settings, emptyRowLists_settings, truncateAll_settings,
    stopMeasuring_settings, stopCapture_settings, stopSweeper_settings]
  exact stopRunTimers_settings ..

@[simp] theorem enablePart_settings (s : State) : (enablePart s).settings = s.settings := by
  have h1 : ∀ t : State, (if s.regs.busFault then t else startSweep t).settings = t.settings := by
    intro t
    split <;> rfl
  have h2 : ∀ t : State, (if s.pins.pfi then beginPowerFail t else t).settings = t.settings := by
    intro t
    split
    · exact beginPowerFail_settings t
    · rfl
  exact (h2 _).trans ((h1 _).trans ((restartSummary_settings ..).trans (beginReady_settings s)))

@[simp] theorem closeForRestart_settings (s : State) : (closeForRestart s).settings = s.settings := rfl

@[simp] theorem discardQueue_settings (s : State) : (discardQueue s).settings = s.settings := by
  unfold discardQueue
  rfl

@[simp] theorem clearCounters_settings (s : State) : (clearCounters s).settings = s.settings := by
  unfold clearCounters
  rfl

@[simp] theorem softRestart_settings (s : State) : (softRestart s).settings = s.settings := by
  unfold softRestart
  dsimp only
  refine (pfProgress_settings _).trans ((run_settings _ .ready).trans ?_)
  simp

@[simp] theorem forgetPages_settings (s : State) : (forgetPages s).settings = s.settings := by
  unfold forgetPages
  rfl

@[simp] theorem disablePart_settings (s : State) : (disablePart s).settings = s.settings := by
  have h : ∀ t : State, (if s.run.measures then emptyRowLists (truncateAll (stopMeasuring t)) else t).settings = t.settings := by
    intro t
    split <;> simp
  refine (loseAllRecords_settings ..).trans ((stopSensors_settings ..).trans ((dropShadows_settings ..).trans
    ((forgetPages_settings ..).trans ((h _).trans ?_))))
  exact (discardPulses_settings ..).trans ((quietTriggers_settings ..).trans (stopRunTimers_settings ..))

@[simp] theorem breakCapture_settings (s : State) : (breakCapture s).settings = s.settings := by
  unfold breakCapture
  split <;> rfl

@[simp] theorem clearBusFault_settings (s : State) : (clearBusFault s).settings = s.settings := by
  unfold clearBusFault
  dsimp only
  split
  · rfl
  · exact (resumeProgress_settings ..).trans (breakCapture_settings ..)

@[simp] theorem statusWrite_settings (v : Word) (s : State) : (statusWrite v s).settings = s.settings := by
  unfold statusWrite
  dsimp only
  split
  · exact clearBusFault_settings ..
  · rfl

@[simp] theorem takeError_settings (s : State) : (takeError s).settings = s.settings := by
  unfold takeError
  split
  · rfl
  · exact (pfProgress_settings ..).trans (takeBusError_settings ..)

@[simp] theorem loopOnset_settings (l : Lane) (s : State) : (loopOnset l s).settings = s.settings := by
  have h : ∀ t : State, (if s.mayOpen then onsetContext l s.clock t else t).settings = t.settings := by
    intro t
    split
    · exact onsetContext_settings ..
    · rfl
  exact (handEvent_settings ..).trans ((wake_settings ..).trans ((h _).trans rfl))

@[simp] theorem pendingHandover_settings (s : State) : (pendingHandover s).settings = s.settings := by
  unfold pendingHandover
  split
  · rfl
  · split
    · rfl
    · exact countStray_settings ..

end Sys2Proof.Machine
end

