-- ==== Sys2Proof/Laws/Settle.lean ====
section
/-!
SUPPORT. What follows every command, once: it starts or stops the quiet idle timer, gives each requester at rest its
next work and grants the port, and touches nothing else.
-/

namespace Sys2Proof.Machine

/-- The writer's next work changes its page and whether the head record is pinned. -/
theorem advanceWriter_frame (s : State) : ∃ page pinned, advanceWriter s = { s with rw.page := page, rw.pinned := pinned } := by
  unfold advanceWriter
  repeat' first | exact ⟨_, _, rfl⟩ | split

/-- The trace writer's next work changes the capture in progress. -/
theorem advanceTrace_frame (s : State) : ∃ st, advanceTrace s = { s with cap.st := st } := by
  unfold advanceTrace
  repeat' first | exact ⟨_, rfl⟩ | split

/-- The sweeper's next work changes its place, its timer and the entry it works on. -/
theorem advanceSweeper_frame (s : State) :
    ∃ work place timer, advanceSweeper s = { s with ex.work := work, ex.sweepAt := place, ex.sweepTimer := timer } := by
  unfold advanceSweeper
  repeat' first | exact ⟨_, _, _, rfl⟩ | split

/-- The arbiter changes the grant. -/
theorem arbitrate_frame (s : State) : ∃ grant, arbitrate s = { s with ex.grant := grant } := by
  unfold arbitrate
  repeat' first | exact ⟨_, rfl⟩ | split

/-- All that can change behind a command's own effect. -/
theorem settleDown_frame (s : State) :
    ∃ timer page pinned st work place sweep grant, settleDown s =
      { s with
        ctrl.quietTimer := timer, rw.page := page, rw.pinned := pinned, cap.st := st, ex.work := work, ex.sweepAt := place,
        ex.sweepTimer := sweep, ex.grant := grant } := by
  unfold settleDown
  obtain ⟨page, pinned, h1⟩ := advanceWriter_frame (quietUpdate s)
  rw [h1]
  obtain ⟨st, h2⟩ := advanceTrace_frame { quietUpdate s with rw.page := page, rw.pinned := pinned }
  rw [h2]
  obtain ⟨work, place, sweep, h3⟩ := advanceSweeper_frame { quietUpdate s with rw.page := page, rw.pinned := pinned, cap.st := st }
  rw [h3]
  obtain ⟨grant, h4⟩ := arbitrate_frame
    { quietUpdate s with
      rw.page := page, rw.pinned := pinned, cap.st := st, ex.work := work, ex.sweepAt := place, ex.sweepTimer := sweep }
  rw [h4]
  exact ⟨_, _, _, _, _, _, _, _, rfl⟩

@[simp] theorem settleDown_clock (s : State) : (settleDown s).clock = s.clock := by
  obtain ⟨_, _, _, _, _, _, _, _, h⟩ := settleDown_frame s
  rw [h]

@[simp] theorem settleDown_run (s : State) : (settleDown s).run = s.run := by
  obtain ⟨_, _, _, _, _, _, _, _, h⟩ := settleDown_frame s
  rw [h]

@[simp] theorem settleDown_regs (s : State) : (settleDown s).regs = s.regs := by
  obtain ⟨_, _, _, _, _, _, _, _, h⟩ := settleDown_frame s
  rw [h]

@[simp] theorem settleDown_pins (s : State) : (settleDown s).pins = s.pins := by
  obtain ⟨_, _, _, _, _, _, _, _, h⟩ := settleDown_frame s
  rw [h]

@[simp] theorem settleDown_site (s : State) : (settleDown s).site = s.site := by
  obtain ⟨_, _, _, _, _, _, _, _, h⟩ := settleDown_frame s
  rw [h]

@[simp] theorem settleDown_loops (s : State) : (settleDown s).loops = s.loops := by
  obtain ⟨_, _, _, _, _, _, _, _, h⟩ := settleDown_frame s
  rw [h]

@[simp] theorem settleDown_link (s : State) : (settleDown s).link = s.link := by
  obtain ⟨_, _, _, _, _, _, _, _, h⟩ := settleDown_frame s
  rw [h]

@[simp] theorem settleDown_det (s : State) : (settleDown s).det = s.det := by
  obtain ⟨_, _, _, _, _, _, _, _, h⟩ := settleDown_frame s
  rw [h]

@[simp] theorem settleDown_history (s : State) : (settleDown s).history = s.history := by
  obtain ⟨_, _, _, _, _, _, _, _, h⟩ := settleDown_frame s
  rw [h]

@[simp] theorem settleDown_axle (s : State) : (settleDown s).axle = s.axle := by
  obtain ⟨_, _, _, _, _, _, _, _, h⟩ := settleDown_frame s
  rw [h]

@[simp] theorem settleDown_temp (s : State) : (settleDown s).temp = s.temp := by
  obtain ⟨_, _, _, _, _, _, _, _, h⟩ := settleDown_frame s
  rw [h]

@[simp] theorem settleDown_veh (s : State) : (settleDown s).veh = s.veh := by
  obtain ⟨_, _, _, _, _, _, _, _, h⟩ := settleDown_frame s
  rw [h]

@[simp] theorem settleDown_cls (s : State) : (settleDown s).cls = s.cls := by
  obtain ⟨_, _, _, _, _, _, _, _, h⟩ := settleDown_frame s
  rw [h]

@[simp] theorem settleDown_cal (s : State) : (settleDown s).cal = s.cal := by
  obtain ⟨_, _, _, _, _, _, _, _, h⟩ := settleDown_frame s
  rw [h]

@[simp] theorem settleDown_trig (s : State) : (settleDown s).trig = s.trig := by
  obtain ⟨_, _, _, _, _, _, _, _, h⟩ := settleDown_frame s
  rw [h]

@[simp] theorem settleDown_mem (s : State) : (settleDown s).mem = s.mem := by
  obtain ⟨_, _, _, _, _, _, _, _, h⟩ := settleDown_frame s
  rw [h]

@[simp] theorem settleDown_pending (s : State) : (settleDown s).pending = s.pending := by
  obtain ⟨_, _, _, _, _, _, _, _, h⟩ := settleDown_frame s
  rw [h]

@[simp] theorem settleDown_rw_queue (s : State) : (settleDown s).rw.queue = s.rw.queue := by
  obtain ⟨_, _, _, _, _, _, _, _, h⟩ := settleDown_frame s
  rw [h]

@[simp] theorem settleDown_rw_created (s : State) : (settleDown s).rw.created = s.rw.created := by
  obtain ⟨_, _, _, _, _, _, _, _, h⟩ := settleDown_frame s
  rw [h]

@[simp] theorem settleDown_rw_lostVehicle (s : State) : (settleDown s).rw.lostVehicle = s.rw.lostVehicle := by
  obtain ⟨_, _, _, _, _, _, _, _, h⟩ := settleDown_frame s
  rw [h]

@[simp] theorem settleDown_rw_lostOther (s : State) : (settleDown s).rw.lostOther = s.rw.lostOther := by
  obtain ⟨_, _, _, _, _, _, _, _, h⟩ := settleDown_frame s
  rw [h]

@[simp] theorem settleDown_rw_headerVehicle (s : State) : (settleDown s).rw.headerVehicle = s.rw.headerVehicle := by
  obtain ⟨_, _, _, _, _, _, _, _, h⟩ := settleDown_frame s
  rw [h]

@[simp] theorem settleDown_rw_headerOther (s : State) : (settleDown s).rw.headerOther = s.rw.headerOther := by
  obtain ⟨_, _, _, _, _, _, _, _, h⟩ := settleDown_frame s
  rw [h]

@[simp] theorem settleDown_rw_pages (s : State) : (settleDown s).rw.pages = s.rw.pages := by
  obtain ⟨_, _, _, _, _, _, _, _, h⟩ := settleDown_frame s
  rw [h]

@[simp] theorem settleDown_ex_table (s : State) : (settleDown s).ex.table = s.ex.table := by
  obtain ⟨_, _, _, _, _, _, _, _, h⟩ := settleDown_frame s
  rw [h]

@[simp] theorem settleDown_ex_resultList (s : State) : (settleDown s).ex.resultList = s.ex.resultList := by
  obtain ⟨_, _, _, _, _, _, _, _, h⟩ := settleDown_frame s
  rw [h]

@[simp] theorem settleDown_ex_traceList (s : State) : (settleDown s).ex.traceList = s.ex.traceList := by
  obtain ⟨_, _, _, _, _, _, _, _, h⟩ := settleDown_frame s
  rw [h]

@[simp] theorem settleDown_ex_orderList (s : State) : (settleDown s).ex.orderList = s.ex.orderList := by
  obtain ⟨_, _, _, _, _, _, _, _, h⟩ := settleDown_frame s
  rw [h]

@[simp] theorem settleDown_ex_taken (s : State) : (settleDown s).ex.taken = s.ex.taken := by
  obtain ⟨_, _, _, _, _, _, _, _, h⟩ := settleDown_frame s
  rw [h]

@[simp] theorem settleDown_ex_handovers (s : State) : (settleDown s).ex.handovers = s.ex.handovers := by
  obtain ⟨_, _, _, _, _, _, _, _, h⟩ := settleDown_frame s
  rw [h]

@[simp] theorem settleDown_ex_resuming (s : State) : (settleDown s).ex.resuming = s.ex.resuming := by
  obtain ⟨_, _, _, _, _, _, _, _, h⟩ := settleDown_frame s
  rw [h]

@[simp] theorem settleDown_ex_closures (s : State) : (settleDown s).ex.closures = s.ex.closures := by
  obtain ⟨_, _, _, _, _, _, _, _, h⟩ := settleDown_frame s
  rw [h]

@[simp] theorem settleDown_ex_stray (s : State) : (settleDown s).ex.stray = s.ex.stray := by
  obtain ⟨_, _, _, _, _, _, _, _, h⟩ := settleDown_frame s
  rw [h]

@[simp] theorem settleDown_ex_sweepMs (s : State) : (settleDown s).ex.sweepMs = s.ex.sweepMs := by
  obtain ⟨_, _, _, _, _, _, _, _, h⟩ := settleDown_frame s
  rw [h]

@[simp] theorem settleDown_ex_flushMs (s : State) : (settleDown s).ex.flushMs = s.ex.flushMs := by
  obtain ⟨_, _, _, _, _, _, _, _, h⟩ := settleDown_frame s
  rw [h]

@[simp] theorem settleDown_ctrl_quietEnable (s : State) : (settleDown s).ctrl.quietEnable = s.ctrl.quietEnable := by
  obtain ⟨_, _, _, _, _, _, _, _, h⟩ := settleDown_frame s
  rw [h]

@[simp] theorem settleDown_ctrl_idleDelay (s : State) : (settleDown s).ctrl.idleDelay = s.ctrl.idleDelay := by
  obtain ⟨_, _, _, _, _, _, _, _, h⟩ := settleDown_frame s
  rw [h]

@[simp] theorem settleDown_ctrl_settleCount (s : State) : (settleDown s).ctrl.settleCount = s.ctrl.settleCount := by
  obtain ⟨_, _, _, _, _, _, _, _, h⟩ := settleDown_frame s
  rw [h]

@[simp] theorem settleDown_ctrl_settle (s : State) : (settleDown s).ctrl.settle = s.ctrl.settle := by
  obtain ⟨_, _, _, _, _, _, _, _, h⟩ := settleDown_frame s
  rw [h]

@[simp] theorem settleDown_ctrl_drain (s : State) : (settleDown s).ctrl.drain = s.ctrl.drain := by
  obtain ⟨_, _, _, _, _, _, _, _, h⟩ := settleDown_frame s
  rw [h]

@[simp] theorem settleDown_ctrl_power (s : State) : (settleDown s).ctrl.power = s.ctrl.power := by
  obtain ⟨_, _, _, _, _, _, _, _, h⟩ := settleDown_frame s
  rw [h]

@[simp] theorem settleDown_cap_number (s : State) : (settleDown s).cap.number = s.cap.number := by
  obtain ⟨_, _, _, _, _, _, _, _, h⟩ := settleDown_frame s
  rw [h]

@[simp] theorem settleDown_noContext (s : State) : (settleDown s).noContext = s.noContext := by
  simp [State.noContext]

@[simp] theorem settleDown_powerIdle (s : State) : (settleDown s).powerIdle = s.powerIdle := by
  simp [State.powerIdle]

@[simp] theorem settleDown_mayOpen (s : State) : (settleDown s).mayOpen = s.mayOpen := by
  simp [State.mayOpen]

@[simp] theorem settleDown_exchangeFree (s : State) : (settleDown s).exchangeFree = s.exchangeFree := by
  simp [State.exchangeFree]

@[simp] theorem settleDown_context (s : State) (lane : Lane) (k : Slot) : (settleDown s).context lane k = s.context lane k := by
  simp [State.context]

@[simp] theorem settleDown_resultFree (s : State) : (settleDown s).rw.page.isSome = s.rw.page.isSome := by
  have h : (advanceWriter (quietUpdate s)).rw.page.isSome = s.rw.page.isSome := by
    unfold advanceWriter quietUpdate
    repeat' first | rfl | (simp_all; done) | split
  unfold settleDown
  obtain ⟨_, h1⟩ := arbitrate_frame (advanceSweeper (advanceTrace (advanceWriter (quietUpdate s))))
  obtain ⟨_, _, _, h2⟩ := advanceSweeper_frame (advanceTrace (advanceWriter (quietUpdate s)))
  obtain ⟨_, h3⟩ := advanceTrace_frame (advanceWriter (quietUpdate s))
  rw [h1, h2, h3]
  exact h

/-- Behind a command the capture unit changes by the trace writer's next work alone. -/
theorem settleDown_cap (s : State) : (settleDown s).cap = (advanceTrace s).cap := by
  unfold settleDown
  obtain ⟨_, h⟩ := arbitrate_frame (advanceSweeper (advanceTrace (advanceWriter (quietUpdate s))))
  obtain ⟨_, _, _, h1⟩ := advanceSweeper_frame (advanceTrace (advanceWriter (quietUpdate s)))
  obtain ⟨_, _, h2⟩ := advanceWriter_frame (quietUpdate s)
  rw [h, h1, h2]
  simp only [advanceTrace, quietUpdate]
  cases s.cap.st <;> simp
  rename_i c
  cases c.page <;> simp
  split <;> simp

@[simp] theorem settleDown_inHand (s : State) (k : OrderKind) : (settleDown s).inHand k = s.inHand k := by
  simp [State.inHand]

end Sys2Proof.Machine
end

