-- ==== Sys2Proof/WellFormed.lean ====
section
/-!
DEFINITION. The checks a command's operands must meet beyond their types.
-/

namespace Sys2Proof

/-- A command is well formed when its operands could have come from the part's pins and ports: an
access returns at most the four words of a directory entry (R149, R162), and a write that clears
BUS_FAULT has the bit set in its value (R164). Every other operand is bounded by its type. -/
def Instr.wellFormed : Instr → Bool
  | .accessComplete data => data.length ≤ 4
  | .busFaultClear value => value.getLsbD 8
  | _ => true

end Sys2Proof
end

