-- ==== Sys2Proof/Tests/Slice0.lean ====
section
/-!
SUPPORT. Tests: operand checks, the worked examples of spec/, and for each statement with hypotheses a concrete state
and operands that meet them, at a boundary value where a clause has one.
-/

namespace Sys2Proof.Tests

open Sys2Proof Sys2Proof.Machine

/-! ### Helpers -/

/-- The state a command answers. -/
def after (a : Answered) : State :=
  match a with
  | .next t => t
  | _ => State.reset

/-- A two-lane part in a run state, enabled. -/
def at_ (r : RunState) : State := { State.reset with run := r, regs.enable := true, site.laneCount := 2 }

/-- An order page being read. -/
def orderPage (ph : ReadPhase) : OrderPage :=
  { page := 5, entry := { state := 2, role := 3, flags := 0, used := 40, closure := 0, first := 0, count := 0 }, off := 0,
    outcomes := 0, abandon := false, flags := 0, phase := ph }

/-- The part with an order in hand. -/
def held (k : OrderKind) (len : Nat) (ps : List Word) : State :=
  { at_ .ready with ex.taken := some (orderPage (.ready k len ps)) }

/-- The part with all the data of a LOAD read. -/
def loaded (k : OrderKind) (len : Nat) (ps : List Word) : State :=
  { at_ .ready with ex.taken := some (orderPage (.loaded k len ps)) }

/-- A context with no axles. -/
def emptyContext : Context :=
  { serial := 7, onset := some 0, loopEnd := some 0, axles := [], total := 0, lastSpeed := none, closeDeadline := some 0,
    idleDeadline := some 0, lastJoin := 0, noLoop := false, stuckLoop := false, splitBefore := false }

/-- A row part of lane L2. -/
def part (r : Row) (centroid : Nat) : RowAxle :=
  { row := r, lane := 1, straddle := false, centroid := centroid,
    near := some { chan := if r = .a then 4 else 6, area := if r = .a then 612000 else 598000 }
    far := none, clipped := false, gap := false, long := false, settling := false, oneWheel := true }

/-- An unmatched axle of row A. -/
def closedAxle : Axle :=
  { id := 1, partA := some (part .a 40000), partB := none, stage := .singleRow, own := none, borrowed := none, loads := Loads.zero,
    flags := 0, grade := none, prov := 40000 }

/-- A result page being filled. -/
def resultPage (ph : WritePhase) : ResultPage :=
  { page := 63, taken := 0, header := [], used := 4, count := 0, first := none, flush := some (0, 8192), closeWith := none,
    noted := 0, phase := ph }

/-- A record of two words. -/
def twoWords : Rec := { serial := 1, kind := .other, words := [1, 2] }

/-! ### Operand checks -/

theorem test_five_words_returned_is_ill_formed : (Instr.accessComplete [0, 0, 0, 0, 0]).wellFormed = false := by decide

theorem test_four_words_returned_is_well_formed : (Instr.accessComplete [0, 0, 0, 0]).wellFormed = true := by decide

theorem test_clear_without_the_bit_is_ill_formed : (Instr.busFaultClear 0xFFFFFEFF).wellFormed = false := by decide

theorem test_clear_with_the_bit_is_well_formed : (Instr.busFaultClear 0x100).wellFormed = true := by decide

/-- No row of the table gives bits, so no word spells a command. -/
theorem test_no_word_spells_a_command (n w : Nat) : decodeTableWord n w = none := rfl

/-! ### Worked examples of spec/ -/

/-- 01, 1.5.1: the findings of the run of frames. -/
theorem test_sequence_findings :
    Link.finding { Link.reset with ref := some (250, 1000) } 251 = .inSequence
      ∧ Link.finding { Link.reset with ref := some (251, 1001) } 254 = .gap 2
      ∧ Link.finding { Link.reset with ref := some (255, 1005) } 9 = .broken
      ∧ Link.finding { Link.reset with ref := some (10, 1016) } 12 = .gap 1
      ∧ Link.finding Link.reset 40 = .first := by decide

/-- The channel of 02, 2.8 after the frames from tick 101 on, with the baseline at sample 0. -/
def exampleHit : ChanResult :=
  [450, 900, 1400, 1100, 600, 180, 250, 150, 90, 40, 10].foldl
    (fun (r : ChanResult × Nat) net =>
      (chanFrame Detector.reset.par .running r.2 .inSequence true false (32768 + net) r.1.st, r.2 + 1))
    (ChanResult.to (.idle (256 * 32768)), 101) |>.1

/-- 02, 2.8: the closed hit's measures. -/
theorem test_example_hit :
    exampleHit.closed.bind (fun h => h.1.record 5 h.2)
      = some { chan := 5, start := 101, last := 107, area := 4880, centroid := 1655, clipped := false, gap := false, long := false,
               settling := false } := by decide

/-- 03, 3.9: the cell of L2 in band 5 holds 16,581. -/
def weighing : State :=
  { at_ .running with
    temp.rows := { a := .live 350, b := .live 350 }
    cal.cells := State.reset.cal.cells.modify 1 fun l => l.modify 5 fun c => { c with kd := 16581 } }

/-- 03, 3.9: the near wheels of both rows, and 06, 6.11: the same wheel after the update. -/
theorem test_example_wheels :
    weighing.wheelLoad 24000 15565 { chan := 4, area := 612000 } = (4726, false)
      ∧ weighing.wheelLoad 24000 15565 { chan := 6, area := 598000 } = (4619, false)
      ∧ compensatedLoad 4916 15565 16415 = 4679 := by decide

/-- 03, 3.4 and 3.9: the window and the own speed at 3,000 mm. -/
theorem test_example_match :
    weighing.inWindow (part .a 40000) (40000 + 7072) = true ∧ weighing.inWindow (part .a 40000) (40000 + 7071) = false
      ∧ weighing.inWindow (part .a 40000) (40000 + 283088) = true ∧ weighing.inWindow (part .a 40000) (40000 + 283089) = false
      ∧ weighing.ownSpeed (part .a 40000) 56384 = 24000 := by decide

/-- 04, 4.4: the worked values on the built-in curve, and 03, 3.9 on a loaded one. -/
theorem test_curve_values :
    [-355, -300, 50, 123, 350, 745].map (curveFactor builtInCurve.points)
      = [(17039, true), (17039, false), (16569, false), (16479, false), (16138, false), (15647, true)]
      ∧ curveFactor [(300, 15761), (400, 15368)] 350 = (15565, false) := by decide

/-- 04, 4.2.1: filtering one probe. -/
theorem test_probe_filter :
    ProbeState.take 10 (.reading 218) (.good 212 213 214 9792 0 0) = .good 213 214 218 9796 0 0
      ∧ ProbeState.take 10 (.reading 219) (.good 213 214 218 9796 0 0) = .good 214 218 219 9808 0 0
      ∧ ProbeState.take 10 (.reading 240) (.good 214 218 219 9808 0 0) = .good 214 218 219 9808 0 1
      ∧ ProbeState.take 10 .noAnswer (.good 214 218 219 9808 0 1) = .good 214 218 219 9808 1 1
      ∧ ProbeState.take 10 (.reading 220) (.good 214 218 219 9808 1 1) = .good 218 219 220 9820 0 0
      ∧ reported 9796 = 212 ∧ reported 9820 = 214 := by decide

/-- The cell of 06, 6.11 as the update finds it. -/
def tallied : Cell :=
  { kd := 16581, count := 64, sum := 377600, target := some 5800, updates := 11, lastTick := 0, limit := false }

/-- 06, 6.11: the figures of the update, and 6.11.1 near the lower limit. -/
theorem test_drift_update :
    driftMean tallied 64 = 5900 ∧ driftRatio 5800 5900 = 16106 ∧ driftStep 16106 164 = -164 ∧ driftProposed 16581 (-164) = 16415
      ∧ driftProposed 13200 (-164) = 13068 := by decide

/-- 07, 7.11: a late pulse at the firing tick, deferred past the running one, and the second after both. -/
theorem test_pulse_places :
    requestedStart 509100 (.distance 20000)
        (some { serial := 9001, lane := 1, cls := 6, gross := 44300, heaviest := 11900, grade := .fair, meanSpeed := 25000, flags := 0,
                rowB := some 8000000 }) = (0, true, false)
      ∧ earliestStart 509100 [{ start := 508900, stop := 509310, tset := 1, running := true }] 410 0 = 210
      ∧ earliestStart 509100 [{ start := 508900, stop := 509310, tset := 1, running := true },
          { start := 509310, stop := 509720, tset := 1, running := false }] 410 0 = 620 := by decide

/-! ### Rules at their edges -/

/-- Line F3 changed so many times at one tick. -/
def edged : Nat → State
  | 0 => at_ .ready
  | n + 1 => after (exec (.fieldEdge 3 (n % 2 == 0)) (edged n))

/-- R126: a level that goes up and down again at one tick gives no edge, one that ends up changed gives one. -/
theorem test_reverted_level_gives_no_edge :
    (edged 2).trig.waiting = [] ∧ (edged 2).trig.lines.get 3 = .input false ∧ (edged 3).trig.waiting = [.fieldEdge 3 true 0] := by decide

/-- R126: an edge that may still be withdrawn keeps its cascade waiting, till its tick is over. -/
theorem test_edge_waits_for_its_tick :
    (after (exec (.cascade 0) (edged 1))).trig.waiting = (edged 1).trig.waiting
      ∧ (after (exec (.cascade 0) (after (step (edged 1))))).trig.waiting = [] := by decide

/-- R151: an index whose entry is being read still pends, so writing it again adds nothing. -/
theorem test_handover_pends_until_handled :
    (after (exec (.handover 7) (after (exec .pendingHandover (after (exec (.handover 7) (at_ .ready))))))).ex.handovers = [7] := by decide

/-- R132: LOW at 20.4 degrees for a threshold of 20.0, HIGH at 20.5, and the update carries the occurrence. -/
theorem test_threshold_sides :
    Side.after .unknown 200 (.live 200) = .high ∧ Side.after .low 200 (.live 204) = .low ∧ Side.after .low 200 (.live 205) = .high
      ∧ Side.after .high 200 (.live 196) = .high ∧ Side.after .high 200 (.live 195) = .low ∧ Side.after .high 200 .none = .unknown := by
  decide

/-! ### Witnesses: the machine -/

theorem witness_StepRunsFrontCommand : { at_ .ready with pending := [Instr.nop, .sweep] }.pending = .nop :: [.sweep] := rfl

theorem witness_StepRunsFrontCommand_idle : (at_ .running).pending = [] := rfl

/-- The Record Writer has its access to the last word of a record granted. -/
def writing : State :=
  { at_ .running with rw.queue := [twoWords], rw.page := some (resultPage (.record 1)), ex.grant := some .recordWriter }

/-- The sweeper has its access to the last page's entry granted. -/
def reading : State := { at_ .ready with ex.work := some (.readEntry 63 true), ex.grant := some .sweeper }

theorem witness_CompletedAccessStaysInItsWords :
    (Memory.wf writing.mem = true ∧ writing.ex.grant = some .recordWriter
        ∧ writing.request .recordWriter = some (.write 262164 [2]) ∧ ∃ t, exec (.accessComplete []) writing = .next t)
      ∧ (Memory.wf reading.mem = true ∧ reading.ex.grant = some .sweeper ∧ reading.request .sweeper = some (.read 1008 4)
        ∧ ∃ t, exec (.accessComplete [0x11, 0, 0, 0]) reading = .next t) := by
  refine ⟨⟨by decide, by decide, by decide, ?_⟩, by decide, by decide, by decide, ?_⟩
  all_goals exact ⟨_, rfl⟩

/-- A running part with a page lent, a byte of memory, the lock set and a command waiting. -/
def busy : State :=
  { at_ .running with
    pending := [.nop]
    mem := [(4096, 1)]
    regs.xbase := 4096
    cal.lock := true
    ex.resultList := [63]
    ex.table := State.reset.ex.table.set 63 .queuedResult }

theorem busy_no_context (l : Lane) (k : Slot) : busy.context l k = none := by
  cases k <;> revert l <;> decide

theorem busy_bounded : busy.Bounded where
  queue := by decide
  hitsA := by decide
  hitsB := by decide
  rowA := by decide
  frames := by decide
  pulses := by unfold oneRuns; decide
  axles := by
    intro l k c h
    simp [busy_no_context] at h

theorem busy_pages : busy.PagesOwned where
  resultNodup := by decide
  traceNodup := by decide
  orderNodup := by decide
  queuedResult := by decide
  queuedTrace := by decide
  queuedOrder := by decide
  filling := by decide
  fillOnce := by decide
  taken := by decide
  work := by intro w h; simp [busy, at_, State.reset, Exchange.reset] at h

theorem busy_run : busy.RunConsistent where
  enable := by decide
  power := by decide
  channels := by decide
  hits := by decide
  rowA := by decide
  contexts := by decide

theorem witness_invariants :
    Memory.wf busy.mem = true ∧ busy.PortsConsistent ∧ busy.DriftBounded ∧ busy.Bounded ∧ busy.PagesOwned ∧ busy.RunConsistent
      ∧ busy.NoCurveUnderLock ∧ busy.cal.lock = true ∧ busy.pending.head? ≠ some .hardReset ∧ ∃ t, step busy = .next t := by
  refine ⟨by decide, by unfold State.PortsConsistent; decide, by unfold State.DriftBounded; decide, busy_bounded, busy_pages,
    busy_run, ?_, by decide, by decide, _, rfl⟩
  intro _ t h
  simp [busy, at_, State.reset, Exchange.reset] at h

theorem witness_GrantGoesToHighest :
    (writing.ex.grant = some .recordWriter ∧ ((settleDown writing).request .recordWriter).isSome = true)
      ∧ ({ writing with ex.grant := none }.ex.grant = none
        ∧ (settleDown { writing with ex.grant := none }).ex.grant = some .recordWriter)
      ∧ (settleDown (at_ .ready)).ex.grant = none := by decide

/-! ### Witnesses: registers and power -/

theorem witness_EnableBeginsReady :
    State.reset.run = .disabled ∧ State.reset.regs.enable = false ∧ State.reset.pins.pfi = false ∧ State.reset.powerIdle = true
      ∧ State.reset.trig.lines.get 3 = .input false ∧ State.reset.regs.busFault = false
      ∧ (let s : State := { State.reset with pins.pfi := true };
        s.run = .disabled ∧ s.regs.enable = false ∧ s.pins.pfi = true ∧ s.powerIdle = true ∧ s.noContext = true ∧ s.ex.taken = none
          ∧ s.cap.st = .idle ∧ s.rw.page = none ∧ s.rw.queue = [] ∧ s.ex.resuming = false ∧ s.regs.busFault = false) := by decide

theorem witness_DisableForgets : (at_ .running).regs.enable = true ∧ (at_ .running).run.measures = true := by decide

theorem witness_SoftRestartClears :
    (at_ .running).regs.enable = true ∧ (at_ .running).run.works = true ∧ (at_ .running).powerIdle = true
      ∧ (at_ .running).rw.page = none
      ∧ (let s : State := { at_ .running with rw.queue := [twoWords], rw.page := some (resultPage .rest) };
        s.rw.page = some (resultPage .rest) ∧ (resultPage .rest).phase = .rest ∧ s.rw.queue ≠ [] ∧ s.regs.busFault = false
          ∧ s.ex.resultList = []) := by decide

theorem witness_RegisterWindow :
    (at_ .ready).regs.enable = true ∧ State.reset.regs.enable = false ∧ (63 : Page).val = (0xFFFFFFFF : Word).toNat % 64
      ∧ ((at_ .ready).run.works = true ∧ (at_ .ready).regs.busFault = false ∧ (at_ .ready).powerIdle = true
        ∧ 63 ∉ (at_ .ready).ex.handovers)
      ∧ State.reset.run.works = false ∧ (63 : Page) ∈ { at_ .ready with ex.handovers := [63] }.ex.handovers := by decide

/-- The part with BUS_FAULT set. -/
def faulted (r : RunState) : State := { at_ r with regs.busFault := true }

theorem witness_RegisterWindow_status :
    ((0x1E00 : Word).getLsbD 8 = false ∧ (0x1F00 : Word).getLsbD 8 = true)
      ∧ ((faulted .disabled).regs.busFault = true ∧ (faulted .disabled).run = .disabled)
      ∧ ((faulted .ready).run.works = true ∧ (faulted .ready).powerIdle = true ∧ (faulted .ready).rw.page = none
        ∧ (faulted .ready).capturing = false ∧ (faulted .ready).ex.taken = none)
      ∧ ({ faulted .ready with rw.page := some (resultPage .rest) }.rw.page = some (resultPage .rest)
        ∧ (resultPage .rest).phase = .rest ∧ (faulted .ready).run ≠ .disabled) := by decide

/-- A set's timer in a state. -/
def withTimer (r : RunState) (t : TimerState) : State :=
  { at_ r with trig.sets := State.reset.trig.sets.modify 7 fun x => { x with timer := t } }

theorem witness_PowerFailBegins :
    State.reset.run.works = false ∧ ((at_ .quiet).run.works = true ∧ (at_ .quiet).powerIdle = true)
      ∧ (let s := withTimer .ready (.running 5);
        s.run = .ready ∧ s.powerIdle = true ∧ s.regs.busFault = false ∧ s.ex.resuming = false ∧ s.noContext = true
          ∧ s.ex.taken = none ∧ s.cap.st = .idle ∧ s.rw.page = none ∧ s.rw.queue = [] ∧ (s.trig.sets.get 7).timer = .running 5) := by
  decide

theorem witness_PowerFailEnds :
    State.reset.run ≠ .powerFail ∧ (withTimer .powerFail (.held (-3))).run = .powerFail
      ∧ ((withTimer .powerFail (.held (-3))).trig.sets.get 7).timer = .held (-3)
      ∧ (withTimer .powerFail (.held (-3))).trig.lines.get 3 = .input false := by decide

/-- A part in the power-fail sequence whose Record Writer's access is granted. -/
def failing (placed : Nat) (closing : Bool) (ph : WritePhase) : State :=
  { writing with
    rw.page := some (resultPage ph)
    ex.resultList := [62]
    ctrl.power := some { placed := placed, closing := closing } }

theorem witness_PowerFailEnds_places (placed : Nat) (closing : Bool) (ph : WritePhase) :
    (failing placed closing ph).FailPlaces { placed := placed, closing := closing }
      ∧ (failing placed closing ph).ex.grant = some .recordWriter ∧ (failing placed closing ph).rw.page = some (resultPage ph)
      ∧ (resultPage ph).closeWith = none ∧ (failing placed closing ph).rw.queue = twoWords :: [] ∧ 1 + 1 = twoWords.words.length
      ∧ (failing placed closing ph).ex.resultList = 62 :: [] ∧ (failing placed closing ph).ctrl.power ≠ none :=
  ⟨⟨rfl, rfl, rfl, rfl, rfl⟩, rfl, rfl, rfl, rfl, rfl, rfl, by simp [failing]⟩

/-- The sequence begun in READY with records queued and a page lent, none lent, a page busy, and a page at rest. -/
theorem witness_PowerFailEnds_begins :
    (let s : State := { at_ .ready with rw.queue := [twoWords], ex.resultList := [63] };
      s.run = .ready ∧ s.powerIdle = true ∧ s.regs.busFault = false ∧ s.ex.resuming = false ∧ s.noContext = true
        ∧ s.ex.taken = none ∧ s.cap.st = .idle ∧ s.rw.page = none ∧ s.rw.queue ≠ [] ∧ s.ex.resultList = 63 :: []
        ∧ { s with ex.resultList := [] }.ex.resultList = [])
      ∧ (resultPage (.record 1)).phase ≠ .rest ∧ (resultPage .rest).phase = .rest ∧ (resultPage .rest).closeWith = none
      ∧ (at_ .ready).rw.queue = [] := by decide

/-! ### Witnesses: sensors -/

/-- Lane L2's loop in a state. -/
def withLoop (r : RunState) (l : LoopState) : State := { at_ r with loops := State.reset.loops.set 1 l }

theorem witness_LoopUnitFollowsItsInput :
    ((at_ .ready).run = .ready ∧ (at_ .draining).run = .draining ∧ (1 : Lane).val < (at_ .ready).site.laneCount
        ∧ (at_ .ready).loops.get 1 = .vacant)
      ∧ ((withLoop .ready (.occupied 9 491520)).loops.get 1 = .occupied 9 491520 ∧ 491520 ≤ 491520
        ∧ (withLoop .ready (.occupied 9 491519)).loops.get 1 = .occupied 9 491519 ∧ 491519 < 491520
        ∧ (withLoop .ready (.stuck 9)).loops.get 1 = .stuck 9)
      ∧ State.reset.run.works = false ∧ (at_ .ready).site.laneCount ≤ (2 : Lane).val := by decide

theorem witness_OnsetOpensContext (r : RunState) (h : r = .running ∨ r = .quiet ∨ r = .waking) :
    ((at_ r).run = .running ∨ (at_ r).run = .quiet ∨ (at_ r).run = .waking) ∧ (at_ r).powerIdle = true
      ∧ (1 : Lane).val < (at_ r).site.laneCount ∧ (at_ r).loops.get 1 = .vacant ∧ (at_ r).context 1 .openSlot = none
      ∧ (at_ r).cap.st = .idle := by
  rcases h with rfl | rfl | rfl <;> decide

/-- A context in a slot of lane L2. -/
def withContext (r : RunState) (k : Slot) (c : Context) : State := setContext 1 k (some c) (withLoop r (.occupied 9 491520))

theorem witness_OnsetOpensContext_loop_end :
    let s := withContext .draining .openSlot emptyContext;
    s.run.measures = true ∧ (1 : Lane).val < s.site.laneCount ∧ s.loops.get 1 = .occupied 9 491520
      ∧ s.context 1 .openSlot = some emptyContext ∧ s.context 1 .closingSlot = none := by decide

/-- The receiver with a reference and a silence timer. -/
def listening (r : RunState) (n : Nat) : State := { at_ r with link := { Link.reset with ref := some (250, 0), silence := some n } }

theorem witness_FramesDriveChannels_accepted :
    ((at_ .ready).run.works = true ∧ (at_ .ready).measuring = false ∧ (at_ .ready).link.ref = none)
      ∧ ((listening .ready 1).measuring = false ∧ (listening .ready 1).link.silence ≠ some 0)
      ∧ State.reset.run.works = false
      ∧ ((listening .ready 0).link.ref ≠ none ∧ (listening .ready 0).link.silence = some 0) := by decide

theorem witness_FramesDriveChannels (r : RunState) (h : r = .running ∨ r = .quiet ∨ r = .waking) :
    ((listening r 1).run = .running ∨ (listening r 1).run = .quiet ∨ (listening r 1).run = .waking)
      ∧ (listening r 1).powerIdle = true ∧ (listening r 1).link.silence ≠ some 0 := by
  rcases h with rfl | rfl | rfl <;> decide

/-- Net samples and ages on both sides of each threshold, with baseline 0 and the defaults. -/
theorem witness_ChannelRules :
    let par := Detector.reset.par;
    let net (x : Nat) : Int := (x : Int) - (((256 * 32768 + 128) / 256 : Nat) : Int);
    (par.onThr : Int) ≤ net 33168 ∧ net 33167 < par.onThr ∧ (par.offThr : Int) ≤ net 32968 ∧ net 32967 < par.offThr
      ∧ tickSince 16383 0 < par.maxLen ∧ par.maxLen ≤ tickSince 16384 0 ∧ 1 < par.offCount ∧ 2 + 1 < par.offCount
      ∧ par.offCount ≤ 3 + 1 ∧ { par with offCount := 1 }.offCount ≤ 1 := by decide

theorem witness_ChannelRules_closed_hit :
    let h (sum w : Int) : OpenHit := { start := 5, last := 9, sum := sum, wsum := w, clipped := false, gap := false, settling := false };
    (h 0 0).sum < 1 ∧ 1 ≤ (h 1 (-1)).sum ∧ (h 1 (-1)).wsum < 0 ∧ 1 ≤ (h 2147483647 0).sum ∧ (h 2147483647 0).sum ≤ 2147483647
      ∧ 0 ≤ (h 2147483647 0).wsum ∧ 2147483647 < (h 2147483648 0).sum := by decide

theorem witness_LinkLossAborts :
    (listening .running 63).link.silence = some 63 ∧ 63 < 64 ∧ (listening .running 64).link.silence = some 64 := by decide

/-- Probes T0 and T5 GOOD, T0 polled and T5 still to come. -/
def polling (left : Nat) : State :=
  { at_ .ready with
    temp.probes := (State.reset.temp.probes.set 0 (.good 200 200 200 9600 0 0)).set 5 (.good 200 200 200 9600 0 0)
    temp.round := some [5]
    temp.line := some { probe := 0, left := left, discard := false } }

theorem witness_ProbeLineExchange :
    (let s := { polling 0 with temp.round := none, temp.line := none };
      s.run.works = true ∧ s.temp.round = none ∧ s.clock % 8192 = 0 ∧ s.temp.secondUsed = false
        ∧ (indices 6).filter (fun q => decide (s.temp.probes.get q ≠ .absent)) = 0 :: [5] ∧ s.temp.line = none)
      ∧ ((polling 0).temp.line = some { probe := 0, left := 0, discard := false } ∧ (polling 0).temp.round = some (5 :: []))
      ∧ (polling 1).temp.line = some { probe := 0, left := 1, discard := false }
      ∧ (let x : Polled := { probe := 0, left := 0, discard := true };
        { polling 0 with temp.line := some x }.temp.line = some x ∧ x.discard = true
          ∧ { polling 0 with temp.round := some [] }.temp.round = some [])
      ∧ (let a (e : Bool) : Answer := { addr := 0, reading := 0xFE70, error := e, checkOk := true };
        (a false).checkOk = true ∧ (a false).addr = 0 ∧ (a false).error = false ∧ (a true).error = true)
      ∧ (let a : Answer := { addr := 1, reading := 0, error := false, checkOk := true };
        a.addr ≠ 0) := by decide

theorem witness_ProbeFilter :
    (-400 : Int) ≤ 213 ∧ (222 : Int) ≤ 850 ∧ |16 * ((222 : Int) + 400) - (9792 : Nat)| ≤ 16 * (10 : Nat)
      ∧ 16 * ((10 : Nat) : Int) < |16 * ((223 : Int) + 400) - (9792 : Nat)| ∧ 9 + 1 = 10 := by decide

/-- One probe GOOD and its reported value: F / 16 - 400 (R66). -/
theorem witness_row_shows :
    ∃ n w1 w2 w3 f miss rej, (some (5 : Probe)) = some n ∧ (polling 0).temp.probes.get n = .good w1 w2 w3 f miss rej
      ∧ (200 : Int) = (((f + 8) / 16 : Nat) : Int) - 400 := ⟨5, 200, 200, 200, 9600, 0, 0, rfl, by decide, by decide⟩

/-- A row with neither probe assigned shows no value. -/
theorem witness_row_shows_none (v : Int) :
    ¬∃ n w1 w2 w3 f miss rej, (none : Option Probe) = some n ∧ (polling 0).temp.probes.get n = .good w1 w2 w3 f miss rej
      ∧ v = (((f + 8) / 16 : Nat) : Int) - 400 := by simp

theorem witness_SecondCloseEvaluatesRows :
    (at_ .ready).run.works = true ∧ (at_ .ready).temp.round = none ∧ (at_ .ready).clock % 8192 = 0
      ∧ (at_ .ready).temp.secondUsed = false ∧ (∀ p, (at_ .ready).temp.probes.get p = .absent)
      ∧ (at_ .ready).clock / 8192 < { at_ .ready with temp.summary.next := 1 }.temp.summary.next
      ∧ { at_ .ready with temp.summary.next := 0 }.temp.summary.next ≤ (at_ .ready).clock / 8192
      ∧ State.reset.temp.bounds.length = 7 := by decide

/-- Line F3 as output with one pulse, or two. -/
def pulsing (running : Bool) (more : List Pulse) : State :=
  { at_ .ready with
    clock := 20
    trig.lines := State.reset.trig.lines.set 3 (.output ({ start := 10, stop := 20, tset := 0, running := running } :: more)) }

theorem witness_FieldLineEvents :
    ((at_ .ready).run.works = true ∧ (at_ .ready).trig.lines.get 3 = .input false ∧ false ≠ true
        ∧ (at_ .ready).trig.edgeTaken.get 3 = false ∧ State.reset.run.works = false ∧ (pulsing true []).isInput 3 = false
        ∧ { at_ .ready with trig.edgeTaken := Tab.fill 4 true }.trig.edgeTaken.get 3 = true)
      ∧ (let p : Pulse := { start := 10, stop := 20, tset := 0, running := false };
        (pulsing false []).trig.lines.get 3 = .output (p :: []) ∧ (∀ q ∈ [p], q.running = false)
          ∧ reached (pulsing false []).clock p.start = true)
      ∧ (let p : Pulse := { start := 10, stop := 20, tset := 0, running := true };
        let q : Pulse := { start := 20, stop := 30, tset := 1, running := false };
        (pulsing true []).trig.lines.get 3 = .output (p :: []) ∧ (pulsing true [q]).trig.lines.get 3 = .output (p :: [q])
          ∧ p.running = true ∧ reached (pulsing true [q]).clock p.stop = true) := by decide

/-! ### Witnesses: vehicles, timers, triggers -/

/-- A CLOSING context of L2 with its loop clear. -/
def closing (c : Context) : State := setContext 1 .closingSlot (some c) (at_ .running)

theorem witness_DeadlinesCloseContexts :
    let full : Context := { emptyContext with axles := [closedAxle], total := 1 };
    let idle : Context := { full with noLoop := true };
    let free (c : Context) : Prop :=
      (closing c).run ≠ .draining ∧ (closing c).capturing = false ∧ (closing c).context 1 .closingSlot = some c ∧ c.settled = true
        ∧ reached (closing c).clock 0 = true
    (free emptyContext ∧ free full ∧ free idle)
      ∧ (emptyContext.axles = [] ∧ emptyContext.noLoop = false ∧ emptyContext.closeDeadline = some 0
        ∧ (closing emptyContext).loopClear 1 = true)
      ∧ (full.axles ≠ [] ∧ full.noLoop = false ∧ full.closeDeadline = some 0 ∧ (closing full).loopClear 1 = true)
      ∧ (idle.axles ≠ [] ∧ idle.noLoop = true ∧ idle.idleDeadline = some 0) := by decide

theorem witness_RunTimersExpire :
    (let s (n : Nat) : State := { at_ .draining with ctrl.drain := some n };
      (s 40960).run = .draining ∧ (s 40960).ctrl.drain = some 40960 ∧ (s 40959).ctrl.drain = some 40959)
      ∧ (let s (n : Nat) : State := { at_ .running with ctrl.quietTimer := some n, ctrl.quietEnable := true };
        (s 491520).run = .running ∧ (s 491520).ctrl.quietTimer = some 491520 ∧ (s 491520).ctrl.quietEnable = true
          ∧ (s 491520).quietHolds = true ∧ (s 491520).ctrl.idleDelay * 8192 ≤ 491520 ∧ 491519 < (s 491519).ctrl.idleDelay * 8192)
      ∧ (let s (n : Nat) : State := { at_ .waking with ctrl.settle := some (n, 256) };
        (s 256).run = .waking ∧ (s 256).ctrl.settle = some (256, 256) ∧ (s 255).ctrl.settle = some (255, 256)) := by decide

theorem witness_TimersAndCascades :
    (let s := withTimer .ready (.running 0);
      s.run.works = true ∧ (s.trig.sets.get 7).timer = .running 0 ∧ reached s.clock 0 = true ∧ reached s.clock 1 = false)
      ∧ (let s := { at_ .ready with trig.waiting := [.timer 0, .temperature .a (.live 0) 0] };
        s.run.works = true ∧ s.trig.waiting[1]? = some (.temperature .a (.live 0) 0) ∧ s.trig.waiting[0]? = some (.timer 0)
          ∧ ∀ n, (s.trig.sets.get n).enabled = false) := by decide

/-- Set TS7 alone enabled, fired by a timer: a pulse, a timer, a capture and a report, once. -/
def firing (timing : PulseTiming) (f : Factor) (ps : List Pulse) : State :=
  { at_ .ready with
    trig.waiting := [.timer 7]
    trig.lines := State.reset.trig.lines.set 3 (.output ps)
    trig.sets := State.reset.trig.sets.modify 7 fun x =>
      { x with
        enabled := true
        dfn := { x.dfn with
                 once := true, factor := f, report := true, pulse := some { line := 3, width := 1, timing := timing }
                 timerAct := some { target := 7, op := .start }, captureAct := some { lane := none, pre := 0, maxFrames := 512 } } } }

theorem witness_TriggerActions :
    (let s := firing (.fixed 0) .timer [];
      s.run.works = true ∧ s.trig.waiting[0]? = some (.timer 7) ∧ (∀ m, (s.trig.sets.get m).enabled = decide (m = 7))
        ∧ factorMatches s 7 (.timer 7) = true ∧ (s.trig.sets.get 7).dfn.enableMask = 0 ∧ (s.trig.sets.get 7).dfn.disableMask = 0
        ∧ (s.trig.sets.get 7).dfn.pulse = some { line := 3, width := 1, timing := .fixed 0 } ∧ s.trig.lines.get 3 = .output []
        ∧ s.cap.st = .idle ∧ (s.trig.sets.get 7).dfn.report = true
        ∧ (s.trig.sets.get 7).dfn.timerAct = some { target := 7, op := .start }
        ∧ (s.trig.sets.get 7).dfn.captureAct = some { lane := none, pre := 0, maxFrames := 512 })
      ∧ factorMatches (firing (.fixed 0) .backlog []) 7 (.timer 7) = false
      ∧ (let q : Pulse := { start := 0, stop := 1, tset := 0, running := false };
        (firing (.distance 0) .timer [q, q, q, q]).trig.lines.get 3 = .output [q, q, q, q] ∧ 4 ≤ [q, q, q, q].length ∧ [q, q, q].length < 4)
      ∧ (let none_ := State.reset.trig.sets.get 0;
        none_.dfn.pulse = none ∧ none_.dfn.timerAct = none ∧ none_.dfn.captureAct = none ∧ none_.dfn.report = false) := by decide

theorem witness_TriggersMatch :
    (Factor.timer.code ≠ TrigEvent.code (.backlog 32))
      ∧ ((firing (.fixed 0) (.temperature .b (-400) true false true) []).trig.sets.get 7).dfn.factor
        = .temperature .b (-400) true false true
      ∧ (let c : VehicleCond := { lanes := some 9, classes := some (0, 63), grossMin := 0, heaviestMin := 0, grades := none, flags := none };
        ((firing (.fixed 0) (.vehicle c) []).trig.sets.get 7).dfn.factor = .vehicle c)
      ∧ ∀ row theta up down deg, (State.reset.trig.sets.get 0).dfn.factor ≠ .temperature row theta up down deg := by
  refine ⟨by decide, by decide, by decide, ?_⟩
  intro row theta up down deg h
  exact absurd h (by simp [State.reset, TriggerUnit.reset, TriggerSet.reset, TriggerDef.reset, Tab.fill, Tab.get])

/-- A frame of the history. -/
def oneFrame (n : Nat) : HistFrame :=
  { num := n, tick := n, samples := Tab.fill 16 1, overRange := Tab.fill 16 false, finding := .inSequence }

/-- A capture in lane L2 whose page is in a phase, the history holding frame 3 alone. -/
def copying (ph : TracePhase) (frames : Nat) (r : EndReason) (stop : Option (Nat × EndReason)) : State :=
  let pg : TracePage := { TracePage.taken 9 0 with frames := frames, phase := ph, reason := r }
  { at_ .ready with
    history := { frames := [oneFrame 3], next := 4 }
    cap := { number := 1, st := .capturing { CaptureRun.start { lane := 1, pre := 0, maxFrames := 512 } 7 1 History.reset pg with stop := stop } }
    ex.grant := some .traceWriter }

theorem witness_CaptureCopiesFrames :
    (let req : ArmRequest := { lane := 1, pre := 1024, maxFrames := 512 };
      let s : State := { at_ .quiet with cap.st := .armed req, ex.traceList := [63] };
      s.run = .quiet ∧ s.powerIdle = true ∧ (1 : Lane).val < s.site.laneCount ∧ s.loops.get 1 = .vacant
        ∧ s.context 1 .openSlot = none ∧ s.cap.st = .armed req ∧ req.lane = 1 ∧ s.ex.traceList = 63 :: [] ∧ s.regs.busFault = false
        ∧ { s with ex.traceList := [] }.ex.traceList = [] ∧ (faulted .ready).regs.busFault = true)
      ∧ (let h (s : State) : List HistFrame := s.history.frames;
        let s := copying .rest 507 .none none;
        s.regs.busFault = false ∧ (h s).find? (fun f => decide (f.num = 3)) = some (oneFrame 3)
          ∧ (h s).find? (fun f => decide (f.num = 4)) = none ∧ max 0 (s.history.next - (h s).length) = 3 ∧ 507 < 508
          ∧ 508 ≤ 508 ∧ s.ex.traceList = [])
      ∧ (let s := copying (.frame (oneFrame 2) 0) 0 .none (some (3, .close));
        s.powerIdle = true ∧ s.ex.resuming = false ∧ s.ex.grant = some .traceWriter ∧ s.traceFilling = some 9)
      ∧ (copying .closeEntry 508 .none none).traceFilling = some 9 ∧ EndReason.close ≠ .none := by decide

/-- The one position that has left the history moves to the oldest frame, and the frame there is taken up. -/
theorem test_stale_frame_given_up :
    (match (advanceTrace (copying (.frame (oneFrame 2) 0) 0 .none none)).cap.st with
      | .capturing c => (c.pos, c.page.map fun pg => (pg.discontinuous, decide (pg.phase = .frame (oneFrame 3) 0)))
      | _ => (0, none)) = (3, some (true, true)) := by decide

/-! ### Witnesses: hits, axles, vehicles -/

/-- A closed hit of a channel. -/
def hitOf (c : Chan) (centroid : Nat) : Hit :=
  { chan := c, start := 0, last := 100, area := 1000, centroid := centroid, clipped := false, gap := false, long := false,
    settling := false }

/-- L1's far half and L2's near half of row A hold hits 1,024 apart, the window's end. -/
def pairing : State := { at_ .running with det.hits := { a := [hitOf 1 0, hitOf 4 1024], b := [] } }

theorem witness_HitsPairAndExpire :
    (∃ c ∈ pairing.det.hits.get (chanRow (hitOf 1 0).chan), pairing.PairCandidate (hitOf 1 0) c)
      ∧ (∀ c ∈ (at_ .running).det.hits.get .a, ¬(at_ .running).PairCandidate (hitOf 1 0) c)
      ∧ (∀ h ∈ pairing.det.hits.get .a, 16 * 64 ≤ h.centroid + 16 * pairing.axle.par.window)
      ∧ (∀ h ∈ pairing.det.hits.get .b, 16 * 64 ≤ h.centroid + 16 * pairing.axle.par.window)
      ∧ ∀ w ∈ pairing.axle.rowA, 16 * 64 ≤ pairing.matchHorizon w.part := by
  refine ⟨⟨hitOf 4 1024, by decide, ?_⟩, ?_, by decide, by decide, by decide⟩
  · unfold State.PairCandidate
    exact ⟨by decide, by decide⟩
  · intro c h
    exact absurd h (by decide +revert)

/-- Row-A row axles waiting in lane L2, sixteen or fewer. -/
def waiting (n : Nat) : State := { at_ .running with axle.rowA := List.replicate n { id := 0, part := part .a 40000 } }

theorem witness_RowAxlesMatchAndExpire :
    (let l := List.replicate 15 ({ id := 0, part := part .a 40000 } : WaitingAxle);
      (waiting 15).axle.rowA = l ++ [] ∧ (waiting 15).axle.rowA.length < 16 ∧ (∀ w ∈ l, w.part.centroid ≤ (part .a 40000).centroid)
        ∧ (waiting 16).axle.rowA = { id := 0, part := part .a 40000 } :: (l ++ []) ∧ 16 ≤ (waiting 16).axle.rowA.length
        ∧ (part .a 39999).centroid < (part .a 40000).centroid)
      ∧ (let w : WaitingAxle := { id := 0, part := part .a 40000 };
        (waiting 1).axle.rowA = [] ++ w :: [] ∧ (∃ a ∈ w.part.lanes, a ∈ (part .b 56384).lanes)
          ∧ (waiting 1).inWindow w.part 56384 = true
          ∧ (let p : RowAxle := { part .b 56384 with lane := 0 };
            (¬∃ a ∈ w.part.lanes, a ∈ p.lanes) ∧ ∃ a ∈ w.part.lanes, ∃ b ∈ p.lanes, a.val + 1 = b.val ∨ b.val + 1 = a.val))
      ∧ (∀ u ∈ (waiting 0).axle.rowA, ¬((waiting 0).inWindow u.part 56384 = true))
      ∧ (at_ .ready).run.measures = false ∧ (at_ .draining).run.measures = true ∧ (part .a 0).row = .a ∧ (part .b 0).row = .b := by decide

theorem witness_AxleChoosesLaneAndContext :
    closedAxle.partA = some (part .a 40000) ∧ (at_ .running).PrimaryLane (part .a 40000) 1
      ∧ ((at_ .running).context 1 .openSlot = none ∧ (at_ .running).context 1 .closingSlot = none ∧ (at_ .running).mayOpen = true
        ∧ (at_ .draining).mayOpen = false)
      ∧ ((withLoop .running (.stuck 9)).loops.get 1 = .stuck 9 ∧ (closing emptyContext).context 1 .closingSlot = some emptyContext
        ∧ (closing emptyContext).context 1 .openSlot = none)
      ∧ (let s := setContext 1 .openSlot (some emptyContext) (closing emptyContext);
        s.context 1 .openSlot = some emptyContext ∧ s.context 1 .closingSlot = some emptyContext ∧ emptyContext.onset = some 0
          ∧ { emptyContext with onset := none }.onset = none) :=
  ⟨rfl, Or.inl ⟨rfl, rfl⟩, by decide, by decide, by decide⟩

/-- A straddle over L1 and L2 with a context in L2 alone belongs to L2. -/
theorem witness_straddle : (closing emptyContext).PrimaryLane { part .a 40000 with lane := 0, straddle := true } 1 := by
  refine Or.inr ⟨rfl, 1, rfl, Or.inl ⟨Or.inl ⟨⟨.closingSlot, emptyContext, by decide⟩, ?_⟩, rfl⟩⟩
  rintro ⟨k, c, h⟩
  cases k <;> simp [closing, State.context, setContext, at_, State.reset, Assembler.reset, LaneSlots.get, LaneSlots.set, Tab.modify,
    Tab.set, Tab.fill, Tab.get] at h

/-- A context that holds one axle with a last speed. -/
def moving : Context := { emptyContext with axles := [closedAxle], total := 1, lastSpeed := some 24000 }

/-- Split distance 13,000 mm at 24,000 mm/s: 71,000 sixteenths of a tick make 13,001 mm, rounded. -/
theorem witness_AxleJoinsOrSplits :
    (closing moving).context 1 .closingSlot = some moving ∧ IsLatest moving.axles 40000
      ∧ (let y : Axle := { closedAxle with partA := some (part .a 111003) };
        (closing moving).mayOpen = true ∧ 40000 < (closing moving).provisional y moving.lastSpeed
          ∧ (closing moving).veh.splitDist
            < halfUp (((closing moving).provisional y moving.lastSpeed - 40000).toNat * 24000) 131072)
      ∧ moving.axles = [closedAxle] ++ [] ∧ (∃ x ∈ moving.axles, x.id = 1)
      ∧ (∀ m j d, (at_ .running).context m j = some d → ∀ x ∈ d.axles, x.id ≠ 1) := by
  refine ⟨by decide, ⟨by decide, by decide⟩, by decide, rfl, by decide, ?_⟩
  intro m j d h
  have : ∀ m, (at_ .running).context m j = none := by cases j <;> decide
  simp [this] at h

/-- The one context of that part is the one that holds the axle. -/
theorem witness_held_once (m : Lane) (j : Slot) (d : Context) (h : (closing moving).context m j = some d) :
    m = 1 ∧ j = .closingSlot := by
  have elsewhere : ∀ m j, m ≠ 1 ∨ j = .openSlot → (closing moving).context m j = none := by
    intro m j
    cases j <;> revert m <;> decide
  by_contra hne
  rw [elsewhere m j (by cases j <;> simp_all)] at h
  cases h

theorem witness_ClosingValues :
    (closing emptyContext).context 1 .closingSlot = some emptyContext ∧ emptyContext.axles = [] ∧ moving.axles ≠ []
      ∧ (let e := (builtInClasses[2]?).getD { code := 0, axMin := 0, axMax := 0, windows := [], gross := none, firstMin := none, reference := none };
        State.reset.cls.active = builtInClasses.take 2 ++ e :: builtInClasses.drop 3) := by decide

theorem witness_VehicleRecordWords :
    let v : ClosedVehicle :=
      { serial := 7, lane := 3, onset := none, closeTick := 0, total := 1, stored := [(closedAxle, 0)], cls := 0, gross := 0, heaviest := 0,
        length := 0, meanSpeed := 0, grade := .unweighed, flags := 0, rowA := .none, rowB := .none };
    v.stored[0]? = some (closedAxle, 0) := by decide

/-- A queue of 64 records, the first of the other kind, with another of that kind at place 1 or none. -/
def full (second : RecKind) (pinned : Bool) : State :=
  { at_ .running with
    rw.queue := twoWords :: { twoWords with kind := second } :: List.replicate 62 { twoWords with kind := .vehicle }
    rw.pinned := pinned }

theorem witness_QueueTakesAndLoses :
    ((at_ .running).rw.queue.length < 64 ∧ { at_ .running with rw.queue := List.replicate 31 twoWords }.rw.queue.length = 31)
      ∧ (64 ≤ (full .other true).rw.queue.length ∧ RecKind.trigger ≠ .vehicle)
      ∧ (let r : List Rec := List.replicate 62 { twoWords with kind := .vehicle };
        (full .other true).rw.queue = [twoWords] ++ twoWords :: r ∧ twoWords.kind ≠ .vehicle ∧ [twoWords] ≠ []
          ∧ (∀ j d, j < [twoWords].length → (full .other true).rw.queue[j]? = some d → d.kind = .vehicle ∨ j = 0 ∧ (full .other true).rw.pinned = true))
      ∧ (∀ j d, j < (full .vehicle true).rw.queue.length → (full .vehicle true).rw.queue[j]? = some d →
        d.kind = .vehicle ∨ j = 0 ∧ (full .vehicle true).rw.pinned = true) := by
  refine ⟨by decide, by decide, ⟨by decide, by decide, by decide, ?_⟩, ?_⟩
  · intro j d hj _
    have : j = 0 := by simpa using hj
    exact Or.inr ⟨this, rfl⟩
  · intro j d _ hd
    match j with
    | 0 => exact Or.inr ⟨rfl, rfl⟩
    | 1 =>
      left
      simp [full] at hd
      simp [← hd]
    | j + 2 =>
      left
      have := List.mem_of_getElem? (l := List.replicate 62 { twoWords with kind := RecKind.vehicle }) (i := j) (a := d) (by simpa [full] using hd)
      simp at this
      simp [this]

theorem witness_DriftUpdateArithmetic_offer :
    let o : Offer :=
      { lane := 0, grade := .good, meanSpeed := 8333, axle := some { closedAxle with loads := { Loads.zero with load := 2900 } },
        target := 5800, rowA := .live 200 };
    let s := at_ .running;
    (o.grade = .good ∧ s.axle.par.bandLow ≤ o.meanSpeed ∧ o.meanSpeed ≤ s.axle.par.bandHigh)
      ∧ (o.target ≤ 2 * 2900 ∧ 2 * 2900 ≤ 3 * o.target ∧ closedAxle.flags.getLsbD 5 = false ∧ closedAxle.flags.getLsbD 6 = false)
      ∧ (s.cal.frozen = false ∧ s.cal.enables.get 0 = true)
      ∧ ((s.cal.cells.get 0).get (bandOf s.temp.bounds 200)).count = 0 ∧ 0 + 1 ≠ s.cal.window ∧ 63 + 1 = s.cal.window
      ∧ (takeOffer o s).cal.rejected = 0 ∧ (takeOffer { o with meanSpeed := 8332 } s).cal.rejected = 1 := by decide

/-! ### Witnesses: the exchange -/

theorem witness_PageEvents :
    (let s (n : Nat) : State := { at_ .ready with ex.sweepTimer := some (n, 2048) };
      (s 2048).exchangeFree = true ∧ (s 2048).ex.sweepTimer = some (2048, 2048) ∧ (s 2047).ex.sweepTimer = some (2047, 2048))
      ∧ (let p (n : Nat) : ResultPage := { resultPage .rest with flush := some (n, 8192) };
        (p 8192).flush = some (8192, 8192) ∧ (p 8191).flush = some (8191, 8192) ∧ (p 8192).closeWith = none
          ∧ { p 8192 with closeWith := some 0x02 }.closeWith = some 0x02
          ∧ { faulted .ready with rw.page := some (p 8192) }.regs.busFault = true ∧ (at_ .ready).regs.busFault = false)
      ∧ (let s : State := { at_ .ready with rw.queue := [twoWords], ex.resultList := [63] };
        s.exchangeFree = true ∧ s.rw.queue ≠ [] ∧ s.rw.page = none ∧ s.ex.resultList = 63 :: [])
      ∧ (let e : DirEntry := { state := 2, role := 3, flags := 0, used := 2, closure := 0, first := 0, count := 0 };
        let s : State := { at_ .ready with ex.orderList := [(63, e)] };
        s.exchangeFree = true ∧ s.ex.taken = none ∧ s.run ≠ .draining ∧ s.ex.orderList = (63, e) :: [])
      ∧ (let s : State := { busy with ex.handovers := [0, 63] };
        s.exchangeFree = true ∧ s.ex.work = none ∧ s.ex.handovers = 0 :: [63] ∧ s.ex.table.get 0 = .notMine
          ∧ s.ex.table.get 63 ≠ .notMine) := by decide

theorem witness_AccessesComplete :
    (reading.powerIdle = true ∧ reading.ex.resuming = false ∧ reading.ex.grant = some .sweeper
        ∧ reading.ex.work = some (.readEntry 63 true))
      ∧ (let w (v : Word) : Nat := (Memory.readWord (Memory.writeWords reading.mem 1008 [v]) 1008).toNat;
        w 0x11 % 16 = 1 ∧ w 0x11 / 16 % 16 = 1 ∧ w 0x21 / 16 % 16 = 2 ∧ w 0x04000032 % 16 = 2 ∧ w 0x04000032 / 16 % 16 = 3
          ∧ (w 0x31 % 16 = 1 ∧ w 0x31 / 16 % 16 ≠ 1 ∧ w 0x31 / 16 % 16 ≠ 2) ∧ (w 0x12 % 16 = 2 ∧ w 0x12 / 16 % 16 ≠ 3)
          ∧ w 0x14 % 16 ≠ 1 ∧ w 0x14 % 16 ≠ 2)
      ∧ (let e : DirEntry := { state := 1, role := 3, flags := 0, used := 0, closure := 0, first := 0, count := 0 };
        { reading with ex.work := some (.refuse 63 e true) }.ex.work = some (.refuse 63 e true))
      ∧ { writing with rw.page := some (resultPage .takeEntry) }.rw.page = some (resultPage .takeEntry)
      ∧ (writing.powerIdle = true ∧ writing.ex.resuming = false ∧ writing.ex.grant = some .recordWriter
        ∧ writing.rw.page = some (resultPage (.record 1)) ∧ writing.rw.queue = twoWords :: [] ∧ 1 + 1 = twoWords.words.length)
      ∧ ({ writing with rw.page := some (resultPage .closeEntry) }.rw.page = some (resultPage .closeEntry)
        ∧ (resultPage .closeEntry).phase = .closeEntry)
      ∧ (let s : State := { at_ .ready with ex.taken := some (orderPage .answer), ex.grant := some .orderReader };
        s.powerIdle = true ∧ s.ex.resuming = false ∧ s.ex.grant = some .orderReader ∧ s.ex.taken = some (orderPage .answer)
          ∧ (orderPage .answer).phase = .answer) := by decide

theorem witness_BusErrorStopsExchange :
    (writing.powerIdle = true ∧ writing.ex.grant = some .recordWriter ∧ writing.rw.page = some (resultPage (.record 1)))
      ∧ (resultPage .takeEntry).phase = .takeEntry
      ∧ (copying .takeEntry 0 .none none).traceFilling = some 9 ∧ (copying .takeEntry 0 .none none).ex.grant = some .traceWriter
      ∧ (let s : State := { at_ .ready with ex.taken := some (orderPage .refuse), ex.grant := some .orderReader };
        s.powerIdle = true ∧ s.ex.grant = some .orderReader ∧ s.ex.taken = some (orderPage .refuse)
          ∧ (orderPage .refuse).phase = .refuse ∧ (orderPage .firstHeader).phase ≠ .refuse) := by decide

theorem witness_OrderReader (ph : ReadPhase) :
    let s : State := { at_ .ready with ex.taken := some (orderPage ph), ex.grant := some .orderReader };
    s.powerIdle = true ∧ s.ex.resuming = false ∧ s.ex.grant = some .orderReader ∧ s.ex.taken = some (orderPage ph)
      ∧ (orderPage ph).phase = ph ∧ (orderPage ph).abandon = false ∧ (orderPage ph).entry.used = 40 := ⟨rfl, rfl, rfl, rfl, rfl, rfl, rfl⟩

/-- Header words at the ends of their ranges: length 2 and 1, a kind and no kind. -/
theorem witness_OrderReader_headers :
    (0x00020001 : Word).toNat / 65536 % 2048 = 2 ∧ (0x00010001 : Word).toNat / 65536 % 2048 = 1
      ∧ (0x00290001 : Word).toNat / 65536 % 2048 = 41 ∧ (0xF8000001 : Word).toNat / 65536 % 2048 = 0
      ∧ OrderKind.ofCode ((0x00020001 : Word).toNat % 256) = some .nop ∧ OrderKind.ofCode ((0x00020073 : Word).toNat % 256) = none := by decide

theorem witness_AccessesComplete_entry :
    let e : DirEntry := { state := 15, role := 15, flags := 0x3F, used := 2047, closure := 0xFFFFFFFF, first := 1, count := 2 };
    e.state < 16 ∧ e.role < 16 ∧ e.used < 2048 := by decide

/-! ### Witnesses: orders -/

/-- An order is in hand of any kind, length and parameters, in every working run state. -/
theorem witness_OrderHeld (k : OrderKind) (len : Nat) (ps : List Word) (r : RunState) (h : r.works = true) :
    OrderHeld k len ps (orderPage (.ready k len ps)) { held k len ps with run := r } := ⟨h, rfl, rfl, rfl, rfl⟩

theorem witness_LoadHeld (k : OrderKind) (len : Nat) (ps : List Word) (r : RunState) (h : r.works = true) :
    LoadHeld k len ps (orderPage (.loaded k len ps)) { loaded k len ps with run := r } := ⟨h, rfl, rfl, rfl, rfl⟩

theorem witness_PlainOrdersDone : (held .reportStatus 2 []).rw.queue.length < 31 ∧ (held .reportCalibration 2 []).rw.queue.length < 31 := by
  decide

theorem witness_ParameterOrdersStore :
    (held .setDetection 7 [0, 0, 0, 0, 0]).run = .ready ∧ (1 : Word).toNat = 1 ∧ (0 : Word).toNat = 0 ∧ 2 ≤ (2 : Word).toNat
      ∧ { held .setQuiet 5 [0, 0, 0] with run := .quiet }.run = .quiet ∧ (held .setQuiet 5 [0, 0, 0]).run ≠ .quiet := by decide

theorem witness_ParameterOrdersStore_geometry :
    let ps (n : Word) : List Word := n :: List.replicate 12 3000;
    (ps 4).length = 13 ∧ (held .setSiteGeometry 15 (ps 4)).run = .ready ∧ (held .setSiteGeometry 15 (ps 4)).cal.lock = false
      ∧ 1 ≤ ((ps 1).getD 0 0).toNat ∧ ((ps 4).getD 0 0).toNat ≤ 4 ∧ ((ps 0).getD 0 0).toNat = 0 ∧ 4 < ((ps 5).getD 0 0).toNat := by
  decide

theorem witness_SetClockLoads :
    (65535 : Word).toNat ≤ 65535 ∧ 65535 < (65536 : Word).toNat ∧ (held .setClock 4 [0, 65535]).run.measures = false
      ∧ { held .setClock 4 [0, 0] with run := .running }.run.measures = true := by decide

theorem witness_StartStopHalt :
    (held .start 2 []).run = .ready ∧ 0 < (held .start 2 []).site.laneCount
      ∧ { held .start 2 [] with site.laneCount := 0 }.site.laneCount = 0
      ∧ ({ held .stop 2 [] with run := .waking }.run = .waking ∧ (held .stop 2 []).noContext = true)
      ∧ (setContext 3 .openSlot (some emptyContext) { held .stop 2 [] with run := .running }).noContext = false
      ∧ { held .stop 2 [] with run := .quiet }.run = .quiet ∧ (held .halt 2 []).cap.st = .idle
      ∧ (let req : ArmRequest := { lane := 1, pre := 0, maxFrames := 512 };
        { held .halt 2 [] with cap.st := .armed req }.cap.st = .armed req) := by decide

/-- A capture with its page at rest. -/
def capturing : CaptureRun :=
  { CaptureRun.start { lane := 1, pre := 0, maxFrames := 512 } 7 1 History.reset { TracePage.taken 9 0 with phase := .rest } with
    stop := none }

theorem witness_CaptureOrders :
    (held .capture 5 [2, 0, 0]).run ≠ .draining ∧ (0 : Word).toNat = 0 ∧ (held .capture 5 [3, 0, 0]).site.laneCount < (3 : Word).toNat
      ∧ (1 ≤ (2 : Word).toNat ∧ (2 : Word).toNat ≤ (held .capture 5 [2, 0, 0]).site.laneCount ∧ (1 : Lane).val + 1 = (2 : Word).toNat)
      ∧ (held .capture 5 [2, 0, 0]).cap.st = .idle
      ∧ (let s := { held .cancelCapture 2 [] with cap.st := .capturing capturing };
        s.cap.st = .capturing capturing ∧ s.cap.st ≠ .idle ∧ capturing.broken = false
          ∧ capturing.page = some { TracePage.taken 9 0 with phase := .rest } ∧ capturing.stop = none) := by decide

/-- Row A has T0 and T5, row B T5 alone. -/
theorem witness_TemperatureOrders_probes :
    ∀ (w : Word) (x : Option Probe), (w, x) ∈ [((0 : Word), some (0 : Probe)), (5, some 5), (5, some 5), (15, none)] →
      w.toNat = (match x with | some p => p.val | none => 15) ∧ ∀ p, x = some p → (0x21 : Word).getLsbD p.val = true := by
  intro w x h
  simp only [List.mem_cons, Prod.mk.injEq, List.not_mem_nil, or_false] at h
  rcases h with ⟨rfl, rfl⟩ | ⟨rfl, rfl⟩ | ⟨rfl, rfl⟩ | ⟨rfl, rfl⟩
  all_goals exact ⟨rfl, by intro p hp; cases hp <;> decide⟩

theorem witness_TemperatureOrders :
    (some (0 : Probe) ≠ none ∧ some (5 : Probe) ≠ some 0)
      ∧ (let bs : List Word := [0xFFFFFE70, 0, 100, 200, 300, 400, 850];
        bs.length = 7 ∧ (bs.map (·.toInt)).Pairwise (· < ·) ∧ (∀ x ∈ bs.map (·.toInt), -400 ≤ x ∧ x ≤ 850)
          ∧ bs.map (·.toInt) ≠ State.reset.temp.bounds ∧ State.reset.cal.lock = false)
      ∧ (let bs : List Word := [0xFFFFFF9C, 0, 100, 200, 300, 400, 500];
        bs.map (·.toInt) = State.reset.temp.bounds ∧ (900 : Nat) = State.reset.temp.interval) := by decide

theorem witness_CurveOrders :
    (held .loadTemperatureCurve 5 [2]).cal.lock = false ∧ (2 ≤ (2 : Word).toNat ∧ (16 : Word).toNat ≤ 16 ∧ 5 = 3 + (2 : Word).toNat)
      ∧ ((1 : Word).toNat < 2 ∧ 16 < (17 : Word).toNat ∧ 6 ≠ 3 + (2 : Word).toNat)
      ∧ (let ws : List Word := [0x2000FFFF, 0x7FFF0000];
        let points := ws.map fun w => ((w.setWidth 16).toInt, w.toNat / 65536);
        { loaded .loadTemperatureCurve 5 [2] with temp.shadow := some ws }.temp.shadow = some ws
          ∧ points = [(-1, 8192), (0, 32767)] ∧ points.Pairwise (·.1 < ·.1) ∧ ∀ p ∈ points, 8192 ≤ p.2 ∧ p.2 ≤ 32767) := by decide

/-- An entry with every field at an end of its range. -/
def widest : ClassEntry :=
  { code := 63, axMin := 1, axMax := 12, windows := List.replicate 11 (0, 65535), gross := some (0, 4294967295),
    firstMin := some 4294967295, reference := some (12, 65535) }

theorem widest_fits : widest.fitsLayout := by
  refine ⟨by decide, by decide, by decide, ?_, ?_, ?_⟩
  · intro lo hi h
    simp only [widest, Option.some.injEq, Prod.mk.injEq] at h
    omega
  · intro m h
    simp only [widest, Option.some.injEq] at h
    omega
  · intro i t h
    simp only [widest, Option.some.injEq, Prod.mk.injEq] at h
    have : widest.axMax = 12 := rfl
    omega

theorem witness_ClassTableLoads :
    (1 ≤ (1 : Word).toNat ∧ (32 : Word).toNat ≤ 32 ∧ 3 < 4 ∧ (0 : Word).toNat = 0 ∧ 32 < (33 : Word).toNat ∧ 3 ≤ 3)
      ∧ (1 : Word).toNat = [widest].length ∧ (∀ e ∈ [widest], e.fitsLayout)
      ∧ { loaded .loadClassTable 19 [1] with cls.shadow := some ([widest].flatMap ClassEntry.words) }.cls.shadow
        = some ([widest].flatMap ClassEntry.words) := by
  refine ⟨by decide, by decide, ?_, rfl⟩
  intro e h
  rw [List.mem_singleton.mp h]
  exact widest_fits

/-- The words of that entry, written out from 10.6. -/
theorem test_entry_words :
    widest.words.take 6 = [0x007BC13F, 0, 0xFFFFFFFF, 0xFFFFFFFF, 0xFFFF000C, 0xFFFF0000] := by decide

theorem witness_CalibrationOrders :
    (List.replicate 16 (0 : Word)).length = 16 ∧ (held .setChannelFactors 18 []).run = .ready
      ∧ (held .setChannelFactors 18 []).cal.lock = false ∧ (List.replicate 32 (0 : Word)).length = 32
      ∧ (held .restoreDrift 34 []).cal.lower ≤ (held .restoreDrift 34 []).cal.upper
      ∧ (let s := { held .setDrift 7 [] with cal.lock := true };
        s.cal.lock = true ∧ (13107 : Word).toNat = s.cal.lower ∧ (19661 : Word).toNat = s.cal.upper) := by decide

/-- A definition with conditions, actions and chains. -/
def fullTrigger : TriggerDef :=
  { once := true
    factor := .vehicle { lanes := some 9, classes := some (0, 63), grossMin := 4294967295, heaviestMin := 0, grades := some (0, 3),
                         flags := none }
    pulse := some { line := 3, width := 8192, timing := .distance 100000 }
    timerAct := some { target := 7, op := .restart }
    captureAct := some { lane := some 3, pre := 1024, maxFrames := 65535 }
    report := true, enableMask := 0xFE, disableMask := 0x02, activateMask := 0x80, period := 16777215, repeats := true }

theorem witness_TriggerDefinitionRoundTrip : fullTrigger.fitsLayout 0 := by
  refine ⟨⟨by decide, by decide, by decide, by decide, ?_, ?_⟩, by decide, by decide, ?_, ?_⟩
  · intro lo hi h
    simp only [Option.some.injEq, Prod.mk.injEq] at h
    omega
  · intro lo hi h
    simp only [Option.some.injEq, Prod.mk.injEq] at h
    omega
  · intro p h
    cases h
    refine ⟨by decide, by decide, ?_, ?_⟩
    · intro d h
      cases h
    · intro d h
      cases h
      decide
  · intro a h
    cases h
    decide

/-- The words of that order, written out from 10.6. -/
theorem test_trigger_words :
    fullTrigger.words 0 true
      = [0x00010700, 0x008002FE, 0x3F000109, 0xFFFFFFFF, 0, 0x00000301, 0x20000131, 100000, 0x00000371, 0x04000043, 65535, 16777215, 1] := by
  decide

theorem witness_LineAndControlOrders :
    let code (w : Word) (l : Line) : Nat := w.toNat / 2 ^ (4 * l.val) % 4;
    (∀ l, code 0x1212 l = 1 ∨ code 0x1212 l = 2) ∧ (∃ l, code 0x1012 l ≠ 1 ∧ code 0x1012 l ≠ 2)
      ∧ (0xFF00FFFF : Word).toNat / 65536 % 256 = 0 := by decide

theorem witness_OrdersRefused :
    { held .start 2 [] with run := .running }.run ≠ .ready ∧ { held .capture 5 [] with run := .draining }.run = .draining
      ∧ { held .resetDrift 2 [] with cal.lock := true }.cal.lock = true ∧ (13106 : Word).toNat ≠ State.reset.cal.lower
      ∧ (19661 : Word).toNat = State.reset.cal.upper ∧ 3 ≠ 4 ∧ (held .setClock 3 []).run = .ready
      ∧ (held .setClock 3 []).cal.lock = false := by decide

/-! ### Witnesses: weighing -/

theorem witness_RowDisagreement :
    closedAxle.flags.getLsbD 11 = false ∧ closedAxle.partA.isSome = true
      ∧ ({ closedAxle with partB := some (part .b 56384) }.partB.isSome = true) := by decide

/-- Two rows that disagree, 100 × 160 > 15 × 1,000, and two that do not, 100 × 150 = 15 × 1,000 (R57). -/
theorem test_row_disagreement_is_exact : rowsDisagree 15 1000 840 = true ∧ rowsDisagree 15 1000 850 = false ∧ rowsDisagree 15 0 0 = false := by
  decide

theorem witness_SpeedAndLoadArithmetic_curve :
    (builtInCurve.points.Pairwise (·.1 < ·.1)) ∧ builtInCurve.points.head? = some (-300, 17039)
      ∧ builtInCurve.points.getLast? = some (700, 15647) ∧ (-301 : Int) < -300 ∧ (700 : Int) < 701 ∧ (200, 16384) ∈ builtInCurve.points
      ∧ builtInCurve.points[1]? = some (0, 16630) ∧ builtInCurve.points[1 + 1]? = some (200, 16384) ∧ (0 : Int) < 199 ∧ (199 : Int) < 200 := by
  decide

theorem witness_SpeedAndLoadArithmetic_grade : closedAxle.partA.isSome = true ∨ closedAxle.partB.isSome = true := by decide

theorem witness_DriftUpdateArithmetic :
    tallied.target = some 5800 ∧ 0 < (at_ .running).cal.window ∧ (at_ .running).cal.window ≤ tallied.sum
      ∧ (at_ .running).cal.maxStep ≤ 1638 ∧ (at_ .running).cal.lower ≤ (at_ .running).cal.upper := by decide

theorem witness_SpeedAndLoadArithmetic :
    (part .a 40000).centroid < 40001 ∧ weighing.axle.par.vmin ≤ weighing.axle.par.vmax ∧ 0 < weighing.axle.par.vmin := by decide

/-! ### Witnesses: further clauses -/

/-- A TAKEN order page and a capture, each in a phase, during or after a bus fault. -/
def broken (ph : TracePhase) (read : ReadPhase) : State :=
  let pg : TracePage := { TracePage.taken 9 0 with phase := ph, reason := .busFault }
  { at_ .ready with
    cap.st := .capturing { CaptureRun.start { lane := 1, pre := 0, maxFrames := 512 } 7 1 History.reset pg with broken := true }
    ex.taken := some (orderPage read) }

theorem witness_SoftRestartClears_notes :
    (let s := broken (.header 0) (.params .setClock 4 2 []);
      s.ex.taken = some (orderPage (.params .setClock 4 2 [])) ∧ s.regs.busFault = false ∧ s.ex.resuming = false
        ∧ (orderPage (.params .setClock 4 2 [])).phase ≠ .refuse ∧ (orderPage .refuse).phase = .refuse)
      ∧ (broken .rest .halted).capturing = true ∧ (at_ .ready).capturing = false
      ∧ (copying (.frame (oneFrame 3) 1) 0 .none (some (3, .close))).traceFilling = some 9 ∧ (faulted .ready).regs.busFault = true := by decide

theorem witness_RegisterWindow_resumes :
    (let s : State := { broken .rest .halted with regs.busFault := true };
      s.regs.busFault = true ∧ s.run ≠ .disabled ∧ s.rw.page = none ∧ s.traceFilling = some 9)
      ∧ (let s : State := { faulted .ready with ex.taken := some (orderPage .halted) };
        s.regs.busFault = true ∧ s.run ≠ .disabled ∧ s.rw.page = none ∧ s.ex.taken = some (orderPage .halted)
          ∧ (orderPage .halted).phase = .halted ∧ s.capturing = false) := by decide

/-- The resumption's three writers: result page, trace page, order page. -/
theorem witness_BusErrorStopsExchange_resumes :
    (let s : State := { broken .rest .halted with rw.page := some (resultPage .closeEntry), ex.grant := some .recordWriter, ex.resuming := true };
      s.ex.resuming = true ∧ s.powerIdle = true ∧ s.regs.busFault = false ∧ s.ex.grant = some .recordWriter
        ∧ s.rw.page = some (resultPage .closeEntry) ∧ s.capturing = true ∧ (orderPage .halted).phase = .halted)
      ∧ (let s : State := { broken .closeEntry .halted with ex.grant := some .traceWriter, ex.resuming := true };
        s.ex.grant = some .traceWriter ∧ s.rw.page = none ∧ s.traceFilling = some 9 ∧ EndReason.busFault ≠ .none)
      ∧ (let s : State := { at_ .ready with ex.taken := some (orderPage .answer), ex.grant := some .orderReader, ex.resuming := true };
        s.ex.resuming = true ∧ s.rw.page = none ∧ s.capturing = false ∧ s.ex.taken = some (orderPage .answer)
          ∧ (orderPage .answer).phase = .answer ∧ s.run.works = true) := by decide

/-- A line whose edge at this tick waits between other events. -/
theorem witness_FieldLineEvents_reverts :
    (let s : State :=
        { edged 1 with trig.waiting := [.fieldEdge 3 false 0] ++ .fieldEdge 3 true 0 :: [TrigEvent.fieldEdge 2 true 0] };
      s.run.works = true ∧ s.trig.lines.get 3 = .input true ∧ true ≠ false ∧ s.trig.edgeTaken.get 3 = true
        ∧ s.trig.waiting = [.fieldEdge 3 false 0] ++ .fieldEdge 3 true 0 :: [TrigEvent.fieldEdge 2 true 0])
      ∧ (∀ rising tick, TrigEvent.fieldEdge 3 rising tick ∉ [TrigEvent.fieldEdge 2 true 0])
      ∧ ∀ rising tick, TrigEvent.fieldEdge 3 rising tick ∉ ([] : List TrigEvent) := by
  refine ⟨by decide, ?_, ?_⟩
  · intro rising tick h
    simp at h
  · intro rising tick h
    simp at h

/-- An edge waits whose tick is over, with TS7 alone enabled or no set. -/
theorem witness_TriggerActions_edge :
    let s : State := { firing (.fixed 0) (.fieldEdge 3 true false) [] with trig.waiting := [.fieldEdge 3 true 0] };
    s.run.works = true ∧ s.trig.waiting[0]? = some (.fieldEdge 3 true 0) ∧ s.trig.edgeTaken.get 3 = false
      ∧ (∀ m, (s.trig.sets.get m).enabled = decide (m = 7)) ∧ State.reset.run.works = false := by decide

theorem witness_HitsPairAndExpire_enters :
    (let s : State := { at_ .running with det.hits := { a := [hitOf 4 500, hitOf 4 501], b := [] } };
      s.det.hits.get (chanRow (hitOf 5 500).chan) = [hitOf 4 500] ++ [hitOf 4 501]
        ∧ (∀ c ∈ [hitOf 4 500], c.centroid < 500 ∨ c.centroid = 500 ∧ c.chan ≤ 5)
        ∧ (∀ c, [hitOf 4 501].head? = some c → 500 < c.centroid ∨ c.centroid = 500 ∧ (5 : Chan) < c.chan) ∧ 1 + 1 < 32)
      ∧ (let l : List Hit := List.replicate 31 (hitOf 4 500);
        32 ≤ (hitOf 4 500 :: l).length + ([] : List Hit).length ∧ hitOf 4 500 ≠ hitOf 5 500
          ∧ ∀ c ∈ hitOf 4 500 :: l, c.centroid < 500 ∨ c.centroid = 500 ∧ c.chan ≤ 5)
      ∧ (let l : List Hit := List.replicate 32 (hitOf 4 500);
        32 ≤ ([] : List Hit).length + l.length ∧ l.head? = some (hitOf 4 500) ∧ 499 < (hitOf 4 500).centroid) := by
  refine ⟨⟨by decide, by decide, ?_, by decide⟩, by decide, by decide⟩
  intro c h
  cases h
  decide

/-- L2 with both contexts, its loop clear or occupied, and with a CLOSING one alone. -/
theorem witness_OnsetOpensContext_two (r : RunState) (h : r = .running ∨ r = .quiet ∨ r = .waking) :
    let s := setContext 1 .openSlot (some emptyContext) (setContext 1 .closingSlot (some moving) (at_ r));
    let u := setContext 1 .closingSlot (some moving) (withLoop r (.occupied 9 491520));
    (s.powerIdle = true ∧ (1 : Lane).val < s.site.laneCount ∧ s.loops.get 1 = .vacant ∧ s.context 1 .openSlot = some emptyContext)
      ∧ (u.run.measures = true ∧ u.loops.get 1 = .occupied 9 491520 ∧ u.context 1 .openSlot = none
        ∧ u.context 1 .closingSlot = some moving)
      ∧ (setContext 1 .openSlot (some emptyContext) u).context 1 .openSlot = some emptyContext := by
  rcases h with rfl | rfl | rfl <;> decide

/-- An axle matched 40,000 sixteenths of a tick after a lone one lends it its speed; the lone one lends none. -/
theorem witness_ClosingValues_lends :
    let m : Axle := { closedAxle with id := 2, partA := some (part .a 80000), stage := .matched, own := some 24000 };
    closedAxle.stage = .singleRow ∧ [closedAxle, m] = [closedAxle] ++ m :: [] ∧ Lends closedAxle m 40000 80000 24000
      ∧ (∀ d k v, ¬Lends closedAxle closedAxle d k v) ∧ m.stage ≠ .singleRow := by
  refine ⟨rfl, rfl, ⟨rfl, Or.inl ⟨_, _, rfl, rfl, rfl, by decide⟩⟩, ?_, by decide⟩
  rintro d k v ⟨h, -⟩
  cases h

theorem witness_FramesDriveChannels_draining :
    (listening .draining 1).run.measures = true ∧ (listening .draining 1).powerIdle = true
      ∧ (listening .draining 1).link.silence ≠ some 0 := by decide

theorem witness_ProbeLineExchange_not_due :
    State.reset.run.works = false ∧ (polling 0).temp.round ≠ none ∧ { polling 0 with clock := 8191 }.clock % 8192 ≠ 0
      ∧ { polling 0 with temp.secondUsed := true }.temp.secondUsed = true := by decide

theorem witness_ProbeFilter_states :
    ([1, 2] : List Int).length ≤ 2 ∧ (∀ x ∈ ([1, 2] : List Int), -400 ≤ x) ∧ ([1] : List Int).length < 2 ∧ (-401 : Int) < -400
      ∧ (850 : Int) < 851 ∧ 3 + 1 < 5 ∧ 1 + 1 < 3 ∧ 8 + 1 < 10 := by decide

theorem witness_DeadlinesCloseContexts_not_ready :
    (closing { moving with axles := [{ closedAxle with stage := .waiting }] }).context 1 .closingSlot
        = some { moving with axles := [{ closedAxle with stage := .waiting }] }
      ∧ moving.noLoop = false ∧ reached (closing moving).clock 1 = false ∧ (closing moving).context 0 .closingSlot = none
      ∧ (withContext .draining .closingSlot moving).loops.get 1 = .occupied 9 491520 := by decide

theorem witness_RunTimersExpire_closes :
    (let s : State :=
        { at_ .draining with ctrl.drain := some 40960, rw.page := some (resultPage .rest), ex.taken := some (orderPage (.holding 2)) };
      s.run = .draining ∧ s.ctrl.drain.isSome = true ∧ s.noContext = true ∧ s.rw.page = some (resultPage .rest)
        ∧ s.regs.busFault = false ∧ s.ex.resuming = false ∧ (resultPage .rest).closeWith = none
        ∧ s.ex.taken = some (orderPage (.holding 2)) ∧ (orderPage (.holding 2)).phase = .holding 2)
      ∧ (faulted .draining).regs.busFault = true ∧ ¬((at_ .ready).run = .draining) := by decide

theorem witness_CaptureCopiesFrames_closed :
    ({ held .cancelCapture 2 [] with cap.st := .capturing capturing }.cap.st = .capturing capturing ∧ capturing.serial = 7
        ∧ capturing.serial ≠ 8 ∧ capturing.stop = none ∧ { capturing with broken := true }.broken = true)
      ∧ (copying (.header 7) 508 .limit none).traceFilling = some 9 ∧ (at_ .ready).capturing = false := by decide

theorem witness_SetClockLoads_sets :
    (∀ n, ((held .setClock 4 [0, 0]).trig.sets.get n).enabled = false)
      ∧ { held .setClock 4 [0, 0] with run := .waking }.run ≠ .draining
      ∧ { held .setClock 4 [0, 0] with run := .draining }.run.measures = true := by decide

theorem witness_records_have_room :
    (held .setTemperature 12 []).rw.queue.length < 64 ∧ (held .setDrift 7 []).rw.queue.length + 32 ≤ 64
      ∧ bring 60 3600 (3600 : Word).toNat ≠ State.reset.temp.interval := by decide

/-- SET PROBES with each assignment bad in turn, T0 and T5 configured: not a probe, its own primary, T1, beside NONE. -/
theorem witness_OrdersRefused_probes :
    let mask : Word := 0x21;
    (¬((6 : Word).toNat = 15 ∨ (6 : Word).toNat < 6 ∧ mask.getLsbD (6 : Word).toNat = true))
      ∧ ((5 : Word).toNat < 6 ∧ mask.getLsbD (5 : Word).toNat = true ∧ (5 : Word).toNat ≠ 15)
      ∧ ¬mask.getLsbD (1 : Word).toNat = true := by decide

theorem witness_OrdersRefused_temperature :
    (let bs : List Word := [0xFFFFFE70, 0, 100, 200, 300, 400, 851];
      bs.length = 7 ∧ bs.map (·.toInt) ≠ State.reset.temp.bounds ∧ (bs.map (·.toInt))[6]? = some 851 ∧ ¬(851 : Int) ≤ 850)
      ∧ (let points : List (Int × Nat) := [0x2000FFFF, 0x7FFFFFFF].map fun (w : Word) => ((w.setWidth 16).toInt, w.toNat / 65536);
        points = [(-1, 8192), (-1, 32767)] ∧ ¬(-1 : Int) < -1) := by decide

/-- A class table one word short of its entry's windows, and an entry with more than eleven. -/
theorem witness_OrdersRefused_classes :
    (¬WalkEnds 1 [0x00010101, 0, 0, 0, 0]) ∧ widest.fitsFields
      ∧ { widest with windows := List.replicate 15 (0, 0) }.fitsFields ∧ ¬{ widest with windows := List.replicate 15 (0, 0) }.Sound := by
  refine ⟨?_, ?_, ?_, ?_⟩
  · intro h
    generalize hn : (1 : Nat) = n at h
    generalize hl : ([0x00010101, 0, 0, 0, 0] : List Word) = l at h
    cases h with
    | none => cases hn
    | @entry n w0 w1 w2 w3 w4 windows rest count more =>
      injection hl with h0 h1
      injection h1 with _ h2
      injection h2 with _ h3
      injection h3 with _ h4
      injection h4 with _ h5
      have hw : windows = [] := (List.append_eq_nil_iff.mp h5.symm).1
      subst hw
      subst h0
      exact absurd count (by decide)
  · refine ⟨by decide, by decide, by decide, by decide, by decide, ?_, ?_, ?_⟩
    all_goals intros; simp_all [widest] <;> omega
  · refine ⟨by decide, by decide, by decide, by decide, by decide, ?_, ?_, ?_⟩
    all_goals intros; simp_all [widest] <;> omega
  · intro h
    exact absurd h.2.2.1.1 (by decide)

/-- SET TRIGGER with nothing bad, and with TIMER named for a distance pulse: position 8. -/
theorem witness_OrdersRefused_trigger :
    (fullTrigger.words 0 true).length = 13 ∧ (triggerFaults (fullTrigger.words 0 true)).find? (fun f => !f.2) = none
      ∧ (triggerFaults ((fullTrigger.words 0 true).set 0 0x00030700)).find? (fun f => !f.2) = some (8, false) := by decide

theorem witness_OrdersRefused_lengths :
    4 ≠ 5 ∧ 33 ≠ 34 ∧ { held .setExchange 3 [] with run := .draining, cal.lock := true }.run ≠ .ready
      ∧ { held .setExchange 3 [] with run := .draining, cal.lock := true }.run.works = true
      ∧ (held .capture 4 []).run ≠ .draining ∧ (held .setDetection 6 []).run = .ready := by decide

/-! ### Witnesses: what the requesters do next -/

/-- A result page at rest with a record of two words and a serial at the head of the queue. -/
def filling (used : Nat) (first : Option Nat) (serial : Nat) : State :=
  { at_ .running with
    rw.queue := [{ twoWords with serial := serial }]
    rw.page := some { resultPage .rest with used := used, first := first } }

/-- R156 and R182 at their ends: 1,024 and 1,025 words, serials 1,023 and 1,024 above the page's first. -/
theorem test_record_fits :
    (let next (s : State) : Option (WritePhase × Option (BitVec 6)) := (advanceWriter s).rw.page.map fun p => (p.phase, p.closeWith);
      next (filling 1022 (some 1) 2) = some (.record 0, none) ∧ next (filling 1023 (some 1) 2) = some (.closeEntry, some 0x02)
        ∧ next (filling 9 (some 1) 1024) = some (.record 0, none) ∧ next (filling 9 (some 1) 1025) = some (.closeEntry, some 0x02)
        ∧ next (filling 4 none 5000) = some (.record 0, none)) := by decide

theorem witness_AccessesComplete_next :
    (let p (used : Nat) : ResultPage := { resultPage .rest with used := used, first := some 1 };
      (filling 1022 (some 1) 2).rw.page = some (p 1022) ∧ (p 1022).phase = .rest ∧ (filling 1022 (some 1) 2).regs.busFault = false
        ∧ (filling 1022 (some 1) 2).ex.resuming = false ∧ (p 1022).closeWith = none ∧ (filling 1022 (some 1) 2).ctrl.power = none
        ∧ (filling 1022 (some 1) 2).rw.queue = { twoWords with serial := 2 } :: []
        ∧ ((p 1022).used + 2 ≤ 1024 ∧ ¬((p 1023).used + 2 ≤ 1024)) ∧ ((1024 : Nat) < 1 + 1024 ∧ ¬((1025 : Nat) < 1 + 1024)))
      ∧ (let q (placed : Nat) : PowerSeq := { placed := placed, closing := false };
        (q 15).closing = false ∧ (q 15).placed < 16 ∧ ¬((q 16).placed < 16) ∧ (failing 16 false .rest).ctrl.power = some (q 16))
      ∧ (let s (k : Nat) : State := { writing with rw.page := some (resultPage (.header k)) };
        (s 0).powerIdle = true ∧ (s 0).ex.resuming = false ∧ (s 0).ex.grant = some .recordWriter
          ∧ (s 3).rw.page = some (resultPage (.header 3)) ∧ (resultPage (.header 3)).phase = .header 3)
      ∧ (let s : State := { writing with rw.page := some (resultPage (.record 0)) };
        s.rw.page = some (resultPage (.record 0)) ∧ s.rw.queue = twoWords :: [] ∧ 0 + 1 < twoWords.words.length) := by decide

/-- A sweep at a place, with pages 0 to `n` − 1 lent for results and handovers pending. -/
def sweeping (n i : Nat) (hs : List Page) : State :=
  { at_ .ready with
    ex.table := Tab.ofNat 64 fun k => if k < n then .queuedResult else .notMine
    ex.sweepAt := some i
    ex.handovers := hs }

/-- R152: the lowest page not held from the place on, the last page, none, and a pending handover. -/
theorem test_sweep_goes_on :
    ((sweeping 3 0 []).nextSwept 0 = some 3 ∧ (sweeping 3 5 []).nextSwept 5 = some 5 ∧ (sweeping 63 0 []).nextSwept 0 = some 63
        ∧ (sweeping 63 64 []).nextSwept 64 = none ∧ (sweeping 64 0 []).nextSwept 0 = none)
      ∧ (advanceSweeper (sweeping 3 0 [])).ex.work = some (.readEntry 3 false)
      ∧ (advanceSweeper (sweeping 3 0 [7])).ex.work = none
      ∧ (advanceSweeper (sweeping 64 0 [])).ex.sweepTimer = some (0, 2048) := by decide

theorem witness_PageEvents_sweep :
    ((sweeping 3 0 []).ex.sweepAt = some 0 ∧ (sweeping 3 0 []).ex.work = none ∧ (sweeping 3 0 []).exchangeFree = true
        ∧ (sweeping 3 0 []).ex.table.get 3 = .notMine ∧ (∀ q : Page, q.val < 3 → (sweeping 3 0 []).ex.table.get q ≠ .notMine)
        ∧ (sweeping 3 0 []).ex.handovers = [] ∧ (sweeping 3 0 [7]).ex.handovers ≠ [])
      ∧ ((sweeping 64 0 []).ex.sweepAt = some 0 ∧ ∀ q : Page, (sweeping 64 0 []).ex.table.get q ≠ .notMine)
      ∧ (at_ .ready).ex.sweepAt = none ∧ reading.ex.work ≠ none ∧ (faulted .ready).exchangeFree = false := by decide

/-- The sweep that ENABLE and the end of a resumption begin: the sweeper has no work in hand, or has some. -/
theorem witness_EnableBeginsReady_sweep :
    (State.reset.ex.work = none ∧ State.reset.ex.resuming = false ∧ State.reset.regs.busFault = false)
      ∧ { State.reset with ex.work := some (.readEntry 63 true) }.ex.work ≠ none
      ∧ (after (exec (.enable false false) State.reset)).ex.work = some (.readEntry 0 false)
      ∧ (after (exec (.enable false false) State.reset)).ex.sweepAt = some 1 := by decide

/-- R174: the quiet timer starts at 0, runs on, and stops; each part of the quiet condition in turn. -/
theorem test_quiet_timer :
    (let s (t : Option Nat) : State := { at_ .running with ctrl.quietTimer := t, ctrl.quietEnable := true };
      (quietUpdate (s none)).ctrl.quietTimer = some 0 ∧ (quietUpdate (s (some 7))).ctrl.quietTimer = some 7
        ∧ (quietUpdate { s (some 7) with ctrl.quietEnable := false }).ctrl.quietTimer = none
        ∧ (quietUpdate { s (some 7) with run := .quiet }).ctrl.quietTimer = none
        ∧ (quietUpdate { s (some 7) with loops := (withLoop .running (.occupied 9 0)).loops }).ctrl.quietTimer = none)
      ∧ (withLoop .running (.stuck 9)).quietHolds = true ∧ (withLoop .running (.occupied 9 0)).quietHolds = false
      ∧ (closing emptyContext).quietHolds = false
      ∧ { at_ .running with det.chans := Tab.fill 16 (.learning 0 0) }.quietHolds = true
      ∧ { at_ .running with det.chans := Tab.fill 16 (.long 0 0) }.quietHolds = false := by decide

/-- The record being written is pinned at the head of the queue. -/
def pinned : State := { writing with rw.queue := [twoWords, { twoWords with serial := 2 }], rw.pinned := true }

theorem pinned_writer : pinned.WriterConsistent where
  writing := by intro p k _ _; exact ⟨rfl, by decide⟩
  faulted := by intro h; exact absurd h (by decide)

theorem witness_SoftRestartClears_writing :
    pinned.regs.enable = true ∧ pinned.run.works = true ∧ pinned.powerIdle = true ∧ pinned.WriterConsistent
      ∧ pinned.rw.page = some (resultPage (.record 1)) ∧ (resultPage (.record 1)).phase = .record 1
      ∧ (after (exec (.softRestart false) pinned)).rw.queue = [twoWords] :=
  ⟨by decide, by decide, by decide, pinned_writer, by decide, by decide, by decide⟩

theorem witness_RunStateStaysConsistent_writer :
    pinned.WriterConsistent ∧ ∃ t, step { pinned with pending := [.accessComplete []] } = .next t := ⟨pinned_writer, _, rfl⟩

/-- A grant whose request was given up, one that stands, and a free port with two requesters waiting. -/
theorem witness_GrantGoesToHighest_parts :
    (let s : State := { writing with ex.work := some (.readEntry 63 true), ex.grant := some .orderReader };
      s.ex.grant = some .orderReader ∧ s.request .orderReader = none ∧ (s.request .recordWriter).isSome = true
        ∧ (s.request .sweeper).isSome = true ∧ (arbitrate s).ex.grant = some .recordWriter)
      ∧ (writing.request .recordWriter = some (.write 262164 [2])) ∧ (∀ q, (at_ .ready).request q = none)
      ∧ (at_ .ready).powerIdle = true ∧ (at_ .ready).ex.resuming = false := by
  refine ⟨by decide, by decide, ?_, by decide, by decide⟩
  intro q
  cases q <;> decide

theorem witness_RegisterWindow_outputs :
    ((at_ .waking).rateFull = true ∧ (at_ .quiet).rateFull = false)
      ∧ (State.reset.trig.lines.get 3 = .input false ∧ State.reset.lineActive 3 = false)
      ∧ (pulsing false []).lineActive 3 = false ∧ (pulsing true []).lineActive 3 = true := by decide

theorem witness_CaptureCopiesFrames_waits :
    (faulted .ready).regs.busFault = true ∧ (broken .rest .halted).capturing = true ∧ (broken .rest .halted).traceFilling = some 9
      ∧ advanceTrace (broken .rest .halted) = broken .rest .halted := by decide

/-! ### The fourth review's points -/

/-- Logs 13 and 44: DEGRADED with no direction chosen; a page abandoned at its first header and refused by it. -/
theorem test_marked_choices :
    (let x : TriggerSet := { State.reset.trig.sets.get 0 with dfn.factor := .temperature .a 0 false false true, degraded := false };
      x.occurs .a (.stale 0 0) = true ∧ x.occurs .a (.live 0) = false)
      ∧ (let s : State :=
          { at_ .ready with
            ex.taken := some { orderPage .firstHeader with abandon := true, flags := 0x08 }, ex.grant := some .orderReader };
        let phase (w : Word) : Option ReadPhase := (after (exec (.accessComplete [w]) s)).ex.taken.map (·.phase);
        phase 0x00000001 = some .refuse ∧ phase 0x00020001 = some (.takeEntry 0x00020001)) := by decide

/-! ### Witnesses: the fifth review's clauses -/

/-- A part whose summary's boundary is the present second, with so many records queued. -/
def cutting (queued : Nat) : State := { at_ .ready with rw.queue := List.replicate queued twoWords }

theorem witness_SecondCloseEvaluatesRows_cut :
    ((cutting 31).temp.summary.next ≤ (cutting 31).clock / 8192 ∧ (cutting 31).rw.queue.length = 31
        ∧ (cutting 30).rw.queue.length < 64 ∧ (cutting 30).rw.queue.length ≠ 31 ∧ 64 ≤ (cutting 64).rw.queue.length)
      ∧ (cutting 0).clock / 8192 < { (cutting 0).temp.summary with next := 1 }.next := by decide

/-- R153 and R154 at a summary's boundary: BACKLOG at 31 queued, RECORD_LOST at 64, neither at 30. -/
theorem test_summary_record_events :
    (secondClose (cutting 30)).trig.waiting.length = 2
      ∧ (secondClose (cutting 31)).trig.waiting.drop 2 = [.backlog 32]
      ∧ (secondClose (cutting 64)).trig.waiting.drop 2 = [.recordLost false] := by decide

theorem witness_LoopUnitFollowsItsInput_stuck (r : RunState) (h : r.works = true) :
    (withLoop r (.stuck 9)).run.works = true ∧ 1 < (withLoop r (.stuck 9)).site.laneCount
      ∧ (withLoop r (.stuck 9)).loops.get 1 = .stuck 9 := ⟨h, by show 1 < 2; decide, rfl⟩

/-- A round with T2 and T5 to poll and T0 at the line, of which SET PROBES leaves T5. -/
theorem test_set_probes_in_a_round :
    (let s : State :=
        { held .setProbes 7 [0x20, 15, 15, 15, 15] with
          temp.round := some [2, 5], temp.line := some { probe := 0, left := 9, discard := false } };
      let t := after (exec .setProbes s);
      t.temp.round = some [5] ∧ t.temp.line = some { probe := 0, left := 9, discard := true }) := by decide

/-! ### Witnesses: the sixth review's clauses -/

/-- A capture of its own part with a page in a phase and an end taken or none, in a run state, with an order in hand. -/
def stopping (k : OrderKind) (r : RunState) (ph : TracePhase) (stop : Option (Nat × EndReason)) : State :=
  { held k 2 [] with
    run := r
    cap := (copying ph 3 .none stop).cap }

/-- The end reason and phase of the trace page a command leaves. -/
def traceEnd (a : Answered) : Option (EndReason × TracePhase) :=
  match (after a).cap.st with
  | .capturing c => c.page.map fun pg => (pg.reason, pg.phase)
  | _ => none

theorem witness_StartStopHalt_capture :
    ((stopping .halt .running .rest none).capturing = true ∧ (stopping .halt .running .rest none).regs.busFault = false
        ∧ (stopping .halt .ready .rest none).capturing = true ∧ (held .halt 2 []).capturing = false ∧ (held .halt 2 []).noContext = true)
      ∧ traceEnd (exec .halt (stopping .halt .running (.frame (oneFrame 3) 1) (some (9, .close)))) = some (.halted, .header 0)
      ∧ traceEnd (exec .stop (stopping .stop .quiet .rest none)) = some (.halted, .header 0) := by decide

theorem witness_PowerFailBegins_capture :
    traceEnd (exec .pfiAsserted (stopping .halt .running .rest none)) = some (.powerFail, .header 0)
      ∧ (let s : State := { at_ .running with ex.taken := some (orderPage (.loading .loadClassTable 9 [])), cls.shadow := some [] };
        s.run.works = true ∧ s.powerIdle = true ∧ s.ex.taken = some (orderPage (.loading .loadClassTable 9 []))
          ∧ s.regs.busFault = false ∧ s.ex.resuming = false ∧ (orderPage (.loading .loadClassTable 9 [])).phase ≠ .refuse
          ∧ (orderPage .refuse).phase = .refuse ∧ (after (exec .pfiAsserted s)).cls.shadow = none
          ∧ (after (exec .pfiAsserted s)).ex.taken.map (·.phase) = some (.outcome 9 .abandoned 0 false)) := by decide

/-- R37: CANCEL CAPTURE copying a frame, writing the entry FILLING, after CLOSE, after LIMIT, and in a broken capture. -/
theorem test_cancel_phases :
    (let go (ph : TracePhase) (stop : Option (Nat × EndReason)) := traceEnd (exec .cancelCapture (stopping .cancelCapture .ready ph stop));
      go (.frame (oneFrame 3) 1) none = some (.cancelled, .header 0) ∧ go .takeEntry none = some (.none, .takeEntry)
        ∧ go (.header 5) (some (3, .close)) = some (.cancelled, .header 0) ∧ go (.header 5) (some (3, .limit)) = some (.none, .header 5))
      ∧ { capturing with broken := true }.broken = true
      ∧ { stopping .cancelCapture .ready .rest none with regs.busFault := true }.regs.busFault = true := by decide

/-- Two pulses scheduled and two records queued, one of each kind, as the part is disabled. -/
theorem test_disable_counts :
    (let s : State :=
        { pulsing true [{ start := 20, stop := 30, tset := 1, running := false }] with
          rw.queue := [twoWords, { twoWords with kind := .vehicle }] };
      let t := after (exec (.disable false false) s);
      s.pulseCount = 2 ∧ s.regs.enable = true ∧ s.run.measures = false ∧ t.trig.discarded = 2 ∧ t.rw.lostVehicle = 1 ∧ t.rw.lostOther = 1
        ∧ s.rw.lostVehicle + s.rw.lostOther + s.rw.queue.length + (t.rw.created - s.rw.created) ≤ 4294967295) := by decide

/-- Units that take no notice of an onset in lane L2: capturing, and armed for another lane. -/
theorem witness_OnsetOpensContext_capture :
    (∀ req, (stopping .halt .running .rest none).cap.st = .armed req → req.lane ≠ 1)
      ∧ ∀ req, { at_ .running with cap.st := .armed { lane := 0, pre := 0, maxFrames := 512 } }.cap.st = .armed req → req.lane ≠ 1 := by
  constructor
  · intro req h
    cases h
  · intro req h
    injection h with h
    rw [← h]
    decide

end Sys2Proof.Tests
end

section
/-!
PROOFS. Row disagreement at the weighing of an axle (R57): bit 11 of the axle flags, read off the equation of
`State.weigh`, and the tolerance test as arithmetic on whole numbers.
-/

namespace Sys2Proof.Machine

/-! ### The bits of the axle flags -/

/-- A flag raised under a condition has its bits exactly when the condition holds. -/
theorem getLsbD_flagWhen {w : Nat} (c : Bool) (f : BitVec w) (i : Nat) :
    (flagWhen c f).getLsbD i = (c && f.getLsbD i) := by
  cases c <;> simp [flagWhen]

/-- The state of a row temperature is told in its own flags, never in ROW_DISAGREE (R59). -/
theorem RowTemp.flag_rowDisagree (t : RowTemp) : t.flag.getLsbD 11 = false := by
  cases t with
  | live t => exact (rfl : (0 : AxleFlags).getLsbD 11 = false)
  | secondary t => exact (rfl : flagTempSecondary.getLsbD 11 = false)
  | held t h => exact (rfl : flagTempHeld.getLsbD 11 = false)
  | stale t h => exact (rfl : flagTempStale.getLsbD 11 = false)
  | none => exact (rfl : flagTempNone.getLsbD 11 = false)

/-- The temperature flags and CURVE_CLAMP leave ROW_DISAGREE alone (R59). -/
theorem State.tempFlags_rowDisagree (s : State) (a b : Option RowAxle) : (s.tempFlags a b).getLsbD 11 = false := by
  have hclamp : flagCurveClamp.getLsbD 11 = false := rfl
  simp only [State.tempFlags, BitVec.getLsbD_or, getLsbD_flagWhen, RowTemp.flag_rowDisagree, hclamp, Bool.and_false,
    Bool.or_false]

/-! ### The weighing of an axle -/

/-- The flags a weighing adds to those the axle carries (R49, R54, R57, R59, R60). -/
theorem State.weigh_flags (s : State) (v : Nat) (x : Axle) :
    (s.weigh v x).flags
      = x.flags ||| s.tempFlags x.partA x.partB ||| flagWhen (s.axleLoads v x.partA x.partB).2 flagLoadSaturated
        ||| flagWhen (s.axle.par.outside v) flagOutsideSpeedBand
        ||| flagWhen (x.partA.isSome && x.partB.isSome
              && rowsDisagree s.axle.par.tolerance (s.weigh v x).loads.totalA (s.weigh v x).loads.totalB) flagRowDisagree
        ||| flagWhen (s.partsFault x.partA x.partB) flagChannelFault := rfl

/-- A weighed axle carries ROW_DISAGREE where it carried it before, or has both parts and rows that disagree: no
other flag of the weighing lies in bit 11. -/
theorem State.weigh_rowDisagree (s : State) (v : Nat) (x : Axle) :
    (s.weigh v x).flags.getLsbD 11
      = (x.flags.getLsbD 11 || (x.partA.isSome && x.partB.isSome
          && rowsDisagree s.axle.par.tolerance (s.weigh v x).loads.totalA (s.weigh v x).loads.totalB)) := by
  have hsat : flagLoadSaturated.getLsbD 11 = false := rfl
  have hout : flagOutsideSpeedBand.getLsbD 11 = false := rfl
  have hrow : flagRowDisagree.getLsbD 11 = true := rfl
  have hchan : flagChannelFault.getLsbD 11 = false := rfl
  rw [State.weigh_flags]
  simp only [BitVec.getLsbD_or, getLsbD_flagWhen, State.tempFlags_rowDisagree, hsat, hout, hrow, hchan, Bool.and_false,
    Bool.and_true, Bool.or_false]

/-! ### The tolerance test -/

/-- The distance of two whole numbers, formed without a sign, is the magnitude of their difference. -/
theorem natCast_absDiff (a b : Nat) : (absDiff a b : Int) = |(a : Int) - b| := by
  unfold absDiff
  split
  next h => rw [Nat.cast_sub h, abs_sub_comm, abs_of_nonneg (by omega)]
  next h => rw [Nat.cast_sub (by omega), abs_of_nonneg (by omega)]

/-- Rows disagree exactly when 100 × |TA − TB| exceeds the tolerance times the larger total (R57). -/
theorem rowsDisagree_iff (tolerance ta tb : Nat) :
    rowsDisagree tolerance ta tb = true ↔ (tolerance : Int) * max (ta : Int) tb < 100 * |(ta : Int) - tb| := by
  rw [rowsDisagree, decide_eq_true_iff, ← natCast_absDiff]
  norm_cast

/-- Two rows that both weigh nothing do not disagree, whatever the tolerance (R57). -/
theorem rowsDisagree_zero (tolerance : Nat) : rowsDisagree tolerance 0 0 = false := by
  simp [rowsDisagree, absDiff]

/-- Settles O57: with ROW_DISAGREE not carried before, bit 11 of the weighed axle is the tolerance test of its row
totals, taken where both parts are present. -/
theorem rowDisagreement : Obligations.RowDisagreement := by
  intro s v x hx
  dsimp only
  have hbit := s.weigh_rowDisagree v x
  rw [hx, Bool.false_or] at hbit
  constructor
  · rw [hbit, Bool.and_eq_true, Bool.and_eq_true, rowsDisagree_iff, and_assoc]
  · intro hta htb
    rw [hbit, Int.natCast_eq_zero.mp hta, Int.natCast_eq_zero.mp htb, rowsDisagree_zero, Bool.and_false]

end Sys2Proof.Machine
end

section
/-!
PROOFS. What a probe does with each outcome of its poll (R67-R70): the offset scale, the median, the step test and the
filter as arithmetic on whole numbers, then one equation of `ProbeState.take` per state and kind of outcome.
-/

namespace Sys2Proof.Machine

/-! ### Readings and the offset scale -/

theorem readingInRange_of_bounds {r : Int} (hlo : -400 ≤ r) (hhi : r ≤ 850) : readingInRange r = true := by
  simp [readingInRange, hlo, hhi]

theorem readingInRange_of_outside {r : Int} (h : r < -400 ∨ 850 < r) : readingInRange r = false := by
  simpa [readingInRange, imp_iff_not_or] using h

/-- From -400 up the offset scale holds a temperature exactly (R66). -/
theorem natCast_offsetF {t : Int} (ht : -400 ≤ t) : (offsetF t : Int) = 16 * (t + 400) :=
  Int.toNat_of_nonneg (by omega)

/-! ### The median -/

theorem isMedian_median3 (a b c : Int) : isMedian (median3 a b c) a b c := by
  unfold isMedian median3
  omega

/-- The median is one of the three, so a bound below all of them is below it. -/
theorem le_median3 {lo a b c : Int} (ha : lo ≤ a) (hb : lo ≤ b) (hc : lo ≤ c) : lo ≤ median3 a b c := by
  obtain ⟨hm, -⟩ | ⟨hm, -⟩ | ⟨hm, -⟩ := isMedian_median3 a b c <;> rwa [hm]

/-! ### The step test and the filter -/

/-- The step test on the offset scale is R68's comparison of signed numbers. -/
theorem stepAccepts_iff {limit f : Nat} {r : Int} (hr : -400 ≤ r) :
    stepAccepts limit f r = true ↔ |16 * (r + 400) - (f : Int)| ≤ 16 * (limit : Int) := by
  rw [stepAccepts, decide_eq_true_iff, ← natCast_offsetF hr, ← natCast_absDiff]
  norm_cast

/-- F after an accepted reading: 7 F + 16 (m + 400) over 8, rounded half up (R68). -/
theorem natCast_filterStep (f : Nat) {m : Int} (hm : -400 ≤ m) :
    (filterStep f m : Int) = (7 * (f : Int) + 16 * (m + 400) + 4) / 8 := by
  have hF := natCast_offsetF hm
  unfold filterStep roundDiv
  omega

/-! ### A missing or faulty answer -/

/-- A STARTING probe loses its collection and, at the fifth miss in a row, becomes FAILED (R67, R70). -/
theorem ProbeState.take_starting_of_missing {o : ProbeOutcome} (ho : o = .probeError ∨ o = .noAnswer) (limit : Nat)
    (coll : List Int) (miss : Nat) :
    ProbeState.take limit o (.starting coll miss) = if miss + 1 < 5 then .starting [] (miss + 1) else .failed 0 := by
  have htake : ProbeState.take limit o (.starting coll miss) = startingMiss miss := by
    obtain rfl | rfl := ho <;> rfl
  rw [htake, startingMiss]
  simp only [← not_lt, ite_not]

/-- A GOOD probe keeps F, its window and its rejection run, and becomes FAILED at the fifth miss in a row (R70). -/
theorem ProbeState.take_good_of_missing {o : ProbeOutcome} (ho : o = .probeError ∨ o = .noAnswer) (limit : Nat)
    (w1 w2 w3 : Int) (f miss rej : Nat) :
    ProbeState.take limit o (.good w1 w2 w3 f miss rej)
      = if miss + 1 < 5 then .good w1 w2 w3 f (miss + 1) rej else .failed 0 := by
  have htake : ProbeState.take limit o (.good w1 w2 w3 f miss rej)
      = if 5 ≤ miss + 1 then .failed 0 else .good w1 w2 w3 f (miss + 1) rej := by
    obtain rfl | rfl := ho <;> rfl
  rw [htake]
  simp only [← not_lt, ite_not]

/-! ### A reading for a STARTING or a FAILED probe -/

theorem ProbeState.take_starting_reading (limit : Nat) (coll : List Int) (miss : Nat) (r : Int) :
    ProbeState.take limit (.reading r) (.starting coll miss)
      = if readingInRange r then collect coll r else .starting [] 0 := rfl

/-- Below two readings the collection only grows (R67). -/
theorem collect_of_length_lt_two {coll : List Int} (h : coll.length < 2) (r : Int) :
    collect coll r = .starting (coll ++ [r]) 0 := by
  match coll with
  | [] => rfl
  | [_] => rfl
  | _ :: _ :: _ => simp at h

theorem collect_pair (a b r : Int) : collect [a, b] r = .good a b r (offsetF (median3 a b r)) 0 0 := rfl

/-- The third in-range reading in a row makes a FAILED probe STARTING (R70). -/
theorem ProbeState.take_failed_of_inRange {r : Int} (hr : readingInRange r = true) (limit n : Nat) :
    ProbeState.take limit (.reading r) (.failed n) = if n + 1 < 3 then .failed (n + 1) else .starting [] 0 := by
  simp only [ProbeState.take, hr, if_true, ← not_lt, ite_not]

/-- Anything but an in-range reading starts a FAILED probe's good run again (R70). -/
theorem ProbeState.take_failed_of_not_inRange {o : ProbeOutcome} (ho : ∀ r, o = .reading r → readingInRange r = false)
    (limit n : Nat) : ProbeState.take limit o (.failed n) = .failed 0 := by
  cases o with
  | reading r => simp [ProbeState.take, ho r rfl]
  | probeError => rfl
  | noAnswer => rfl

/-! ### A reading for a GOOD probe -/

theorem ProbeState.take_good_reading (limit : Nat) (w1 w2 w3 : Int) (f miss rej : Nat) (r : Int) :
    ProbeState.take limit (.reading r) (.good w1 w2 w3 f miss rej)
      = if readingInRange r && stepAccepts limit f r then .good w2 w3 r (filterStep f (median3 w2 w3 r)) 0 0
        else reject w1 w2 w3 f rej r := rfl

/-- A rejected reading moves nothing but the runs until the tenth, of which an in-range reading is kept (R69). -/
theorem reject_eq (w1 w2 w3 : Int) (f rej : Nat) (r : Int) :
    reject w1 w2 w3 f rej r
      = if rej + 1 < 10 then .good w1 w2 w3 f 0 (rej + 1) else .starting (if readingInRange r then [r] else []) 0 := by
  simp only [reject, ← not_lt, ite_not]

theorem ProbeState.take_good_of_outOfRange {r : Int} (hr : readingInRange r = false) (limit : Nat) (w1 w2 w3 : Int)
    (f miss rej : Nat) :
    ProbeState.take limit (.reading r) (.good w1 w2 w3 f miss rej)
      = if rej + 1 < 10 then .good w1 w2 w3 f 0 (rej + 1) else .starting [] 0 := by
  simp [take_good_reading, reject_eq, hr]

/-- An in-range reading within the step limit joins the window and moves F (R68). -/
theorem ProbeState.take_good_of_accepted {limit f : Nat} {r : Int} (hr : readingInRange r = true)
    (hstep : stepAccepts limit f r = true) (w1 w2 w3 : Int) (miss rej : Nat) :
    ProbeState.take limit (.reading r) (.good w1 w2 w3 f miss rej)
      = .good w2 w3 r (filterStep f (median3 w2 w3 r)) 0 0 := by
  simp [take_good_reading, hr, hstep]

/-- An in-range reading beyond the step limit is rejected, the tenth being the first of a new collection (R69). -/
theorem ProbeState.take_good_of_stepExceeded {limit f : Nat} {r : Int} (hr : readingInRange r = true)
    (hstep : stepAccepts limit f r = false) (w1 w2 w3 : Int) (miss rej : Nat) :
    ProbeState.take limit (.reading r) (.good w1 w2 w3 f miss rej)
      = if rej + 1 < 10 then .good w1 w2 w3 f 0 (rej + 1) else .starting [r] 0 := by
  simp [take_good_reading, reject_eq, hr, hstep]

/-! ### The obligation -/

/-- Settles O31, by the probe's state and the kind of outcome; the medians are those the model takes. -/
theorem probeFilter : Obligations.ProbeFilter := by
  refine ⟨fun _ _ => rfl, ?starting, ?failed, ?good, ?goodInRange⟩
  case starting =>
    intro limit coll miss o _ hcoll
    refine ⟨?inRange, ?outOfRange, fun ho => ProbeState.take_starting_of_missing ho limit coll miss⟩
    case inRange =>
      rintro r rfl hlo hhi
      rw [ProbeState.take_starting_reading, if_pos (readingInRange_of_bounds hlo hhi)]
      refine ⟨fun hlen => collect_of_length_lt_two hlen r, ?_⟩
      rintro a b rfl
      have hm : -400 ≤ median3 a b r := le_median3 (hcoll a (by simp)) (hcoll b (by simp)) hlo
      exact ⟨median3 a b r, offsetF (median3 a b r), isMedian_median3 a b r, natCast_offsetF hm, collect_pair a b r⟩
    case outOfRange =>
      rintro r rfl hr
      simp [ProbeState.take_starting_reading, readingInRange_of_outside hr]
  case failed =>
    intro limit n o
    refine ⟨?_, fun ho => ProbeState.take_failed_of_not_inRange (fun r hr => readingInRange_of_outside (ho r hr)) limit n⟩
    rintro r rfl hlo hhi
    exact ProbeState.take_failed_of_inRange (readingInRange_of_bounds hlo hhi) limit n
  case good =>
    intro limit w1 w2 w3 f miss rej o
    refine ⟨fun ho => ProbeState.take_good_of_missing ho limit w1 w2 w3 f miss rej, ?_⟩
    rintro r rfl hr
    exact ProbeState.take_good_of_outOfRange (readingInRange_of_outside hr) limit w1 w2 w3 f miss rej
  case goodInRange =>
    intro limit w1 w2 w3 r f miss rej hw2 hw3 hlo hhi
    have hr := readingInRange_of_bounds hlo hhi
    have hm : -400 ≤ median3 w2 w3 r := le_median3 hw2 hw3 hlo
    constructor
    · intro hstep
      exact ⟨median3 w2 w3 r, filterStep f (median3 w2 w3 r), isMedian_median3 w2 w3 r, natCast_filterStep f hm,
        ProbeState.take_good_of_accepted hr ((stepAccepts_iff hlo).mpr hstep) w1 w2 w3 miss rej⟩
    · intro hstep
      have hfar : stepAccepts limit f r = false :=
        Bool.eq_false_iff.mpr fun hacc => ((stepAccepts_iff hlo).mp hacc).not_gt hstep
      exact ProbeState.take_good_of_stepExceeded hr hfar w1 w2 w3 miss rej

end Sys2Proof.Machine
end

section
/-!
PROOFS. What traffic can touch: every operation between a closed hit and a closed vehicle, with the cascades and the end
of a drain it brings about, leaves the settings, the clock, the pins, the timers of the exchange and the power-fail
sequence alone.
-/

namespace Sys2Proof.Machine

/-- `t` differs from `s` at most in what traffic moves: the run state and its drain and settle counters, the Hit
Detector, the lists of the Axle Assembler, the vehicles, the drift cells and rejected count, the Trigger Unit, the capture
unit with the trace pages, the Record Writer with NO_PAGE, and the order held by a STOP. -/
def TrafficFrame (s t : State) : Prop :=
  t = { s with
        run := t.run, regs.noPage := t.regs.noPage, det := t.det, cap := t.cap, axle.rowA := t.axle.rowA,
        axle.rowB := t.axle.rowB, veh := t.veh, cal.cells := t.cal.cells, cal.rejected := t.cal.rejected, trig := t.trig,
        rw := t.rw, ex.table := t.ex.table, ex.traceList := t.ex.traceList, ex.taken := t.ex.taken,
        ctrl.drain := t.ctrl.drain, ctrl.settle := t.ctrl.settle }

theorem TrafficFrame.refl (s : State) : TrafficFrame s s := rfl

theorem TrafficFrame.trans {s t u : State} (h : TrafficFrame s t) (k : TrafficFrame t u) : TrafficFrame s u := by
  unfold TrafficFrame at *
  rw [k, h]

/-- Composition with the later part first, so that the earlier one is checked by computation. -/
theorem TrafficFrame.after {s t u : State} (k : TrafficFrame t u) (h : TrafficFrame s t) : TrafficFrame s u := h.trans k

theorem TrafficFrame.foldl {α : Type} (f : State → α → State) (h : ∀ u a, TrafficFrame u (f u a)) (l : List α) (s : State) :
    TrafficFrame s (l.foldl f s) := by
  induction l generalizing s with
  | nil => exact .refl s
  | cons a rest ih => exact (h s a).trans (ih _)

theorem TrafficFrame.power {s t : State} (h : TrafficFrame s t) : t.ctrl.power = s.ctrl.power := by
  rw [h]

theorem TrafficFrame.powerIdle {s t : State} (h : TrafficFrame s t) : t.powerIdle = s.powerIdle := by
  rw [State.powerIdle, State.powerIdle, h.power]

theorem TrafficFrame.clock {s t : State} (h : TrafficFrame s t) : t.clock = s.clock := by
  rw [h]

theorem CloseFrame.traffic {s t : State} (h : CloseFrame s t) : TrafficFrame s t := by
  unfold CloseFrame at h
  rw [h]
  rfl

theorem fixOutcome_traffic (o : OrderOutcome) (d : Nat) (s : State) : TrafficFrame s (fixOutcome o d s) := by
  unfold fixOutcome
  split
  · split <;> rfl
  · rfl

theorem answerStop_traffic (s : State) : TrafficFrame s (answerStop s) := by
  unfold answerStop
  split
  · split
    · exact fixOutcome_traffic ..
    · rfl
  · rfl

theorem testDrain_traffic (s : State) : TrafficFrame s (testDrain s) := by
  unfold testDrain endDrain
  split
  · exact TrafficFrame.after (answerStop_traffic _) rfl
  · rfl

theorem captureClosed_traffic (n : Nat) (s : State) : TrafficFrame s (captureClosed n s) := by
  unfold captureClosed
  repeat' first | rfl | split

theorem closeContext_traffic (l : Lane) (k : Slot) (x : CloseCause) (s : State) : TrafficFrame s (closeContext l k x s) := by
  unfold closeContext
  split
  · rfl
  · rename_i c _
    have hs : TrafficFrame s (if c.axles.isEmpty then s else closeStages l c x s) := by
      split
      · rfl
      · exact (closeStages_close ..).traffic
    have hempty (u : State) : TrafficFrame u (setContext l k none u) := rfl
    exact ((hs.trans (hempty _)).trans (captureClosed_traffic _ _)).trans (testDrain_traffic _)

theorem closeTest_traffic (l : Lane) (k : Slot) (s : State) : TrafficFrame s (closeTest l k s) := by
  unfold closeTest
  split
  · rfl
  · split
    · exact closeContext_traffic ..
    · rfl

theorem truncateAll_traffic (s : State) : TrafficFrame s (truncateAll s) :=
  .foldl _ (fun u _ => (closeContext_traffic _ _ _ u).trans (closeContext_traffic ..)) _ _

theorem joinSlot_traffic (l : Lane) (k : Slot) (x : Axle) (s : State) : TrafficFrame s (joinSlot l k x s) := by
  unfold joinSlot
  split
  · rfl
  · split
    · exact (closeContext_traffic ..).trans rfl
    · rfl

theorem assignAxle_traffic (x : Axle) (s : State) : TrafficFrame s (assignAxle x s) := by
  unfold assignAxle
  split
  · rfl
  · dsimp only
    split
    · exact joinSlot_traffic ..
    · split <;> rfl

theorem completeAxle_traffic (n : Nat) (f : Axle → Axle) (s : State) : TrafficFrame s (completeAxle n f s) := by
  unfold completeAxle
  split
  · rfl
  · split
    · rfl
    · exact TrafficFrame.after (closeTest_traffic ..) rfl

theorem enterRowA_traffic (p : RowAxle) (s : State) : TrafficFrame s (enterRowA p s) := by
  unfold enterRowA
  dsimp only
  split
  · exact TrafficFrame.after (assignAxle_traffic ..) rfl
  · split
    · exact TrafficFrame.after (assignAxle_traffic ..) rfl
    · split
      · exact TrafficFrame.after ((completeAxle_traffic ..).trans (assignAxle_traffic ..)) rfl
      · exact TrafficFrame.after (assignAxle_traffic ..) rfl

theorem matchRowB_traffic (p : RowAxle) (s : State) : TrafficFrame s (matchRowB p s) := by
  unfold matchRowB
  dsimp only
  split
  · exact TrafficFrame.after (completeAxle_traffic ..) rfl
  · exact TrafficFrame.after (assignAxle_traffic ..) rfl

theorem formRowAxle_traffic (p : RowAxle) (s : State) : TrafficFrame s (formRowAxle p s) := by
  unfold formRowAxle
  split
  · split
    · exact enterRowA_traffic ..
    · exact matchRowB_traffic ..
  · rfl

theorem offerHit_traffic (h : Hit) (s : State) : TrafficFrame s (offerHit h s) := by
  unfold offerHit
  dsimp only
  split
  · rfl
  · exact TrafficFrame.after (formRowAxle_traffic ..) rfl

theorem enterHit_traffic (h : Hit) (s : State) : TrafficFrame s (enterHit h s) := by
  unfold enterHit
  dsimp only
  split
  · split
    · rfl
    · split
      · rfl
      · exact TrafficFrame.after (offerHit_traffic ..) rfl
  · exact TrafficFrame.after (offerHit_traffic ..) rfl

theorem settleHit_traffic (c : Chan) (r : ChanResult) (s : State) : TrafficFrame s (settleHit c r s) := by
  unfold settleHit
  split
  · rfl
  · split
    · split
      · exact enterHit_traffic ..
      · rfl
    · rfl

theorem expireHits_traffic (r : Row) (t : Nat) (s : State) : TrafficFrame s (expireHits r t s) := by
  unfold expireHits
  exact TrafficFrame.after (.foldl _ (fun u h => formRowAxle_traffic (oneWheelAxle h) u) _ _) rfl

theorem expireAxle_traffic (w : WaitingAxle) (s : State) : TrafficFrame s (expireAxle w s) := by
  unfold expireAxle
  exact TrafficFrame.after (completeAxle_traffic ..) rfl

theorem expireAxles_traffic (t : Nat) (s : State) : TrafficFrame s (expireAxles t s) :=
  .foldl _ (fun u w => expireAxle_traffic w u) _ _

theorem releaseRowA_traffic (s : State) : TrafficFrame s (releaseRowA s) :=
  .foldl _ (fun u w => expireAxle_traffic w u) _ _

theorem timeMark_traffic (t : Nat) (s : State) : TrafficFrame s (timeMark t s) :=
  ((expireHits_traffic ..).trans (expireHits_traffic ..)).trans (expireAxles_traffic ..)

theorem wake_traffic (s : State) : TrafficFrame s (wake s) := by
  unfold wake
  split <;> rfl

/-- A frame taken by the Hit Detector. -/
theorem detectFrame_traffic (f : Frame) (k : Finding) (s : State) : TrafficFrame s (detectFrame f k s) := by
  have hwake (b : Bool) (u : State) : TrafficFrame u (if b then wake u else u) := by
    split
    · exact wake_traffic u
    · rfl
  unfold detectFrame
  dsimp only
  refine TrafficFrame.trans ?_ (timeMark_traffic ..)
  refine TrafficFrame.trans ?_ (.foldl _ (fun u (p : Chan × ChanResult) => settleHit_traffic p.1 p.2 u) _ _)
  exact (hwake _ _).after rfl

end Sys2Proof.Machine
end

section
/-!
PROOFS. What a command can do, said once: the updates of the fields the invariants read, each with what makes it
harmless, and the commands as sequences of such updates. Every invariant is then one case split over the updates.
-/

namespace Sys2Proof.Machine

/-- The state with every field that no invariant reads put back to its reset value. -/
def State.held (s : State) : State :=
  { State.reset with
    run := s.run
    regs := { Regs.reset with enable := s.regs.enable, xbase := s.regs.xbase, serial := s.regs.serial, busFault := s.regs.busFault }
    site := { Site.reset with laneCount := s.site.laneCount, geom := s.site.geom }
    det := { Detector.reset with chans := s.det.chans, hits := s.det.hits }
    history := { History.reset with frames := s.history.frames }
    cap := { CaptureUnit.reset with st := s.cap.st }
    axle := { AxleAssembler.reset with rowA := s.axle.rowA }
    temp := { TempUnit.reset with curve := s.temp.curve, bounds := s.temp.bounds }
    veh := { Assembler.reset with lanes := s.veh.lanes }
    cal :=
      { Calibration.reset with
        factors := s.cal.factors, cells := s.cal.cells, window := s.cal.window, lower := s.cal.lower, upper := s.cal.upper,
        lock := s.cal.lock }
    trig := { TriggerUnit.reset with lines := s.trig.lines }
    rw := { RecordWriter.reset with queue := s.rw.queue, pinned := s.rw.pinned, page := s.rw.page }
    ex :=
      { Exchange.reset with
        table := s.ex.table, resultList := s.ex.resultList, traceList := s.ex.traceList, orderList := s.ex.orderList,
        taken := s.ex.taken, work := s.ex.work, resuming := s.ex.resuming, closures := s.ex.closures }
    ctrl := { Control.reset with power := s.ctrl.power }
    mem := s.mem }

/-- A queue that stays within its bound and does not empty. -/
def QueueKept (q r : List Rec) : Prop := (q ≠ [] → r ≠ []) ∧ (q.length ≤ 64 → r.length ≤ 64)

/-- A list of at most `n` stays so, and stays empty while nothing is measured. -/
def ListKept {α : Type} (measuring : Bool) (n : Nat) (old new : List α) : Prop :=
  (old.length ≤ n → new.length ≤ n) ∧ (measuring = false → old = [] → new = [])

/-- At most four pulses stand in a schedule, and at most one of them runs (R139, R140). -/
def PulsesKept (ps : List Pulse) : Prop := ps.length ≤ 4 ∧ oneRuns ps

/-- The channels stay OFF while nothing is measured. -/
def ChansKept (measuring : Bool) (old new : Tab 16 ChanState) : Prop :=
  measuring = false → ∀ c, old.get c = .off → new.get c = .off

/-- A context put in a slot: it holds at most 32 axles where every context does, and stands only while the part measures
or a context stands already. -/
def ContextKept (s : State) (c : Option Context) : Prop :=
  ∀ d, c = some d →
    ((∀ lane slot e, s.context lane slot = some e → e.axles.length ≤ 32) → d.axles.length ≤ 32)
      ∧ (s.measuring = true ∨ s.noContext = false)

/-- What the invariants read of a page's close (R157): the closure serial is consumed, SERIAL takes it and the page is
the host's. -/
def closureMade (p : Page) (s : State) : State :=
  { s with ex.closures := s.ex.closures + 1, regs.serial := s.nextClosure, ex.table := s.ex.table.set p .notMine }

theorem pageClosed_held (p : Page) (s : State) : (pageClosed p s).held = (closureMade p s).held := rfl

/-- The updates a command is made of. A premise that begins with an invariant needs to hold only where that invariant
does. -/
inductive Update : State → State → Prop where
  /-- Records enter the queue (R154). -/
  | queue {s : State} (q : List Rec) (h : QueueKept s.rw.queue q) : Update s { s with rw.queue := q }
  /-- Records leave the queue: one placed, or all but one being written (R156, R166). -/
  | unqueue {s : State} (q : List Rec) (pin : Bool) (hlen : q.length ≤ s.rw.queue.length)
      (h : s.WriterConsistent → ∀ p k, s.rw.page = some p → p.phase = .record k → pin = true ∧ q ≠ []) :
      Update s { s with rw.queue := q, rw.pinned := pin }
  /-- The writing of the record at the head begins (R156). -/
  | begun {s : State} {p : ResultPage} (hp : s.rw.page = some p) (hq : s.rw.queue ≠ []) (hf : s.regs.busFault = false) :
      Update s { s with rw.page := some { p with phase := .record 0 }, rw.pinned := true }
  /-- The Record Writer goes on with its page. -/
  | page {s : State} {p : ResultPage} (x : ResultPage) (hp : s.rw.page = some p) (same : x.page = p.page)
      (h : s.WriterConsistent →
        (∀ k, x.phase = .record k → s.rw.pinned = true ∧ s.rw.queue ≠ []) ∧ (s.regs.busFault = true → x.phase = .rest)) :
      Update s { s with rw.page := some x }
  | busFault {s : State} (h : ∀ p, s.rw.page = some p → p.phase = .rest) :
      Update s { s with regs.busFault := true, ex.resuming := false }
  | faultCleared {s : State} : Update s { s with regs.busFault := false }
  | resuming {s : State} (b : Bool) (h : b = true → s.regs.busFault = false) : Update s { s with ex.resuming := b }
  | takeResult {s : State} {p : Page} {rest : List Page} (x : ResultPage) (hl : s.ex.resultList = p :: rest)
      (hn : s.rw.page = none) (hf : s.regs.busFault = false) (hx : x.page = p) (hph : x.phase = .takeEntry) :
      Update s { s with rw.page := some x, ex.resultList := rest, ex.table := s.ex.table.set p .filling }
  | closeResult {s : State} {p : ResultPage} (hp : s.rw.page = some p) : Update s { closureMade p.page s with rw.page := none }
  | undoResult {s : State} {p : ResultPage} (hp : s.rw.page = some p) :
      Update s
        { s with
          rw.page := none, ex.resultList := p.page :: s.ex.resultList, ex.table := s.ex.table.set p.page .queuedResult }
  | takeTrace {s : State} {p : Page} {rest : List Page} (st : CaptureState) (hl : s.ex.traceList = p :: rest)
      (hn : s.traceFilling = none) (hst : ({ s with cap.st := st } : State).traceFilling = some p) :
      Update s { s with cap.st := st, ex.traceList := rest, ex.table := s.ex.table.set p .filling }
  | closeTrace {s : State} {p : Page} (hp : s.traceFilling = some p) : Update s { closureMade p s with cap.st := .idle }
  | undoTrace {s : State} {p : Page} (st : CaptureState) (hp : s.traceFilling = some p)
      (hst : ({ s with cap.st := st } : State).traceFilling = none) :
      Update s { s with cap.st := st, ex.traceList := p :: s.ex.traceList, ex.table := s.ex.table.set p .queuedTrace }
  /-- The capture unit goes on with the page it has, or has none. -/
  | capture {s : State} (st : CaptureState) (h : ({ s with cap.st := st } : State).traceFilling = s.traceFilling) :
      Update s { s with cap.st := st }
  | takeOrder {s : State} {p : Page} {e : DirEntry} {rest : List (Page × DirEntry)} (x : OrderPage)
      (hl : s.ex.orderList = (p, e) :: rest) (hn : s.ex.taken = none) (hx : x.page = p) (hph : x.phase.loadsCurve = false) :
      Update s { s with ex.taken := some x, ex.orderList := rest, ex.table := s.ex.table.set p .taken }
  | releaseOrder {s : State} {x : OrderPage} (hx : s.ex.taken = some x) :
      Update s { s with ex.taken := none, ex.table := s.ex.table.set x.page .notMine }
  | undoOrder {s : State} {x : OrderPage} (hx : s.ex.taken = some x) :
      Update s
        { s with
          ex.taken := none, ex.orderList := (x.page, x.entry) :: s.ex.orderList,
          ex.table := s.ex.table.set x.page .queuedOrder }
  /-- The order reader goes on with its page. -/
  | reader {s : State} {x : OrderPage} (y : OrderPage) (hx : s.ex.taken = some x) (same : y.page = x.page)
      (h : s.cal.lock = true → x.phase.loadsCurve = false → y.phase.loadsCurve = false) :
      Update s { s with ex.taken := some y }
  | lendResult {s : State} {w : EntryWork} (hw : s.ex.work = some w) :
      Update s
        { s with
          ex.work := none, ex.resultList := s.ex.resultList ++ [w.page], ex.table := s.ex.table.set w.page .queuedResult }
  | lendTrace {s : State} {w : EntryWork} (hw : s.ex.work = some w) :
      Update s
        { s with
          ex.work := none, ex.traceList := s.ex.traceList ++ [w.page], ex.table := s.ex.table.set w.page .queuedTrace }
  | lendOrder {s : State} {w : EntryWork} (e : DirEntry) (hw : s.ex.work = some w) :
      Update s
        { s with
          ex.work := none, ex.orderList := s.ex.orderList ++ [(w.page, e)], ex.table := s.ex.table.set w.page .queuedOrder }
  /-- The sweeper takes up an entry that is not the part's, or has none. -/
  | work {s : State} (w : Option EntryWork) (h : s.PagesOwned → ∀ x, w = some x → s.ex.table.get x.page = .notMine) :
      Update s { s with ex.work := w }
  /-- The pages are forgotten, none being filled by a capture (R173). -/
  | forget {s : State} (h : s.traceFilling = none) : Update s (forgetPages s)
  | chans {s : State} (cs : Tab 16 ChanState) (h : ChansKept s.measuring s.det.chans cs) : Update s { s with det.chans := cs }
  | hits {s : State} (r : Row) (hs : List Hit) (h : ListKept s.measuring 32 (s.det.hits.get r) hs) : Update s (setHits r hs s)
  | rowA {s : State} (ws : List WaitingAxle) (h : ListKept s.measuring 16 s.axle.rowA ws) : Update s { s with axle.rowA := ws }
  | context {s : State} (l : Lane) (k : Slot) (c : Option Context) (h : ContextKept s c) : Update s (setContext l k c s)
  | frames {s : State} (fs : List HistFrame) (h : fs.length ≤ 1024) : Update s { s with history.frames := fs }
  | lines {s : State} (ls : Tab 4 FieldLine)
      (h : ∀ l, PulsesKept (s.trig.lines.get l).pulses → PulsesKept (ls.get l).pulses) : Update s { s with trig.lines := ls }
  /-- ENABLE, the run state and the power-fail sequence change together as RunConsistent allows. -/
  | control {s : State} (enable : Bool) (run : RunState) (power : Option PowerSeq)
      (h : s.RunConsistent → ({ s with regs.enable := enable, run := run, ctrl.power := power } : State).RunConsistent) :
      Update s { s with regs.enable := enable, run := run, ctrl.power := power }
  /-- The drift table changes within the limits held. -/
  | cells {s : State} (cs : Tab 4 (Tab 8 Cell)) (h : s.DriftBounded → ({ s with cal.cells := cs } : State).DriftBounded) :
      Update s { s with cal.cells := cs }
  /-- Window, limits and drift table change together; with the lock set the limits stay (R113, R114). -/
  | limits {s : State} (window lower upper : Nat) (cs : Tab 4 (Tab 8 Cell))
      (h : s.DriftBounded →
        ({ s with cal.window := window, cal.lower := lower, cal.upper := upper, cal.cells := cs } : State).DriftBounded)
      (hlock : s.DriftBounded → s.cal.lock = true → lower = s.cal.lower ∧ upper = s.cal.upper) :
      Update s { s with cal.window := window, cal.lower := lower, cal.upper := upper, cal.cells := cs }
  /-- The survey changes, with the lock clear (R124). -/
  | survey {s : State} (factors : Tab 16 Nat) (laneCount : Nat) (geom : Tab 4 LaneGeom) (curve : Curve) (bounds : List Int)
      (h : s.NoCurveUnderLock → s.cal.lock = false) :
      Update s
        { s with
          cal.factors := factors, site.laneCount := laneCount, site.geom := geom, temp.curve := curve, temp.bounds := bounds }
  /-- The lock is set, no curve being loaded (R124). -/
  | lock {s : State} (h : ∀ t, s.ex.taken = some t → t.phase.loadsCurve = false) : Update s { s with cal.lock := true }
  | memory {s : State} (m : List Host.Cell) (h : Memory.wf s.mem = true → Memory.wf m = true) : Update s { s with mem := m }
  | xbase {s : State} (x : Word) (h : x.toNat % 4096 = 0) : Update s { s with regs.xbase := x }

/-- The fields the invariants read change from one state to the other by updates. -/
def Does (s t : State) : Prop := Relation.ReflTransGen Update s.held t.held

theorem Does.refl (s : State) : Does s s := Relation.ReflTransGen.refl

theorem Does.trans {s t u : State} (h : Does s t) (k : Does t u) : Does s u := Relation.ReflTransGen.trans h k

/-- Composition with the later part first, so that the earlier one is checked by computation. -/
theorem Does.after {s t u : State} (k : Does t u) (h : Does s t) : Does s u := h.trans k

/-- One update. -/
theorem Does.one {s t : State} (h : Update s.held t.held) : Does s t := Relation.ReflTransGen.single h

/-- Nothing an invariant reads has changed. -/
theorem Does.same {s t : State} (h : t.held = s.held) : Does s t := by
  unfold Does
  rw [h]

theorem Does.foldl {α : Type} (f : State → α → State) (h : ∀ u a, Does u (f u a)) (l : List α) (s : State) :
    Does s (l.foldl f s) := by
  induction l generalizing s with
  | nil => exact .refl s
  | cons a rest ih => exact (h s a).trans (ih _)

/-- The same for a fold that carries the sets fired along. -/
theorem Does.foldl_fst {α β : Type} (f : State × β → α → State × β) (h : ∀ p a, Does p.1 (f p a).1) (l : List α)
    (p : State × β) : Does p.1 (l.foldl f p).1 := by
  induction l generalizing p with
  | nil => exact .refl p.1
  | cons a rest ih => exact (h p a).trans (ih _)

/-- A property of the fields held that every update keeps is kept by a sequence of updates. -/
theorem Does.keeps {P : State → Prop} (hheld : ∀ s, P s ↔ P s.held) (hone : ∀ {s t}, Update s t → P s → P t) {s t : State}
    (h : Does s t) (hs : P s) : P t := by
  have hpath : ∀ u v, Relation.ReflTransGen Update u v → P u → P v := by
    intro u v huv hu
    induction huv with
    | refl => exact hu
    | tail _ hlast ih => exact hone hlast ih
  exact (hheld t).mpr (hpath _ _ h ((hheld s).mp hs))

end Sys2Proof.Machine
end

section
/-!
PROOFS. Each invariant of the model is kept by each update, so by whatever a state does.
-/

namespace Sys2Proof.Machine

/-! ### Memory, ports, drift table -/

theorem Update.memory_wf {s t : State} (h : Update s t) (hs : Memory.wf s.mem = true) : Memory.wf t.mem = true := by
  cases h with
  | memory m hm => exact hm hs
  | _ => exact hs

theorem Does.memory_wf {s t : State} (h : Does s t) (hs : Memory.wf s.mem = true) : Memory.wf t.mem = true :=
  h.keeps (P := fun s => Memory.wf s.mem = true) (fun _ => .rfl) Update.memory_wf hs

/-- A closure raises the count and shows it in SERIAL (R157). -/
theorem Update.portsConsistent {s t : State} (h : Update s t) (hs : s.PortsConsistent) : t.PortsConsistent := by
  obtain ⟨hbase, hserial⟩ := hs
  cases h with
  | closeResult _ => exact ⟨hbase, rfl⟩
  | closeTrace _ => exact ⟨hbase, rfl⟩
  | xbase x hx => exact ⟨hx, hserial⟩
  | _ => exact ⟨hbase, hserial⟩

theorem Does.portsConsistent {s t : State} (h : Does s t) (hs : s.PortsConsistent) : t.PortsConsistent :=
  h.keeps (fun _ => .rfl) Update.portsConsistent hs

theorem Update.driftBounded {s t : State} (h : Update s t) (hs : s.DriftBounded) : t.DriftBounded := by
  cases h with
  | cells cs hcs => exact hcs hs
  | limits window lower upper cs hcs _ => exact hcs hs
  | _ => exact hs

theorem Does.driftBounded {s t : State} (h : Does s t) (hs : s.DriftBounded) : t.DriftBounded :=
  h.keeps (fun _ => .rfl) Update.driftBounded hs

/-! ### The lists -/

theorem State.bounded_held (s : State) : s.Bounded ↔ s.held.Bounded :=
  ⟨fun h => ⟨h.queue, h.hitsA, h.hitsB, h.rowA, h.frames, h.pulses, h.axles⟩,
    fun h => ⟨h.queue, h.hitsA, h.hitsB, h.rowA, h.frames, h.pulses, h.axles⟩⟩

theorem Update.bounded {s t : State} (h : Update s t) (hs : s.Bounded) : t.Bounded := by
  obtain ⟨hqueue, hitsA, hitsB, hrowA, hframes, hpulses, haxles⟩ := hs
  cases h with
  | queue q hq => exact ⟨hq.2 hqueue, hitsA, hitsB, hrowA, hframes, hpulses, haxles⟩
  | unqueue q pin hlen _ => exact ⟨hlen.trans hqueue, hitsA, hitsB, hrowA, hframes, hpulses, haxles⟩
  | hits r hs h =>
    cases r with
    | a => exact ⟨hqueue, h.1 hitsA, hitsB, hrowA, hframes, hpulses, haxles⟩
    | b => exact ⟨hqueue, hitsA, h.1 hitsB, hrowA, hframes, hpulses, haxles⟩
  | rowA ws h => exact ⟨hqueue, hitsA, hitsB, h.1 hrowA, hframes, hpulses, haxles⟩
  | frames fs h => exact ⟨hqueue, hitsA, hitsB, hrowA, h, hpulses, haxles⟩
  | lines ls h => exact ⟨hqueue, hitsA, hitsB, hrowA, hframes, fun l => h l (hpulses l), haxles⟩
  | context l k c h =>
    refine ⟨hqueue, hitsA, hitsB, hrowA, hframes, hpulses, fun lane slot d hd => ?_⟩
    by_cases hat : lane = l ∧ slot = k
    · obtain ⟨rfl, rfl⟩ := hat
      exact (h d ((setContext_context_same ..).symm.trans hd)).1 haxles
    · rw [setContext_context_ne _ _ _ _ _ _ (by tauto)] at hd
      exact haxles lane slot d hd
  | _ => exact ⟨hqueue, hitsA, hitsB, hrowA, hframes, hpulses, haxles⟩

theorem Does.bounded {s t : State} (h : Does s t) (hs : s.Bounded) : t.Bounded :=
  h.keeps State.bounded_held Update.bounded hs

/-! ### The Record Writer -/

theorem State.writerConsistent_held (s : State) : s.WriterConsistent ↔ s.held.WriterConsistent :=
  ⟨fun h => ⟨h.writing, h.faulted⟩, fun h => ⟨h.writing, h.faulted⟩⟩

theorem Update.writerConsistent {s t : State} (h : Update s t) (hs : s.WriterConsistent) : t.WriterConsistent := by
  obtain ⟨hwriting, hfaulted⟩ := hs
  cases h with
  | queue q hq => exact ⟨fun p k hp hk => ⟨(hwriting p k hp hk).1, hq.1 (hwriting p k hp hk).2⟩, hfaulted⟩
  | unqueue q pin _ h => exact ⟨h ⟨hwriting, hfaulted⟩, hfaulted⟩
  | begun hp hq hf => exact ⟨fun _ _ _ _ => ⟨rfl, hq⟩, fun h => absurd (hf.symm.trans h) (by decide)⟩
  | page x hp same h =>
    obtain ⟨hrecord, hrest⟩ := h ⟨hwriting, hfaulted⟩
    refine ⟨fun p k hx hk => ?_, fun hf => ⟨(hfaulted hf).1, fun p hx => ?_⟩⟩
    · obtain rfl := Option.some.inj hx
      exact hrecord k hk
    · obtain rfl := Option.some.inj hx
      exact hrest hf
  | busFault h => exact ⟨hwriting, fun _ => ⟨rfl, h⟩⟩
  | faultCleared => exact ⟨hwriting, fun h => absurd h Bool.false_ne_true⟩
  | resuming b h =>
    refine ⟨hwriting, fun hf => ⟨?_, (hfaulted hf).2⟩⟩
    cases b with
    | false => rfl
    | true => exact absurd ((h rfl).symm.trans hf) (by decide)
  | takeResult x _ _ hf _ hph =>
    refine ⟨fun p k hx hk => ?_, fun h => absurd (hf.symm.trans h) (by decide)⟩
    obtain rfl := Option.some.inj hx
    exact absurd (hph.symm.trans hk) (by simp)
  | closeResult _ => exact ⟨fun p k hp => absurd hp (by simp), fun hf => ⟨(hfaulted hf).1, fun p hp => absurd hp (by simp)⟩⟩
  | undoResult _ => exact ⟨fun p k hp => absurd hp (by simp), fun hf => ⟨(hfaulted hf).1, fun p hp => absurd hp (by simp)⟩⟩
  | forget _ =>
    exact ⟨fun p k hp => absurd hp (by simp [forgetPages]), fun _ => ⟨rfl, fun p hp => absurd hp (by simp [forgetPages])⟩⟩
  | _ => exact ⟨hwriting, hfaulted⟩

theorem Does.writerConsistent {s t : State} (h : Does s t) (hs : s.WriterConsistent) : t.WriterConsistent :=
  h.keeps State.writerConsistent_held Update.writerConsistent hs

/-! ### The run state -/

theorem State.runConsistent_held (s : State) : s.RunConsistent ↔ s.held.RunConsistent :=
  ⟨fun h => ⟨h.enable, h.power, h.channels, h.hits, h.rowA, h.contexts⟩,
    fun h => ⟨h.enable, h.power, h.channels, h.hits, h.rowA, h.contexts⟩⟩

/-- No context stands exactly when every slot is empty. -/
theorem State.noContext_iff (s : State) : s.noContext = true ↔ ∀ l k, s.context l k = none := by
  unfold State.noContext
  rw [Tab.all_items]
  constructor
  · intro h l k
    have := h l
    cases k <;> simp_all [State.context, LaneSlots.get]
  · intro h l
    have ho := h l .openSlot
    have hc := h l .closingSlot
    simp_all [State.context, LaneSlots.get]

theorem Update.runConsistent {s t : State} (h : Update s t) (hs : s.RunConsistent) : t.RunConsistent := by
  obtain ⟨henable, hpower, hchans, hhits, hrowA, hctx⟩ := hs
  cases h with
  | chans cs h => exact ⟨henable, hpower, fun hm c => h hm c (hchans hm c), hhits, hrowA, hctx⟩
  | hits r hs h =>
    refine ⟨henable, hpower, hchans, fun hm => ?_, hrowA, hctx⟩
    obtain ⟨ha, hb⟩ := hhits hm
    cases r with
    | a => exact ⟨h.2 hm ha, hb⟩
    | b => exact ⟨ha, h.2 hm hb⟩
  | rowA ws h => exact ⟨henable, hpower, hchans, hhits, fun hm => h.2 hm (hrowA hm), hctx⟩
  | context l k c h =>
    refine ⟨henable, hpower, hchans, hhits, hrowA, fun (hm : s.measuring = false) => ?_⟩
    cases c with
    | some d => exact absurd (h d rfl).2 (by rw [hm, hctx hm]; decide)
    | none =>
      rw [State.noContext_iff]
      intro lane slot
      by_cases hat : lane = l ∧ slot = k
      · obtain ⟨rfl, rfl⟩ := hat
        exact setContext_context_same ..
      · rw [setContext_context_ne _ _ _ _ _ _ (by tauto)]
        exact s.noContext_iff.mp (hctx hm) lane slot
  | control enable run power h => exact h ⟨henable, hpower, hchans, hhits, hrowA, hctx⟩
  | _ => exact ⟨henable, hpower, hchans, hhits, hrowA, hctx⟩

theorem Does.runConsistent {s t : State} (h : Does s t) (hs : s.RunConsistent) : t.RunConsistent :=
  h.keeps State.runConsistent_held Update.runConsistent hs

/-! ### The lock -/

/-- The survey of `s` stands in `t` with the lock set and no curve being loaded (R124). -/
structure SurveyHeld (s t : State) : Prop where
  lock : t.cal.lock = true
  factors : t.cal.factors = s.cal.factors
  laneCount : t.site.laneCount = s.site.laneCount
  geom : t.site.geom = s.site.geom
  curve : t.temp.curve = s.temp.curve
  bounds : t.temp.bounds = s.temp.bounds
  lower : t.cal.lower = s.cal.lower
  upper : t.cal.upper = s.cal.upper
  noCurve : t.NoCurveUnderLock
  drift : t.DriftBounded

theorem Update.surveyHeld {r s t : State} (h : Update s t) (hs : SurveyHeld r s) : SurveyHeld r t := by
  obtain ⟨hlock, hfactors, hcount, hgeom, hcurve, hbounds, hlower, hupper, hno, hdrift⟩ := hs
  have hd := h.driftBounded hdrift
  cases h with
  | takeOrder x _ _ _ hph =>
    exact ⟨hlock, hfactors, hcount, hgeom, hcurve, hbounds, hlower, hupper,
      fun _ t ht => by obtain rfl := Option.some.inj ht; exact hph, hd⟩
  | releaseOrder _ =>
    exact ⟨hlock, hfactors, hcount, hgeom, hcurve, hbounds, hlower, hupper, fun _ t ht => absurd ht (by simp), hd⟩
  | undoOrder _ =>
    exact ⟨hlock, hfactors, hcount, hgeom, hcurve, hbounds, hlower, hupper, fun _ t ht => absurd ht (by simp), hd⟩
  | forget _ =>
    exact ⟨hlock, hfactors, hcount, hgeom, hcurve, hbounds, hlower, hupper, fun _ t ht => absurd ht (by simp [forgetPages]), hd⟩
  | reader y hx _ h =>
    exact ⟨hlock, hfactors, hcount, hgeom, hcurve, hbounds, hlower, hupper,
      fun _ t ht => by obtain rfl := Option.some.inj ht; exact h hlock (hno hlock _ hx), hd⟩
  | limits window lower upper cs _ hkeep =>
    obtain ⟨hl, hu⟩ := hkeep hdrift hlock
    exact ⟨hlock, hfactors, hcount, hgeom, hcurve, hbounds, hl.trans hlower, hu.trans hupper, hno, hd⟩
  | survey _ _ _ _ _ hclear => exact absurd ((hclear hno).symm.trans hlock) (by decide)
  | lock h => exact ⟨rfl, hfactors, hcount, hgeom, hcurve, hbounds, hlower, hupper, fun _ => h, hd⟩
  | _ => exact ⟨hlock, hfactors, hcount, hgeom, hcurve, hbounds, hlower, hupper, hno, hd⟩

theorem Does.surveyHeld {r s t : State} (h : Does s t) (hs : SurveyHeld r s) : SurveyHeld r t :=
  h.keeps (fun _ => ⟨fun ⟨a, b, c, d, e, f, g, i, j, k⟩ => ⟨a, b, c, d, e, f, g, i, j, k⟩,
    fun ⟨a, b, c, d, e, f, g, i, j, k⟩ => ⟨a, b, c, d, e, f, g, i, j, k⟩⟩) Update.surveyHeld hs

end Sys2Proof.Machine
end

section
/-!
PROOFS. Every update keeps each page in one place, the one the page table says (R150).
-/

namespace Sys2Proof.Machine

/-! ### The pages -/

/-- PagesOwned in the components it reads: the page table, the three lists, the page the Record Writer and the page the
capture unit fill, the page taken, the page the sweeper works on (R150). -/
structure Places (table : Tab 64 PageState) (results traces orders : List Page) (result trace order work : Option Page) :
    Prop where
  resultNodup : results.Nodup
  traceNodup : traces.Nodup
  orderNodup : orders.Nodup
  queuedResult : ∀ p, table.get p = .queuedResult ↔ p ∈ results
  queuedTrace : ∀ p, table.get p = .queuedTrace ↔ p ∈ traces
  queuedOrder : ∀ p, table.get p = .queuedOrder ↔ p ∈ orders
  filling : ∀ p, table.get p = .filling ↔ result = some p ∨ trace = some p
  fillOnce : ∀ p, ¬(result = some p ∧ trace = some p)
  taken : ∀ p, table.get p = .taken ↔ order = some p
  work : ∀ p, work = some p → table.get p = .notMine

/-- The components of a state. -/
theorem State.pagesOwned_iff (s : State) :
    s.PagesOwned ↔ Places s.ex.table s.ex.resultList s.ex.traceList (s.ex.orderList.map (·.1)) s.resultFilling s.traceFilling
      s.orderTaken (s.ex.work.map EntryWork.page) := by
  constructor
  · rintro ⟨a, b, c, d, e, f, g, h, i, hwork⟩
    refine ⟨a, b, c, d, e, f, g, h, i, fun p hp => ?_⟩
    obtain ⟨w, hw, rfl⟩ := Option.map_eq_some_iff.mp hp
    exact hwork w hw
  · rintro ⟨a, b, c, d, e, f, g, h, i, hwork⟩
    exact ⟨a, b, c, d, e, f, g, h, i, fun w hw => hwork _ (by rw [hw]; rfl)⟩

namespace Places

variable {table : Tab 64 PageState} {results traces orders : List Page} {result trace order work : Option Page} {p : Page}

theorem takeResult (h : Places table (p :: results) traces orders none trace order work) :
    Places (table.set p .filling) results traces orders (some p) trace order work := by
  obtain ⟨hr, ht, ho, hqr, hqt, hqo, hfill, hone, htaken, hwork⟩ := h
  have hp : table.get p = .queuedResult := (hqr p).mpr (by simp)
  constructor <;> grind [Tab.get_set]

theorem undoResult (h : Places table results traces orders (some p) trace order work) :
    Places (table.set p .queuedResult) (p :: results) traces orders none trace order work := by
  obtain ⟨hr, ht, ho, hqr, hqt, hqo, hfill, hone, htaken, hwork⟩ := h
  have hp : table.get p = .filling := (hfill p).mpr (.inl rfl)
  constructor <;> grind [Tab.get_set]

theorem closeResult (h : Places table results traces orders (some p) trace order work) :
    Places (table.set p .notMine) results traces orders none trace order work := by
  obtain ⟨hr, ht, ho, hqr, hqt, hqo, hfill, hone, htaken, hwork⟩ := h
  have hp : table.get p = .filling := (hfill p).mpr (.inl rfl)
  constructor <;> grind [Tab.get_set]

theorem takeTrace (h : Places table results (p :: traces) orders result none order work) :
    Places (table.set p .filling) results traces orders result (some p) order work := by
  obtain ⟨hr, ht, ho, hqr, hqt, hqo, hfill, hone, htaken, hwork⟩ := h
  have hp : table.get p = .queuedTrace := (hqt p).mpr (by simp)
  constructor <;> grind [Tab.get_set]

theorem undoTrace (h : Places table results traces orders result (some p) order work) :
    Places (table.set p .queuedTrace) results (p :: traces) orders result none order work := by
  obtain ⟨hr, ht, ho, hqr, hqt, hqo, hfill, hone, htaken, hwork⟩ := h
  have hp : table.get p = .filling := (hfill p).mpr (.inr rfl)
  constructor <;> grind [Tab.get_set]

theorem closeTrace (h : Places table results traces orders result (some p) order work) :
    Places (table.set p .notMine) results traces orders result none order work := by
  obtain ⟨hr, ht, ho, hqr, hqt, hqo, hfill, hone, htaken, hwork⟩ := h
  have hp : table.get p = .filling := (hfill p).mpr (.inr rfl)
  constructor <;> grind [Tab.get_set]

theorem takeOrder (h : Places table results traces (p :: orders) result trace none work) :
    Places (table.set p .taken) results traces orders result trace (some p) work := by
  obtain ⟨hr, ht, ho, hqr, hqt, hqo, hfill, hone, htaken, hwork⟩ := h
  have hp : table.get p = .queuedOrder := (hqo p).mpr (by simp)
  constructor <;> grind [Tab.get_set]

theorem undoOrder (h : Places table results traces orders result trace (some p) work) :
    Places (table.set p .queuedOrder) results traces (p :: orders) result trace none work := by
  obtain ⟨hr, ht, ho, hqr, hqt, hqo, hfill, hone, htaken, hwork⟩ := h
  have hp : table.get p = .taken := (htaken p).mpr rfl
  constructor <;> grind [Tab.get_set]

theorem releaseOrder (h : Places table results traces orders result trace (some p) work) :
    Places (table.set p .notMine) results traces orders result trace none work := by
  obtain ⟨hr, ht, ho, hqr, hqt, hqo, hfill, hone, htaken, hwork⟩ := h
  have hp : table.get p = .taken := (htaken p).mpr rfl
  constructor <;> grind [Tab.get_set]

theorem lendResult (h : Places table results traces orders result trace order (some p)) :
    Places (table.set p .queuedResult) (results ++ [p]) traces orders result trace order none := by
  obtain ⟨hr, ht, ho, hqr, hqt, hqo, hfill, hone, htaken, hwork⟩ := h
  have hp : table.get p = .notMine := hwork p rfl
  constructor <;> grind [Tab.get_set]

theorem lendTrace (h : Places table results traces orders result trace order (some p)) :
    Places (table.set p .queuedTrace) results (traces ++ [p]) orders result trace order none := by
  obtain ⟨hr, ht, ho, hqr, hqt, hqo, hfill, hone, htaken, hwork⟩ := h
  have hp : table.get p = .notMine := hwork p rfl
  constructor <;> grind [Tab.get_set]

theorem lendOrder (h : Places table results traces orders result trace order (some p)) :
    Places (table.set p .queuedOrder) results traces (orders ++ [p]) result trace order none := by
  obtain ⟨hr, ht, ho, hqr, hqt, hqo, hfill, hone, htaken, hwork⟩ := h
  have hp : table.get p = .notMine := hwork p rfl
  constructor <;> grind [Tab.get_set]

/-- With nothing held by the part every page is the host's. -/
theorem none_held : Places (Tab.fill 64 .notMine) [] [] [] none none none none := by
  constructor <;> simp

end Places

theorem Update.places {s t : State} (h : Update s t) (hs : s.PagesOwned) : t.PagesOwned := by
  have hplaces := s.pagesOwned_iff.mp hs
  cases h with
  | begun hp _ _ =>
    refine (State.pagesOwned_iff _).mpr ?_
    rwa [State.resultFilling, hp] at hplaces
  | page x hp same _ =>
    refine (State.pagesOwned_iff _).mpr ?_
    rwa [State.resultFilling, hp, Option.map_some, ← same] at hplaces
  | takeResult x hl hn _ hx _ =>
    refine (State.pagesOwned_iff _).mpr ?_
    rw [State.resultFilling, hl, hn] at hplaces
    subst hx
    exact hplaces.takeResult
  | closeResult hp =>
    refine (State.pagesOwned_iff _).mpr ?_
    rw [State.resultFilling, hp] at hplaces
    exact hplaces.closeResult
  | undoResult hp =>
    refine (State.pagesOwned_iff _).mpr ?_
    rw [State.resultFilling, hp] at hplaces
    exact hplaces.undoResult
  | takeTrace st hl hn hst =>
    refine (State.pagesOwned_iff _).mpr ?_
    rw [hl, hn] at hplaces
    have := hplaces.takeTrace
    rwa [← hst] at this
  | closeTrace hp =>
    refine (State.pagesOwned_iff _).mpr ?_
    rw [hp] at hplaces
    exact hplaces.closeTrace
  | undoTrace st hp hst =>
    refine (State.pagesOwned_iff _).mpr ?_
    rw [hp] at hplaces
    have := hplaces.undoTrace
    rwa [← hst] at this
  | capture st h =>
    refine (State.pagesOwned_iff _).mpr ?_
    rwa [← h] at hplaces
  | takeOrder x hl hn hx _ =>
    refine (State.pagesOwned_iff _).mpr ?_
    rw [State.orderTaken, hl, hn] at hplaces
    subst hx
    exact hplaces.takeOrder
  | releaseOrder hx =>
    refine (State.pagesOwned_iff _).mpr ?_
    rw [State.orderTaken, hx] at hplaces
    exact hplaces.releaseOrder
  | undoOrder hx =>
    refine (State.pagesOwned_iff _).mpr ?_
    rw [State.orderTaken, hx] at hplaces
    exact hplaces.undoOrder
  | reader y hx same _ =>
    refine (State.pagesOwned_iff _).mpr ?_
    rwa [State.orderTaken, hx, Option.map_some, ← same] at hplaces
  | lendResult hw =>
    refine (State.pagesOwned_iff _).mpr ?_
    rw [hw] at hplaces
    exact hplaces.lendResult
  | lendTrace hw =>
    refine (State.pagesOwned_iff _).mpr ?_
    rw [hw] at hplaces
    exact hplaces.lendTrace
  | lendOrder e hw =>
    refine (State.pagesOwned_iff _).mpr ?_
    rw [hw] at hplaces
    rw [List.map_append]
    exact hplaces.lendOrder
  | work w h => exact ⟨hs.1, hs.2, hs.3, hs.4, hs.5, hs.6, hs.7, hs.8, hs.9, h hs⟩
  | forget h =>
    refine (State.pagesOwned_iff _).mpr ?_
    have hnone : (forgetPages s).traceFilling = none := h
    rw [hnone]
    exact Places.none_held
  | _ => exact (State.pagesOwned_iff _).mpr hplaces

theorem Does.pagesOwned {s t : State} (h : Does s t) (hs : s.PagesOwned) : t.PagesOwned :=
  h.keeps (fun s => (State.pagesOwned_iff s).trans (State.pagesOwned_iff s.held).symm) Update.places hs

end Sys2Proof.Machine
end

section
/-!
PROOFS. Records, events, pulses and cascades as updates.
-/

namespace Sys2Proof.Machine

/-! ### Records -/

@[simp] theorem handEvent_held (e : TrigEvent) (s : State) : (handEvent e s).held = s.held := by
  unfold handEvent
  split <;> rfl

@[simp] theorem raiseNoPage_held (s : State) : (raiseNoPage s).held = s.held := by
  unfold raiseNoPage
  split <;> rfl

@[simp] theorem loseRecord_held (r : Rec) (s : State) : (loseRecord r s).held = s.held := by
  unfold loseRecord
  split
  · exact handEvent_held ..
  · exact handEvent_held ..
  · rfl

/-- A record taken out leaves one record less. -/
theorem takeOldestOther_length {q rest : List Rec} {r : Rec} (h : takeOldestOther q = some (r, rest)) :
    rest.length + 1 = q.length := by
  induction q generalizing r rest with
  | nil => exact absurd h (by simp [takeOldestOther])
  | cons x xs ih =>
    rw [takeOldestOther] at h
    split at h
    · obtain ⟨p, hp, heq⟩ := Option.map_eq_some_iff.mp h
      obtain ⟨rfl, rfl⟩ := Prod.mk.inj heq
      simp [ih hp]
    · obtain ⟨rfl, rfl⟩ := Prod.mk.inj (Option.some.inj h)
      rfl

theorem displaceable_length {pinned : Bool} {q rest : List Rec} {r : Rec} (h : displaceable pinned q = some (r, rest)) :
    rest.length + 1 = q.length := by
  unfold displaceable at h
  split at h
  · split at h
    · exact absurd h (by simp)
    · obtain ⟨p, hp, heq⟩ := Option.map_eq_some_iff.mp h
      obtain ⟨rfl, rfl⟩ := Prod.mk.inj heq
      simp [takeOldestOther_length hp]
  · exact takeOldestOther_length h

/-- A record that enters, is lost or displaces an older one keeps the queue within its bound (R154); no other field that an
invariant reads changes. -/
theorem enterRecord_queue (r : Rec) (s : State) :
    ∃ q, QueueKept s.rw.queue q ∧ (enterRecord r s).held = ({ s with rw.queue := q } : State).held := by
  have hlost : QueueKept s.rw.queue s.rw.queue ∧ (loseRecord r s).held = ({ s with rw.queue := s.rw.queue } : State).held :=
    ⟨⟨id, id⟩, loseRecord_held ..⟩
  unfold enterRecord
  split
  next hroom =>
    refine ⟨s.rw.queue ++ [r], ⟨by simp, fun _ => by simpa [queueMax] using hroom⟩, ?_⟩
    dsimp only
    rw [raiseNoPage_held]
    split
    · exact handEvent_held ..
    · rfl
  next =>
    split
    · split
      next old rest h =>
        have hlen := displaceable_length h
        refine ⟨rest ++ [r], ⟨by simp, fun hq => by simp; omega⟩, ?_⟩
        rw [raiseNoPage_held, loseRecord_held]
      next => exact ⟨_, hlost⟩
    · exact ⟨_, hlost⟩

theorem createRecord_queue (k : RecKind) (ws : List Nat) (s : State) :
    ∃ q, QueueKept s.rw.queue q ∧ (createRecord k ws s).held = ({ s with rw.queue := q } : State).held :=
  enterRecord_queue _ { s with rw.created := s.rw.created + 1 }

theorem createRecord_does (k : RecKind) (ws : List Nat) (s : State) : Does s (createRecord k ws s) := by
  obtain ⟨q, hq, hheld⟩ := createRecord_queue k ws s
  refine .one ?_
  rw [hheld]
  exact .queue q hq

theorem calibrationRecord_does (k l c n b w x y z : Nat) (s : State) : Does s (calibrationRecord k l c n b w x y z s) :=
  createRecord_does ..

/-- Every record queued is lost where none is being written. -/
theorem loseAllRecords_does (s : State) (h : s.WriterConsistent → ∀ p k, s.rw.page = some p → p.phase ≠ .record k) :
    Does s (loseAllRecords s) := by
  have hempty : Does s { s with rw.queue := [], rw.pinned := false } :=
    .one (.unqueue [] false (Nat.zero_le _) fun hw p k hp hk =>
      absurd hk (h ((State.writerConsistent_held s).mpr hw) p k hp))
  exact hempty.trans (.foldl _ (fun u r => .same (loseRecord_held r u)) _ _)

/-! ### Pulses and cascades -/

theorem insertPulse_perm (now : Nat) (p : Pulse) (ps : List Pulse) : (insertPulse now p ps).Perm (p :: ps) := by
  induction ps with
  | nil => exact .refl _
  | cons q rest ih =>
    rw [insertPulse]
    split
    · exact .refl _
    · exact (ih.cons q).trans (.swap p q rest)

@[simp] theorem FieldLine.pulses_input (v : Bool) : (FieldLine.input v).pulses = [] := rfl

@[simp] theorem FieldLine.pulses_output (ps : List Pulse) : (FieldLine.output ps).pulses = ps := rfl

/-- A pulse placed in a schedule with room, running only where none runs (R139, R140). -/
theorem PulsesKept.insert {now : Nat} {p : Pulse} {ps : List Pulse} (h : PulsesKept ps) (hroom : ps.length < 4)
    (hrun : p.running = true → ps.any (·.running) = false) : PulsesKept (insertPulse now p ps) := by
  have hperm := insertPulse_perm now p ps
  refine ⟨by rw [hperm.length_eq]; exact hroom, ?_⟩
  have hcount : ((insertPulse now p ps).filter (·.running)).length = ((p :: ps).filter (·.running)).length :=
    (hperm.filter _).length_eq
  rw [oneRuns, hcount]
  cases hp : p.running with
  | false => rw [List.filter_cons_of_neg (by simp [hp])]; exact h.2
  | true =>
    have hnone : ps.filter (·.running) = [] := by simpa using hrun hp
    rw [List.filter_cons_of_pos hp, hnone]
    exact le_rfl

/-- One line's schedule changes. -/
theorem setLine_does (l : Line) (x : FieldLine) (s : State)
    (h : PulsesKept (s.trig.lines.get l).pulses → PulsesKept x.pulses) :
    Does s { s with trig.lines := s.trig.lines.set l x } := by
  refine .one (.lines _ fun m hm => ?_)
  rw [Tab.get_set]
  split
  next heq => subst heq; exact h hm
  next => exact hm

theorem placePulse_does (a : PulseAction) (n : SetId) (v : Option VehicleEvent) (s : State) : Does s (placePulse a n v s).1 := by
  unfold placePulse
  split
  next => exact .refl s
  next => exact .refl s
  next v _ _ hline _ =>
    dsimp only
    split
    next => exact .same rfl
    next hroom =>
      refine setLine_does _ _ _ fun hps => ?_
      rw [hline, FieldLine.pulses_output] at hps
      refine hps.insert (not_le.mp hroom) fun hrun => ?_
      rw [Bool.and_eq_true, Bool.not_eq_true'] at hrun
      exact hrun.2

theorem firePulse_does (e : TrigEvent) (n : SetId) (s : State) : Does s (firePulse e n s).1 := by
  unfold firePulse
  split
  · exact .refl s
  · exact placePulse_does ..

theorem fireTimer_does (n : SetId) (s : State) : Does s (fireTimer n s) := by
  unfold fireTimer
  split
  · exact .refl s
  · exact .same rfl

/-- Arming leaves the capture unit without a page. -/
theorem armCapture_does (r : ArmRequest) (s : State) : Does s (armCapture r s) := by
  unfold armCapture
  split
  next h => exact .one (.capture _ (by simp [State.traceFilling, State.held, h]))
  next => exact .refl s

theorem fireCapture_does (e : TrigEvent) (n : SetId) (s : State) : Does s (fireCapture e n s).1 := by
  unfold fireCapture applyCaptureAction
  split
  · exact .refl s
  · split
    · exact .refl s
    · exact armCapture_does ..

theorem fireReport_does (e : TrigEvent) (n : SetId) (a : Bool) (r : PulseResult) (b : Bool) (s : State) :
    Does s (fireReport e n a r b s) := by
  unfold fireReport
  split
  · exact createRecord_does ..
  · exact .refl s

@[simp] theorem applyMasks_held (en dis : BitVec 8) (s : State) : (applyMasks en dis s).held = s.held := rfl

@[simp] theorem setEnabled_held (n : SetId) (v : Bool) (s : State) : (setEnabled n v s).held = s.held := rfl

theorem fireSteps_does (e : TrigEvent) (n : SetId) (a : Bool) (s : State) : Does s (fireSteps e n a s) := by
  have hpulse := firePulse_does e n s
  have htimer := fireTimer_does n (firePulse e n s).1
  have hcapture := fireCapture_does e n (fireTimer n (firePulse e n s).1)
  have hreport := fireReport_does e n a (firePulse e n s).2 (fireCapture e n (fireTimer n (firePulse e n s).1)).2
    (fireCapture e n (fireTimer n (firePulse e n s).1)).1
  refine hpulse.trans (htimer.trans (hcapture.trans (hreport.trans (.same ?_))))
  simp only [fireSteps, applyMasks_held]
  split
  · exact setEnabled_held ..
  · rfl

theorem fire_does (e : TrigEvent) (depth : Nat) (n : SetId) (a : Bool) (acc : State × BitVec 8) :
    Does acc.1 (fire e depth n a acc).1 := by
  induction depth generalizing n a acc with
  | zero => exact .refl _
  | succ d ih =>
    unfold fire
    refine (fireSteps_does e n a acc.1).trans (.foldl_fst _ (fun p m => ?_) _ (_, _))
    split
    · exact ih ..
    · exact .refl _

theorem runCascade_does (e : TrigEvent) (s : State) : Does s (runCascade e s).1 := by
  unfold runCascade
  split
  · refine .foldl_fst _ (fun p n => ?_) _ (s, _)
    split
    · exact fire_does ..
    · exact .refl _
  · exact .refl s

theorem controlCascade_does (m : BitVec 8) (s : State) : Does s (controlCascade m s) := by
  refine .foldl_fst _ (fun p n => ?_) _ (s, _)
  split
  · exact fire_does ..
  · exact .refl _

/-- Lines that keep or lose their pulses. -/
theorem lines_does (ls : Tab 4 FieldLine) (s : State)
    (h : ∀ l, PulsesKept (s.trig.lines.get l).pulses → PulsesKept (ls.get l).pulses) : Does s { s with trig.lines := ls } :=
  .one (.lines ls h)

theorem PulsesKept.nil : PulsesKept [] := ⟨by simp, by simp [oneRuns]⟩

theorem discardPulses_does (s : State) : Does s (discardPulses s) := by
  refine .one (.lines (discardPulses s).trig.lines fun l _ => ?_)
  rw [discardPulses, Tab.get_map]
  split
  · exact .nil
  · exact .nil

theorem takeUpInputs_does (s : State) : Does s (takeUpInputs s) := by
  refine .one (.lines _ fun l (h : PulsesKept (s.trig.lines.get l).pulses) => ?_)
  rw [takeUpInputs, Tab.get_zipWith]
  split
  next => exact .nil
  next ps hl => rwa [hl] at h

theorem shiftTriggerTicks_does (off : Int) (s : State) : Does s (shiftTriggerTicks off s) := by
  refine .one (.lines _ fun l (h : PulsesKept (s.trig.lines.get l).pulses) => ?_)
  rw [shiftTriggerTicks, Tab.get_map]
  split
  next => exact .nil
  next ps hl =>
    rw [hl] at h
    exact ⟨by simpa using h.1, by simpa [oneRuns, List.filter_map, Function.comp_def] using h.2⟩

end Sys2Proof.Machine
end

section
/-!
PROOFS. Drift updates, closes, the end of measuring and the contexts as updates.
-/

namespace Sys2Proof.Machine

/-! ### The drift table -/

theorem clamp_mem {lo hi : Nat} (h : lo ≤ hi) (v : Nat) : lo ≤ clamp lo hi v ∧ clamp lo hi v ≤ hi := by
  unfold clamp
  split
  · omega
  · split <;> omega

/-- A cell put in place within the limits, its tally below the window. -/
theorem setCell_does (l : Lane) (b : Fin 8) (c : Cell) (s : State)
    (h : s.DriftBounded → s.cal.lower ≤ c.kd ∧ c.kd ≤ s.cal.upper ∧ c.count < s.cal.window) : Does s (setCell l b c s) := by
  refine .one (.cells (setCell l b c s).cal.cells fun (hs : s.DriftBounded) => ⟨hs.1, fun lane band => ?_⟩)
  by_cases hat : lane = l ∧ band = b
  · obtain ⟨rfl, rfl⟩ := hat
    show _ ∧ _ ∧ _
    rw [setCell_get_same]
    exact h hs
  · show _ ∧ _ ∧ _
    rw [setCell_get_ne _ _ _ _ _ _ (by tauto)]
    exact hs.2 lane band

theorem driftUpdate_does (l : Lane) (b : Fin 8) (c : Cell) (s : State) : Does s (driftUpdate l b c s) := by
  unfold driftUpdate
  extract_lets target mean step proposed kd atLower atUpper struck cleared c' s1 s2
  have hcell : Does s s1 := setCell_does l b c' s fun ⟨⟨_, h1, h2, _, hwindow⟩, _⟩ =>
    ⟨(clamp_mem (h1.trans h2) proposed).1, (clamp_mem (h1.trans h2) proposed).2, by
      show 0 < s.cal.window
      omega⟩
  have hrecord : Does s1 s2 := calibrationRecord_does ..
  split
  · exact (hcell.trans hrecord).trans (runCascade_does ..)
  · exact hcell.trans hrecord

theorem rejectOffer_does (s : State) : Does s (rejectOffer s) := .same rfl

/-- An offer tallied stays below the window, or brings the update that clears the tally (R116, R117). -/
theorem takeOffer_does (o : Offer) (s : State) : Does s (takeOffer o s) := by
  unfold takeOffer
  split
  next load band _ _ =>
    extract_lets c c'
    split
    · split
      · exact driftUpdate_does ..
      next hne =>
        refine setCell_does _ _ _ _ fun ⟨_, hcells⟩ => ?_
        obtain ⟨hlo, hhi, hcount⟩ := hcells o.lane band
        exact ⟨hlo, hhi, lt_of_le_of_ne hcount hne⟩
    · exact rejectOffer_does s
  next => exact rejectOffer_does s

theorem offerStage_does (v : ClosedVehicle) (e : Option ClassEntry) (s : State) : Does s (offerStage v e s) := by
  unfold offerStage
  split
  · split
    · exact takeOffer_does ..
    · exact .refl s
  · exact .refl s

/-! ### The close of a context -/

theorem recordStage_does (v : ClosedVehicle) (s : State) : Does s (recordStage v s) := by
  unfold recordStage
  exact (runCascade_does _ s).trans ((createRecord_does .vehicle _ _).trans (.same rfl))

/-- A part of the row-A list. -/
theorem filterRowA_does (p : WaitingAxle → Bool) (s : State) : Does s { s with axle.rowA := s.axle.rowA.filter p } :=
  .one (.rowA _ ⟨fun h => (List.length_filter_le ..).trans h,
    fun _ (h : s.axle.rowA = []) => by show s.axle.rowA.filter p = []; rw [h]; rfl⟩)

theorem releaseWaiting_does (c : Context) (s : State) : Does s (releaseWaiting c s) := filterRowA_does _ s

theorem closeStages_does (l : Lane) (c : Context) (x : CloseCause) (s : State) : Does s (closeStages l c x s) := by
  unfold closeStages
  exact (releaseWaiting_does c s).trans ((offerStage_does ..).trans (recordStage_does ..))

theorem emptySlot_does (l : Lane) (k : Slot) (s : State) : Does s (setContext l k none s) :=
  .one (.context l k none fun _ h => absurd h (by simp))

/-- What the capture unit takes on while it keeps its page. -/
theorem capture_does (st : CaptureState) (s : State) (h : ({ s with cap.st := st } : State).traceFilling = s.traceFilling) :
    Does s { s with cap.st := st } := .one (.capture st h)

theorem captureClosed_does (n : Nat) (s : State) : Does s (captureClosed n s) := by
  unfold captureClosed
  split
  next c hc =>
    split
    · split
      · exact capture_does _ _ (by simp [State.traceFilling, hc])
      · split
        · exact capture_does _ _ (by simp [State.traceFilling, hc])
        · exact .refl s
    · exact .refl s
  next => exact .refl s

theorem stopMeasuring_does (s : State) : Does s (stopMeasuring s) := by
  have hchans : Does s { s with det.chans := Tab.fill 16 .off } := .one (.chans _ fun _ c _ => Tab.get_fill _ _)
  have hits (r : Row) (u : State) : Does u (setHits r [] u) := .one (.hits r [] ⟨fun _ => Nat.zero_le _, fun _ _ => rfl⟩)
  exact hchans.trans ((hits .a _).trans (hits .b _))

theorem emptyRowLists_does (s : State) : Does s (emptyRowLists s) :=
  .one (.rowA [] ⟨fun _ => Nat.zero_le _, fun _ _ => rfl⟩)

/-- A change of the filling page that keeps its place and its phase. -/
theorem mapPage_does (f : ResultPage → ResultPage) (hpage : ∀ p, (f p).page = p.page) (hphase : ∀ p, (f p).phase = p.phase)
    (s : State) : Does s { s with rw.page := s.rw.page.map f } := by
  cases hp : s.rw.page with
  | none => exact .same (by simp [State.held, hp])
  | some p =>
    refine .one (.page (f p) (p := p) hp (hpage p) fun hw => ⟨fun k hk => ?_, fun hf => ?_⟩)
    · exact hw.writing p k hp ((hphase p).symm.trans hk)
    · exact (hphase p).trans ((hw.faulted hf).2 p hp)

theorem closeResultPage_does (f : BitVec 6) (s : State) : Does s (closeResultPage f s) := by
  refine mapPage_does _ (fun p => ?_) (fun p => ?_) s
  all_goals
    unfold ResultPage.askClose
    split
    · rfl
    · split
      · rfl
      · split <;> rfl

theorem setReaderPhase_does {t : OrderPage} (ph : ReadPhase) (s : State) (ht : s.ex.taken = some t)
    (h : s.cal.lock = true → t.phase.loadsCurve = false → ph.loadsCurve = false) :
    Does s { s with ex.taken := some { t with phase := ph } } := .one (.reader _ ht rfl h)

theorem fixOutcome_does (o : OrderOutcome) (d : Nat) (s : State) : Does s (fixOutcome o d s) := by
  unfold fixOutcome
  split
  next t ht =>
    split
    · exact setReaderPhase_does _ s ht fun _ _ => rfl
    · exact .refl s
  next => exact .refl s

theorem answerStop_does (s : State) : Does s (answerStop s) := by
  unfold answerStop
  split
  · split
    · exact fixOutcome_does ..
    · exact .refl s
  · exact .refl s

/-- Nothing is measured: channels OFF, no hit and no row-A axle held, no context. -/
structure State.NothingMeasured (s : State) : Prop where
  channels : ∀ c, s.det.chans.get c = .off
  hits : s.det.hits.a = [] ∧ s.det.hits.b = []
  rowA : s.axle.rowA = []
  contexts : s.noContext = true

/-- The run state may change between working states, and to READY once nothing is measured. -/
theorem State.RunConsistent.setRun {s : State} (hs : s.RunConsistent) {r : RunState} (hold : s.run ≠ .disabled)
    (hnew : r.works = true) (hidle : s.NothingMeasured ∨ ({ s with run := r } : State).measuring = s.measuring) :
    ({ s with run := r } : State).RunConsistent := by
  have hr : r ≠ .disabled := fun h => by rw [h] at hnew; exact absurd hnew (by decide)
  refine ⟨iff_of_false hr (fun h => hold (hs.enable.mpr h)), fun _ => hnew, ?_, ?_, ?_, ?_⟩
  all_goals
    intro hm
    obtain hidle | hsame := hidle
  · exact hidle.channels
  · exact hs.channels (hsame.symm.trans hm)
  · exact hidle.hits
  · exact hs.hits (hsame.symm.trans hm)
  · exact hidle.rowA
  · exact hs.rowA (hsame.symm.trans hm)
  · exact hidle.contexts
  · exact hs.contexts (hsame.symm.trans hm)

theorem setRun_does {r : RunState} (s : State) (hold : s.run ≠ .disabled) (hnew : r.works = true)
    (hidle : s.NothingMeasured ∨ ({ s with run := r } : State).measuring = s.measuring) : Does s { s with run := r } :=
  .one (.control s.regs.enable r s.ctrl.power fun hs =>
    (State.runConsistent_held { s with run := r }).mp (((State.runConsistent_held s).mpr hs).setRun hold hnew hidle))

theorem nothingMeasured_of_stopped (s : State) (h : s.noContext = true) : (emptyRowLists (stopMeasuring s)).NothingMeasured :=
  ⟨stopMeasuring_chans s, ⟨rfl, rfl⟩, rfl, h⟩

theorem testDrain_does (s : State) : Does s (testDrain s) := by
  unfold testDrain
  split
  next h =>
    obtain ⟨hrun, -, hnone⟩ := h
    unfold endDrain
    refine ((stopMeasuring_does s).trans ((emptyRowLists_does _).trans (closeResultPage_does dirDrain _))).trans ?_
    have hrun' : (closeResultPage dirDrain (emptyRowLists (stopMeasuring s))).run ≠ .disabled := by
      show s.run ≠ .disabled
      rw [hrun]
      decide
    have hidle := nothingMeasured_of_stopped s hnone
    refine Does.trans (setRun_does (r := .ready) _ hrun' rfl (.inl ⟨hidle.1, hidle.2, hidle.3, hidle.4⟩)) ?_
    exact (answerStop_does _).after (.same rfl)
  next => exact .refl s

theorem closeContext_does (l : Lane) (k : Slot) (x : CloseCause) (s : State) : Does s (closeContext l k x s) := by
  unfold closeContext
  split
  next => exact .refl s
  next c _ =>
    have hstages : Does s (if c.axles.isEmpty then s else closeStages l c x s) := by
      split
      · exact .refl s
      · exact closeStages_does ..
    exact ((hstages.trans (emptySlot_does l k _)).trans (captureClosed_does c.serial _)).trans (testDrain_does _)

theorem closeTest_does (l : Lane) (k : Slot) (s : State) : Does s (closeTest l k s) := by
  unfold closeTest
  split
  · exact .refl s
  · split
    · exact closeContext_does ..
    · exact .refl s

theorem truncateAll_does (s : State) : Does s (truncateAll s) :=
  .foldl _ (fun u _ => (closeContext_does _ _ _ u).trans (closeContext_does ..)) _ _

/-! ### Contexts -/

/-- Where contexts may open the part measures. -/
theorem measuring_of_mayOpen {s : State} (h : s.mayOpen = true) : s.measuring = true := by
  rw [State.mayOpen, Bool.and_eq_true] at h
  rw [State.measuring, h.2, Bool.and_true]
  revert h
  cases s.run <;> simp [RunState.opens, RunState.measures]

theorem run_ne_draining_of_mayOpen {s : State} (h : s.mayOpen = true) : s.run ≠ .draining := by
  intro hr
  rw [State.mayOpen, hr] at h
  exact absurd h (by simp [RunState.opens])

/-- A close leaves contexts free to open where they were. -/
theorem closeContext_mayOpen (l : Lane) (k : Slot) (x : CloseCause) (s : State) (h : s.mayOpen = true) :
    (closeContext l k x s).mayOpen = true := by
  rw [closeContext_close l k x s (run_ne_draining_of_mayOpen h)]
  exact h

theorem context_some_noContext {s : State} {l : Lane} {k : Slot} {c : Context} (h : s.context l k = some c) :
    s.noContext = false := by
  rw [← Bool.not_eq_true, State.noContext_iff]
  intro hn
  exact absurd ((hn l k).symm.trans h) (by simp)

/-- A context stands again where one stood, or comes to stand while the part measures. -/
theorem setContext_does (l : Lane) (k : Slot) (c : Context) (s : State)
    (haxles : (∀ lane slot e, s.context lane slot = some e → e.axles.length ≤ 32) → c.axles.length ≤ 32)
    (h : s.measuring = true ∨ s.noContext = false) : Does s (setContext l k (some c) s) :=
  .one (.context l k (some c) fun d hd => by obtain rfl := Option.some.inj hd; exact ⟨haxles, h⟩)

theorem captureOpening_does (l : Lane) (n : Nat) (s : State) : Does s (captureOpening l n s) := by
  unfold captureOpening
  split
  next req hreq =>
    have hidle : Does s { s with cap.st := .idle } := capture_does _ _ (by simp [State.traceFilling, hreq])
    split
    · split
      next => exact hidle
      next p rest hl =>
        split
        next => exact hidle
        next => exact .one (.takeTrace _ hl (by simp [State.traceFilling, State.held, hreq]) rfl)
    · exact .refl s
  next => exact .refl s

theorem moveToClosing_does (l : Lane) (f : Context → Context) (hf : ∀ c, (f c).axles = c.axles) (s : State) :
    Does s (moveToClosing l f s) := by
  unfold moveToClosing
  split
  next => exact .refl s
  next c hc =>
    refine (setContext_does l .closingSlot (f c) s (fun h => ?_) (.inr (context_some_noContext hc))).trans (emptySlot_does ..)
    rw [hf]
    exact h _ _ _ hc

theorem moveToClosing_measuring (l : Lane) (f : Context → Context) (s : State) :
    (moveToClosing l f s).measuring = s.measuring := by
  unfold moveToClosing
  split <;> rfl

/-- A loop onset where contexts may open. -/
theorem onsetContext_does (l : Lane) (tick : Nat) (s : State) (hopen : s.mayOpen = true) : Does s (onsetContext l tick s) := by
  unfold onsetContext
  extract_lets s1 s2 serial
  have h1 : Does s s1 ∧ s1.mayOpen = true := by
    unfold s1
    split
    · exact ⟨closeContext_does .., closeContext_mayOpen _ _ _ _ hopen⟩
    · exact ⟨.refl s, hopen⟩
  have h2 : Does s1 s2 := moveToClosing_does l id (fun _ => rfl) s1
  have hm : s2.measuring = true := (moveToClosing_measuring l id s1).trans (measuring_of_mayOpen h1.2)
  have hserial : Does s2 { s2 with veh.serial := serial } := .same rfl
  exact (h1.1.trans (h2.trans (hserial.trans (setContext_does _ _ _ _ (fun _ => by simp [Context.onOnset]) (.inl hm))))).trans
    (captureOpening_does ..)

theorem loopEndContext_does (l : Lane) (tick : Nat) (stuck : Bool) (s : State) : Does s (loopEndContext l tick stuck s) := by
  unfold loopEndContext
  split
  next => exact closeTest_does ..
  next =>
    extract_lets s1
    have h1 : Does s s1 := by
      unfold s1
      split
      · exact .refl s
      · exact closeContext_does ..
    exact h1.trans (moveToClosing_does l (s1.atLoopEnd l tick stuck) (fun _ => rfl) s1)

theorem insertAxle_length (x : Axle) (xs : List Axle) : (insertAxle x xs).length = xs.length + 1 := by
  induction xs with
  | nil => rfl
  | cons y rest ih =>
    rw [insertAxle]
    split
    · rw [List.length_cons, ih, List.length_cons]
    · rfl

/-- An axle that joins a context leaves it with at most 32 held (R91). -/
theorem joined_axles_length (s : State) (x : Axle) (c : Context) (h : c.axles.length ≤ 32) :
    (s.joined x c).axles.length ≤ 32 := by
  unfold State.joined
  dsimp only
  split
  · rw [insertAxle_length]
    omega
  · exact h

theorem openWithAxle_does (l : Lane) (k : Slot) (mk : Nat → Context) (hmk : ∀ n, (mk n).axles = []) (x : Axle) (s : State)
    (hopen : s.mayOpen = true) : Does s (openWithAxle l k mk x s) := by
  refine Does.trans (t := { s with veh.serial := nextSerial s.veh.serial }) (.same rfl)
    (setContext_does l k _ _ (fun _ => ?_) (.inl (measuring_of_mayOpen hopen)))
  exact joined_axles_length _ _ _ (by rw [hmk]; exact Nat.zero_le _)

theorem joinSlot_does (l : Lane) (k : Slot) (x : Axle) (s : State) : Does s (joinSlot l k x s) := by
  unfold joinSlot
  split
  next => exact .refl s
  next c hc =>
    split
    next hsplit =>
      have hopen : s.mayOpen = true := by
        rw [State.splits, Bool.and_eq_true] at hsplit
        exact hsplit.1
      exact (closeContext_does l k .splitAfter s).trans
        (openWithAxle_does l k _ (fun _ => rfl) x _ (closeContext_mayOpen _ _ _ _ hopen))
    next => exact setContext_does _ _ _ _ (fun h => joined_axles_length _ _ _ (h _ _ _ hc)) (.inr (context_some_noContext hc))

theorem assignAxle_does (x : Axle) (s : State) : Does s (assignAxle x s) := by
  unfold assignAxle
  split
  · exact .refl s
  · dsimp only
    split
    · exact joinSlot_does ..
    · split
      next hopen => exact openWithAxle_does _ _ _ (fun _ => rfl) x s hopen
      next => exact .refl s

theorem redeadline_axles (s : State) (l : Lane) (c : Context) : (s.redeadline l c).axles = c.axles := by
  unfold State.redeadline
  dsimp only
  split <;> rfl

theorem completeAxle_does (n : Nat) (f : Axle → Axle) (s : State) : Does s (completeAxle n f s) := by
  unfold completeAxle
  split
  · exact .refl s
  · split
    next => exact .refl s
    next c hc =>
      refine (setContext_does _ _ _ _ (fun h => ?_) (.inr (context_some_noContext hc))).trans (closeTest_does ..)
      rw [redeadline_axles, List.length_map]
      exact h _ _ _ hc

end Sys2Proof.Machine
end

section
/-!
PROOFS. Hits, row axles, frames and the temperature unit as updates.
-/

namespace Sys2Proof.Machine

/-! ### Hits and row axles -/

/-- A list that may grow only while the part measures. -/
theorem ListKept.of_measuring {α : Type} {m : Bool} {n : Nat} {old new : List α} (hm : m = true)
    (h : old.length ≤ n → new.length ≤ n) : ListKept m n old new :=
  ⟨h, fun hf => absurd (hf.symm.trans hm) (by decide)⟩

/-- A list that does not grow. -/
theorem ListKept.of_length_le {α : Type} {m : Bool} {n : Nat} {old new : List α} (h : new.length ≤ old.length) :
    ListKept m n old new :=
  ⟨h.trans, fun _ ho => List.eq_nil_of_length_eq_zero (Nat.le_zero.mp (by simpa [ho] using h))⟩

theorem insertWaiting_length (w : WaitingAxle) (ws : List WaitingAxle) : (insertWaiting w ws).length = ws.length + 1 := by
  induction ws with
  | nil => rfl
  | cons v rest ih =>
    rw [insertWaiting]
    split
    · rw [List.length_cons, ih, List.length_cons]
    · rfl

theorem insertHit_length (h : Hit) (hs : List Hit) : (insertHit h hs).length = hs.length + 1 := by
  induction hs with
  | nil => rfl
  | cons g rest ih =>
    rw [insertHit]
    split
    · rw [List.length_cons, ih, List.length_cons]
    · rfl

theorem setRowA_does (ws : List WaitingAxle) (s : State) (h : ListKept s.measuring 16 s.axle.rowA ws) :
    Does s { s with axle.rowA := ws } := .one (.rowA ws h)

theorem setHits_does (r : Row) (hs : List Hit) (s : State) (h : ListKept s.measuring 32 (s.det.hits.get r) hs) :
    Does s (setHits r hs s) := .one (.hits r hs h)

/-- A row-A row axle enters its list while the part measures; of seventeen one goes (R43). -/
theorem enterRowA_does (p : RowAxle) (s : State) (hm : s.measuring = true) : Does s (enterRowA p s) := by
  unfold enterRowA
  extract_lets id new src s1 waiting full
  have hnew (ws : List WaitingAxle) (h : s.axle.rowA.length ≤ 16 → ws.length ≤ 16) : Does s { s1 with axle.rowA := ws } :=
    (setRowA_does ws s (.of_measuring hm h)).trans (.same rfl)
  split
  next hnil => exact (hnew [new] fun _ => by simp).trans (assignAxle_does ..)
  next low rest hcons =>
    rw [hcons] at hnew
    split
    · exact (assignAxle_does ..).after (.same rfl)
    · split
      · refine (hnew _ fun h => ?_).trans ((completeAxle_does ..).trans (assignAxle_does ..))
        rw [insertWaiting_length]
        exact h
      next hroom =>
        refine (hnew _ fun _ => ?_).trans (assignAxle_does ..)
        rw [insertWaiting_length, ← hcons]
        have : ¬rowListMax ≤ s.axle.rowA.length := by simpa [full] using hroom
        exact Nat.lt_of_not_le this

theorem matchRowB_does (p : RowAxle) (s : State) : Does s (matchRowB p s) := by
  unfold matchRowB
  extract_lets s0
  split
  next w change _ =>
    extract_lets s1
    have h1 : Does s s1 := (filterRowA_does (fun u => u.id ≠ w.id) s).trans (.same rfl)
    exact h1.trans (completeAxle_does ..)
  next => exact (assignAxle_does ..).after (.same rfl)

theorem formRowAxle_does (p : RowAxle) (s : State) (hp : s.powerIdle = true) : Does s (formRowAxle p s) := by
  unfold formRowAxle
  split
  next hm =>
    split
    · exact enterRowA_does p s (by rw [State.measuring, hm, hp]; rfl)
    · exact matchRowB_does p s
  next => exact .refl s

theorem offerHit_does (h : Hit) (s : State) (hp : s.powerIdle = true) : Does s (offerHit h s) := by
  unfold offerHit
  dsimp only
  split
  · exact .refl s
  · refine Does.trans (setHits_does _ _ s (.of_length_le ?_)) (formRowAxle_does _ _ hp)
    exact ((List.erase_sublist ..).trans (List.erase_sublist ..)).length_le

theorem enterHit_does (h : Hit) (s : State) (hm : s.measuring = true) : Does s (enterHit h s) := by
  have hp : s.powerIdle = true := by
    rw [State.measuring, Bool.and_eq_true] at hm
    exact hm.2
  have hlength := insertHit_length h (s.det.hits.get (chanRow h.chan))
  unfold enterHit
  dsimp only
  split
  next hfull =>
    split
    next => exact .refl s
    next low rest hcons =>
      rw [hcons, List.length_cons] at hlength
      have hrest : rest.length ≤ (s.det.hits.get (chanRow h.chan)).length := by omega
      have hlost : Does s (setHits (chanRow h.chan) rest { s with det.lost := satInc s.det.lost }) :=
        (setHits_does (chanRow h.chan) rest { s with det.lost := satInc s.det.lost } (.of_length_le hrest)).after (.same rfl)
      split
      · exact hlost
      · exact hlost.trans (offerHit_does h _ hp)
  next hroom =>
    exact (setHits_does _ _ s (.of_measuring hm fun _ => Nat.le_of_not_lt hroom)).trans (offerHit_does _ _ hp)

theorem settleHit_does (c : Chan) (r : ChanResult) (s : State) (hp : s.powerIdle = true) : Does s (settleHit c r s) := by
  unfold settleHit
  split
  · exact .refl s
  · split
    next hm =>
      split
      · exact enterHit_does _ s (by rw [State.measuring, hm, hp]; rfl)
      · exact .same rfl
    next => exact .refl s

/-- A fold of traffic outside a power-fail sequence. -/
theorem Does.foldl_idle {α : Type} (f : State → α → State) (hf : ∀ u a, TrafficFrame u (f u a))
    (h : ∀ u a, u.powerIdle = true → Does u (f u a)) (l : List α) (s : State) (hp : s.powerIdle = true) : Does s (l.foldl f s) := by
  induction l generalizing s with
  | nil => exact .refl s
  | cons a rest ih => exact (h s a hp).trans (ih _ ((hf s a).powerIdle.trans hp))

theorem expireHits_does (r : Row) (t : Nat) (s : State) (hp : s.powerIdle = true) : Does s (expireHits r t s) := by
  unfold expireHits
  extract_lets gone held
  have hheld : Does s (setHits r (held.filter fun h => !gone h) s) :=
    setHits_does r _ s (.of_length_le (List.length_filter_le ..))
  exact hheld.trans <| .foldl_idle _ (fun u h => formRowAxle_traffic _ u) (fun u h => formRowAxle_does _ u) _ _ hp

theorem expireAxle_does (w : WaitingAxle) (s : State) : Does s (expireAxle w s) := by
  unfold expireAxle
  exact (filterRowA_does (fun u => u.id ≠ w.id) s).trans (completeAxle_does ..)

theorem timeMark_does (t : Nat) (s : State) (hp : s.powerIdle = true) : Does s (timeMark t s) := by
  have hp' : (expireHits .a t s).powerIdle = true := (expireHits_traffic .a t s).powerIdle.trans hp
  exact (expireHits_does .a t s hp).trans ((expireHits_does .b t _ hp').trans (.foldl _ (fun u w => expireAxle_does w u) _ _))

/-- QUIET and WAKING both measure. -/
theorem wake_does (s : State) : Does s (wake s) := by
  unfold wake
  split
  next h =>
    refine (setRun_does (r := .waking) s (by rw [h.1]; decide) rfl (.inr ?_)).trans (.same rfl)
    simp [State.measuring, State.powerIdle, h.1, RunState.measures]
  next => exact .refl s

/-- The channels change while the part measures. -/
theorem setChans_does (cs : Tab 16 ChanState) (n : Nat) (s : State) (hm : s.measuring = true) :
    Does s { s with det.chans := cs, det.aborted := n } :=
  .one (.chans cs fun hf => absurd (hf.symm.trans hm) (by decide))

theorem wakeIf_does (b : Bool) (s : State) : Does s (if b then wake s else s) := by
  split
  · exact wake_does s
  · exact .refl s

theorem wakeIf_traffic (b : Bool) (s : State) : TrafficFrame s (if b then wake s else s) := by
  split
  · exact wake_traffic s
  · exact .refl s

theorem settleHits_traffic (rs : List (Chan × ChanResult)) (s : State) :
    TrafficFrame s (rs.foldl (fun u p => settleHit p.1 p.2 u) s) :=
  .foldl _ (fun u p => settleHit_traffic p.1 p.2 u) rs s

theorem settleHits_does (rs : List (Chan × ChanResult)) (s : State) (hp : s.powerIdle = true) :
    Does s (rs.foldl (fun u p => settleHit p.1 p.2 u) s) :=
  .foldl_idle _ (fun u p => settleHit_traffic p.1 p.2 u) (fun u p => settleHit_does p.1 p.2 u) rs s hp

theorem detectFrame_does (f : Frame) (k : Finding) (s : State) (hm : s.measuring = true) : Does s (detectFrame f k s) := by
  have hp : s.powerIdle = true := by
    rw [State.measuring, Bool.and_eq_true] at hm
    exact hm.2
  unfold detectFrame
  extract_lets rs det s1 s2
  have hchans : Does s s1 := setChans_does _ _ s hm
  have hframe : TrafficFrame s s1 := rfl
  have hp2 : s2.powerIdle = true := (hframe.trans (wakeIf_traffic _ s1)).powerIdle.trans hp
  have hp3 := (settleHits_traffic rs s2).powerIdle.trans hp2
  exact hchans.trans ((wakeIf_does _ s1).trans ((settleHits_does rs s2 hp2).trans (timeMark_does _ _ hp3)))

theorem takeFrame_does (f : Frame) (s : State) : Does s (takeFrame f s) := by
  unfold takeFrame
  split
  · exact .refl s
  · split
    · exact .refl s
    · extract_lets finding s1
      have h1 : Does s s1 := .one (.frames s1.history.frames (List.length_take_le ..))
      split
      next hm => exact h1.trans (detectFrame_does f finding s1 (by
        show (s.run.measures && s.powerIdle) = true
        rw [hm.1, hm.2]
        rfl))
      next => exact h1

/-- Losing the open hits leaves an OFF channel OFF. -/
theorem loseOpenHits_does (s : State) : Does s (loseOpenHits s) := by
  refine .one (.chans (loseOpenHits s).det.chans fun _ c (h : s.det.chans.get c = .off) => ?_)
  rw [loseOpenHits, Tab.get_map, h]
  rfl

theorem loseLink_does (s : State) : Does s (loseLink s) := by
  unfold loseLink
  split
  · split
    · exact (loseOpenHits_does _).after (.same rfl)
    · exact .refl s
  · exact .refl s

theorem loseHitLists_does (s : State) : Does s (loseHitLists s) := by
  have hits (r : Row) (u : State) : Does u (setHits r [] u) := setHits_does r [] u (.of_length_le (Nat.zero_le _))
  exact ((hits .a s).trans (hits .b _)).trans (.same rfl)

theorem releaseRowA_does (s : State) : Does s (releaseRowA s) := .foldl _ (fun u w => expireAxle_does w u) _ _

/-! ### Temperature -/

theorem updateRow_does (row : Row) (temp : RowTemp) (s : State) : Does s (updateRow row temp s) :=
  .same (by rw [updateRow_frame]; rfl)

theorem intervalCheck_does (s : State) : Does s (intervalCheck s) := by
  unfold intervalCheck
  dsimp only
  split
  · exact (createRecord_does ..).trans (.same rfl)
  · exact .refl s

theorem secondClose_does (s : State) : Does s (secondClose s) := by
  unfold secondClose
  extract_lets a b src s1 s2
  have h2 : Does s1 s2 := (updateRow_does ..).trans (updateRow_does ..)
  exact (h2.after (.same rfl)).trans ((intervalCheck_does _).after (.same rfl))

theorem pollNext_does (l : List Probe) (s : State) : Does s (pollNext l s) := by
  unfold pollNext
  split
  · exact .same rfl
  · exact secondClose_does s

theorem startRound_does (s : State) : Does s (startRound s) := by
  unfold startRound
  split
  · exact (pollNext_does ..).after (.same rfl)
  · exact .refl s

theorem deliver_does (p : Polled) (o : ProbeOutcome) (s : State) : Does s (deliver p o s) := by
  unfold deliver
  extract_lets src s1 src2 s2
  have h2 : Does s s2 := by
    unfold s2
    split <;> exact .same rfl
  split
  · exact h2.trans (pollNext_does ..)
  · exact h2

theorem takeAnswer_does (a : Answer) (s : State) : Does s (takeAnswer a s) := by
  unfold takeAnswer
  split
  · exact .refl s
  · split
    · exact deliver_does ..
    · exact .refl s

theorem answerTimedOut_does (s : State) : Does s (answerTimedOut s) := by
  unfold answerTimedOut
  split
  · split
    · exact deliver_does ..
    · exact .refl s
  · exact .refl s

end Sys2Proof.Machine
end

section
/-!
PROOFS. The Record Writer, the trace writer, the order reader, the sweeper and a bus error as updates.
-/

namespace Sys2Proof.Machine

/-! ### The Record Writer -/

/-- The writer goes on in a page where it was busy; with BUS_FAULT set it is not (R163). -/
theorem writerGoesOn_does {p : ResultPage} (x : ResultPage) (s : State) (hp : s.rw.page = some p) (same : x.page = p.page)
    (hbusy : p.phase ≠ .rest) (hrecord : ∀ k, x.phase = .record k → ∃ j, p.phase = .record j) :
    Does s { s with rw.page := some x } := by
  refine .one (.page x (p := p) hp same fun hw => ⟨fun k hk => ?_, fun hf => ?_⟩)
  · obtain ⟨j, hj⟩ := hrecord k hk
    exact hw.writing p j hp hj
  · exact absurd ((hw.faulted hf).2 p hp) hbusy

/-- The writer leaves a record, or takes no new one up, while BUS_FAULT is clear. -/
theorem writerTurns_does {p : ResultPage} (x : ResultPage) (s : State) (hp : s.rw.page = some p) (same : x.page = p.page)
    (hrecord : ∀ k, x.phase ≠ .record k) (hfault : s.WriterConsistent → s.regs.busFault = true → x.phase = .rest) :
    Does s { s with rw.page := some x } :=
  .one (.page x (p := p) hp same fun hw =>
    ⟨fun k hk => absurd hk (hrecord k), fun hf => hfault ((State.writerConsistent_held s).mpr hw) hf⟩)

theorem takeResultHead_does (s : State) (hn : s.rw.page = none) (hf : s.regs.busFault = false) : Does s (takeResultHead s) := by
  unfold takeResultHead
  split
  · exact .refl s
  next p rest hl => exact .one (.takeResult (ResultPage.fresh p s.clock) hl hn hf rfl rfl)

theorem advanceWriter_does (s : State) : Does s (advanceWriter s) := by
  unfold advanceWriter
  split
  next => exact .refl s
  next p hp =>
    split
    next hfree =>
      have hclear : s.WriterConsistent → s.regs.busFault = true → WritePhase.closeEntry = .rest :=
        fun _ hf => absurd (hf.symm.trans hfree.2.1) (by decide)
      split
      · exact writerTurns_does _ s hp rfl (by simp) hclear
      · split
        next => exact .refl s
        next r rest hq =>
          split
          · exact .refl s
          · split
            · exact .one (.begun (p := p) hp (by simp [State.held, hq]) hfree.2.1)
            · exact writerTurns_does _ s hp rfl (by simp) hclear
    next => exact .refl s

theorem composeHeader_does {p : ResultPage} (s : State) (hp : s.rw.page = some p) (h : p.phase = .takeEntry) :
    Does s (composeHeader p s) :=
  by
  have hpage : Does s { s with rw.page := (composeHeader p s).rw.page } :=
    writerGoesOn_does _ s hp rfl (by simp [h]) (by simp)
  exact hpage.trans (.same rfl)

/-- The power-fail sequence's count of records placed is not what keeps the run state consistent. -/
theorem mapPower_does (f : PowerSeq → PowerSeq) (s : State) : Does s { s with ctrl.power := s.ctrl.power.map f } := by
  refine .one (.control s.regs.enable s.run (s.ctrl.power.map f) fun hs => ?_)
  have hidle : ({ s.held with ctrl.power := s.ctrl.power.map f } : State).powerIdle = s.held.powerIdle := Option.isNone_map
  have hmeasuring : ({ s.held with ctrl.power := s.ctrl.power.map f } : State).measuring = s.held.measuring := by
    rw [State.measuring, hidle, State.measuring]
  exact ⟨hs.enable, fun h => hs.power (hidle.symm.trans h), fun h => hs.channels (hmeasuring.symm.trans h),
    fun h => hs.hits (hmeasuring.symm.trans h), fun h => hs.rowA (hmeasuring.symm.trans h),
    fun h => hs.contexts (hmeasuring.symm.trans h)⟩

/-- The record written leaves the queue; the page is at rest again (R156). -/
theorem placed_does {p : ResultPage} {r : Rec} {rest : List Rec} {k : Nat} (x : ResultPage) (s : State)
    (hp : s.rw.page = some p) (hk : p.phase = .record k) (hq : s.rw.queue = r :: rest) (same : x.page = p.page)
    (hx : x.phase = .rest) : Does s { s with rw.queue := rest, rw.pinned := false, rw.page := some x } := by
  have hpage : Does s { s with rw.page := some x } := writerGoesOn_does x s hp same (by simp [hk]) (by simp [hx])
  refine hpage.trans (.one (.unqueue rest false (by simp [State.held, hq]) fun _ y j hy hj => ?_))
  obtain rfl := Option.some.inj hy
  exact absurd (hx.symm.trans hj) (by simp)

theorem completeWriter_does (s : State) : Does s (completeWriter s) := by
  unfold completeWriter
  split
  next => exact .refl s
  next p hp =>
    split
    next h => exact composeHeader_does s hp h
    next k h => exact writerGoesOn_does _ s hp rfl (by simp [h]) (by intro j; dsimp only; split <;> simp)
    next => exact .refl s
    next k h =>
      split
      next => exact .refl s
      next r rest hq =>
        split
        · exact writerGoesOn_does _ s hp rfl (by simp [h]) fun _ _ => ⟨k, h⟩
        · exact (placed_does (p.placed r s.ex.flushMs) s hp h hq rfl rfl).trans (mapPower_does _ _)
    next h =>
      have hclose : Does s { pageClosed p.page s with rw.page := none } := .one (.closeResult hp)
      exact hclose.trans (.same (raiseNoPage_held _))

theorem faultWriter_does (own : Bool) (s : State) : Does s (faultWriter own s) := by
  unfold faultWriter
  split
  next => exact .refl s
  next p hp =>
    split
    · exact .one (.undoResult hp)
    · exact writerTurns_does _ s hp rfl (by simp) fun _ _ => rfl

/-- After a bus error the page held is at rest (R163). -/
theorem faultWriter_rest (own : Bool) (s : State) : ∀ p, (faultWriter own s).rw.page = some p → p.phase = .rest := by
  intro p
  unfold faultWriter
  split
  next h => rw [h]; simp
  next q hq =>
    split
    · simp
    · rintro h
      obtain rfl := Option.some.inj h
      rfl

/-! ### The trace writer -/

theorem copy_page (c : CaptureRun) (pg : TracePage) (h : History) (lent : Bool) :
    (c.copy pg h lent).page.map TracePage.page = some pg.page := by
  unfold CaptureRun.copy
  split
  · rfl
  · split
    · rfl
    · split <;> rfl

theorem next_page (c : CaptureRun) (pg : TracePage) (h : History) (lent : Bool) :
    (c.next pg h lent).page.map TracePage.page = some pg.page := by
  have hcatch : (c.catchUp pg h).2.page = pg.page := by
    unfold CaptureRun.catchUp
    split <;> rfl
  unfold CaptureRun.next
  dsimp only
  split
  next n reason _ =>
    split
    · exact congrArg some hcatch
    · exact (copy_page ..).trans (congrArg some hcatch)
  next => exact (copy_page ..).trans (congrArg some hcatch)

/-- The capture in progress goes on with the page it fills. -/
theorem captureGoesOn_does {c : CaptureRun} (d : CaptureRun) (s : State) (hc : s.cap.st = .capturing c)
    (h : d.page.map TracePage.page = c.page.map TracePage.page) : Does s { s with cap.st := .capturing d } :=
  capture_does _ s (by simp only [State.traceFilling, hc]; exact h)

theorem traceFilling_capturing {s : State} {c : CaptureRun} {pg : TracePage} (hc : s.cap.st = .capturing c)
    (hpg : c.page = some pg) : s.traceFilling = some pg.page := by
  simp only [State.traceFilling, hc, hpg]
  rfl

theorem advanceTrace_does (s : State) : Does s (advanceTrace s) := by
  unfold advanceTrace
  split
  next c hc =>
    split
    next => exact .refl s
    next pg hpg =>
      split
      · exact captureGoesOn_does _ s hc ((next_page ..).trans (by rw [hpg]; rfl))
      · exact .refl s
  next => exact .refl s

theorem traceClosed_does {c : CaptureRun} {pg : TracePage} (s : State) (hc : s.cap.st = .capturing c)
    (hpg : c.page = some pg) : Does s (traceClosed c pg s) := by
  have hclose : Does s { pageClosed pg.page s with cap.st := .idle } := .one (.closeTrace (traceFilling_capturing hc hpg))
  unfold traceClosed
  extract_lets s1
  split
  · split
    next => exact hclose
    next p rest hl =>
      exact hclose.trans (.one (.takeTrace (.capturing { c with page := some (TracePage.taken p (pg.seq + 1)) }) hl rfl rfl))
  · exact hclose

theorem completeTrace_does (s : State) : Does s (completeTrace s) := by
  unfold completeTrace
  split
  next c hc =>
    split
    next => exact .refl s
    next pg hpg =>
      have goesOn (d : CaptureRun) (h : d.page.map TracePage.page = some pg.page) :
          Does s { s with cap.st := .capturing d } := captureGoesOn_does d s hc (h.trans (by rw [hpg]; rfl))
      split
      · exact goesOn _ rfl
      · exact .refl s
      · exact goesOn _ rfl
      · exact goesOn _ rfl
      · exact goesOn _ rfl
      · exact traceClosed_does s hc hpg
  next => exact .refl s

theorem faultTrace_does (own : Bool) (s : State) : Does s (faultTrace own s) := by
  unfold faultTrace
  split
  next c hc =>
    split
    next => exact .refl s
    next pg hpg =>
      split
      · exact .one (.undoTrace _ (traceFilling_capturing hc hpg) rfl)
      · exact captureGoesOn_does _ s hc (by rw [hpg]; rfl)
  next => exact .refl s

theorem resumeTrace_does {c : CaptureRun} (s : State) (hc : s.cap.st = .capturing c) : Does s (resumeTrace c s) := by
  unfold resumeTrace
  split
  next h => exact capture_does _ s (by simp [State.traceFilling, hc, h])
  next pg hpg =>
    split
    · exact captureGoesOn_does _ s hc (by rw [hpg]; rfl)
    · exact .refl s

theorem stopCapture_does (r : EndReason) (s : State) : Does s (stopCapture r s) := by
  unfold stopCapture
  split
  next => exact .refl s
  next req hreq => exact capture_does _ s (by simp [State.traceFilling, hreq])
  next c hc =>
    split
    · exact captureGoesOn_does _ s hc rfl
    · split
      · refine captureGoesOn_does _ s hc ?_
        rw [Option.map_map]
        congr 1
        funext pg
        rw [Function.comp, TracePage.stopped]
        split <;> rfl
      · exact .refl s

theorem disarm_does (s : State) : Does s (disarm s) := by
  unfold disarm
  split
  next req hreq => exact capture_does _ s (by simp [State.traceFilling, hreq])
  next => exact .refl s

theorem breakCapture_does (s : State) : Does s (breakCapture s) := by
  unfold breakCapture
  split
  next c hc => exact captureGoesOn_does _ s hc rfl
  next => exact .refl s

/-! ### The order reader -/

theorem setReader_does {t : OrderPage} (ph : ReadPhase) (s : State) (ht : s.ex.taken = some t)
    (h : s.cal.lock = true → t.phase.loadsCurve = false → ph.loadsCurve = false) : Does s (setReader ph s) := by
  unfold setReader
  rw [ht]
  exact setReaderPhase_does ph s ht h

/-- The reader goes to a phase in which no curve is loaded. -/
theorem setReader_plain_does (ph : ReadPhase) (s : State) (h : ph.loadsCurve = false) : Does s (setReader ph s) := by
  cases ht : s.ex.taken with
  | none => exact .same (by simp [State.held, setReader, ht])
  | some t => exact setReader_does ph s ht fun _ _ => h

theorem dispatch_loadsCurve (t : OrderPage) (w : Word) : (t.dispatch w).loadsCurve = false := by
  unfold OrderPage.dispatch
  extract_lets len
  split
  · split <;> rfl
  · split
    · rfl
    · split
      · rfl
      · split <;> rfl

theorem releaseOrderPage_does {t : OrderPage} (s : State) (ht : s.ex.taken = some t) : Does s (releaseOrderPage t.page s) :=
  .one (.releaseOrder ht)

theorem gather_does (k : OrderKind) (w : Word) (s : State) : Does s (gather k w s) := by
  unfold gather
  split <;> exact .same rfl

theorem gather_taken (k : OrderKind) (w : Word) (s : State) : (gather k w s).ex.taken = s.ex.taken := by
  unfold gather
  split <;> rfl

theorem dropShadows_does (s : State) : Does s (dropShadows s) := .same rfl

theorem loading_loadsCurve (k : OrderKind) (len : Nat) (params : List Word) :
    (ReadPhase.loading k len params).loadsCurve = decide (k = .loadTemperatureCurve) := by
  cases k <;> rfl

theorem loaded_loadsCurve (k : OrderKind) (len : Nat) (params : List Word) :
    (ReadPhase.loaded k len params).loadsCurve = decide (k = .loadTemperatureCurve) := by
  cases k <;> rfl

theorem completeReader_does (ws : List Word) (s : State) : Does s (completeReader ws s) := by
  unfold completeReader
  extract_lets w
  split
  next => exact .refl s
  next t ht =>
    split
    next => exact setReader_plain_does _ s (by split <;> rfl)
    next => exact releaseOrderPage_does s ht
    next => exact setReader_plain_does _ s (dispatch_loadsCurve ..)
    next => exact setReader_plain_does _ s (dispatch_loadsCurve ..)
    next => exact setReader_plain_does _ s (by split <;> rfl)
    next k len params h =>
      refine (gather_does k w s).trans (setReader_does _ _ ((gather_taken ..).trans ht) fun _ hold => ?_)
      rw [h, loading_loadsCurve] at hold
      split
      · exact (loading_loadsCurve ..).trans hold
      · exact (loaded_loadsCurve ..).trans hold
    next len o d final h =>
      refine .one (.reader (t.afterOutcome len final) ht ?_ fun _ _ => ?_)
      · unfold OrderPage.afterOutcome
        split <;> rfl
      · unfold OrderPage.afterOutcome
        split
        · rfl
        · dsimp only
          split <;> rfl
    next => exact releaseOrderPage_does s ht
    next => exact .refl s
    next => exact .refl s
    next => exact .refl s
    next => exact .refl s

theorem faultReader_does (own : Bool) (s : State) : Does s (faultReader own s) := by
  unfold faultReader
  split
  next => exact .refl s
  next t ht =>
    split
    · exact .one (.undoOrder ht)
    · exact (setReader_plain_does .halted (dropShadows s) rfl).after (dropShadows_does s)

theorem takeOrderHead_does (s : State) (hn : s.ex.taken = none) : Does s (takeOrderHead s) := by
  unfold takeOrderHead
  split
  · exact .refl s
  next p e rest hl => exact .one (.takeOrder _ hl hn rfl rfl)

/-- The page taken is marked; its reader stays where it is. -/
theorem markOrder_does {t : OrderPage} (u : OrderPage) (s : State) (ht : s.ex.taken = some t) (hpage : u.page = t.page)
    (hphase : u.phase = t.phase) : Does s { s with ex.taken := some u } :=
  .one (.reader u ht hpage fun _ h => (congrArg ReadPhase.loadsCurve hphase).trans h)

theorem abandonOrders_does (f : BitVec 6) (s : State) : Does s (abandonOrders f s) := by
  unfold abandonOrders
  split
  next => exact .refl s
  next t ht =>
    split
    · exact markOrder_does _ s ht rfl rfl
    · split
      · exact .refl s
      · refine (fixOutcome_does ..).after ?_
        have hmark : Does s { s with ex.taken := some { t with flags := t.flags ||| f, abandon := true } } :=
          markOrder_does _ s ht rfl rfl
        exact hmark.trans (dropShadows_does _)

/-! ### The sweeper -/

theorem idleWork_does (s : State) : Does s { s with ex.work := none } := .one (.work none fun _ _ h => absurd h (by simp))

theorem stopSweeper_does (s : State) : Does s (stopSweeper s) := (idleWork_does s).trans (.same rfl)

theorem takeEntryRead_does (p : Page) (handover : Bool) (e : DirEntry) (s : State)
    (hw : s.ex.work = some (.readEntry p handover)) : Does s (takeEntryRead p handover e s) := by
  unfold takeEntryRead
  extract_lets src s1
  split
  · exact .one (.lendResult (w := .readEntry p handover) hw)
  · split
    · exact .one (.lendTrace (w := .readEntry p handover) hw)
    · split
      · exact .one (.lendOrder (w := .readEntry p handover) e hw)
      · split
        · refine .one (.work (some (.refuse p e handover)) fun ho x hx => ?_)
          obtain rfl := Option.some.inj hx
          exact ho.work (.readEntry p handover) hw
        · have h1 : Does s s1 := (idleWork_does s).trans (.same rfl)
          split
          · exact h1.trans (.same rfl)
          · exact h1

theorem completeSweeper_does (ws : List Word) (s : State) : Does s (completeSweeper ws s) := by
  unfold completeSweeper
  split
  next => exact .refl s
  next p handover hw => exact takeEntryRead_does p handover _ s hw
  next => exact (idleWork_does s).trans (.same rfl)

theorem nextSwept_notMine {s : State} {i : Nat} {p : Page} (h : s.nextSwept i = some p) : s.ex.table.get p = .notMine := by
  have := List.find?_some h
  simp only [Bool.and_eq_true, decide_eq_true_eq] at this
  exact this.2

/-- The sweeper reads the entry of a page that is not the part's. -/
theorem readEntry_does (p : Page) (handover : Bool) (s : State) (h : s.ex.table.get p = .notMine) :
    Does s { s with ex.work := some (.readEntry p handover) } :=
  .one (.work _ fun _ x hx => by obtain rfl := Option.some.inj hx; exact h)

theorem advanceSweeper_does (s : State) : Does s (advanceSweeper s) := by
  unfold advanceSweeper
  split
  · split
    · split
      next p hp =>
        split
        · exact (readEntry_does p false s (nextSwept_notMine hp)).trans (.same rfl)
        · exact .refl s
      next => exact .same rfl
    · exact .refl s
  · exact .refl s

theorem arbitrate_does (s : State) : Does s (arbitrate s) := by
  unfold arbitrate
  split
  · split
    · exact .refl s
    · exact .same rfl
  · exact .same rfl

/-! ### Completions, errors and the resumption -/

theorem completeFor_does (r : Requester) (ws : List Word) (s : State) : Does s (completeFor r ws s) := by
  cases r
  case recordWriter => exact completeWriter_does s
  case traceWriter => exact completeTrace_does s
  case orderReader => exact completeReader_does ws s
  case sweeper => exact completeSweeper_does ws s

theorem faultTrace_rw (own : Bool) (s : State) : (faultTrace own s).rw = s.rw := by
  unfold faultTrace
  split
  · split
    · rfl
    · split <;> rfl
  · rfl

theorem faultReader_rw (own : Bool) (s : State) : (faultReader own s).rw = s.rw := by
  unfold faultReader
  split
  · rfl
  · split <;> rfl

theorem takeBusError_does (r : Requester) (s : State) : Does s (takeBusError r s) := by
  unfold takeBusError
  extract_lets s1 s2
  have h2 : Does s s2 :=
    (faultWriter_does _ s).trans ((faultTrace_does _ _).trans ((faultReader_does _ _).trans (stopSweeper_does _)))
  have hrest : ∀ p, s2.rw.page = some p → p.phase = .rest := fun p hp => by
    have hrw : s2.rw = (faultWriter (decide (r = .recordWriter)) s).rw := (faultReader_rw ..).trans (faultTrace_rw ..)
    exact faultWriter_rest _ s p (hrw ▸ hp)
  exact h2.trans (.one (.busFault hrest))

theorem resumingEnds_does (s : State) : Does s { s with ex.resuming := false } :=
  .one (.resuming false fun h => absurd h (by decide))

theorem resumeEnds_does (s : State) : Does s (resumeEnds s) := by
  unfold resumeEnds
  split
  · exact (resumingEnds_does s).trans (.same rfl)
  · exact resumingEnds_does s

theorem resumeOrders_does (s : State) : Does s (resumeOrders s) := by
  unfold resumeOrders
  split
  next => exact resumeEnds_does s
  next t ht =>
    split
    · exact .one (.reader _ ht rfl fun _ _ => rfl)
    · exact .refl s

theorem resumeRest_does (s : State) : Does s (resumeRest s) := by
  unfold resumeRest
  split
  next c hc =>
    split
    · split
      · exact resumeTrace_does s hc
      · exact (resumeTrace_does s hc).trans (resumeOrders_does _)
    · exact resumeOrders_does s
  next => exact resumeOrders_does s

theorem resumeProgress_does (s : State) : Does s (resumeProgress s) := by
  unfold resumeProgress
  split
  next hr =>
    split
    next p hp =>
      split
      · exact .refl s
      · refine writerTurns_does _ s hp rfl (by simp) fun hw hf => ?_
        exact absurd ((hw.faulted hf).1.symm.trans hr) (by decide)
    next => exact resumeRest_does s
  next => exact .refl s

/-- The access granted is performed on memory: its words are written there (R162). -/
theorem perform_wf (data : List Word) (m : List Host.Cell) (a : Access) (h : Memory.wf m = true) :
    Memory.wf (a.perform data m).1 = true := by
  cases a with
  | write addr ws => exact Memory.wf_writeWords m addr ws h
  | read addr n => exact Memory.wf_writeWords m addr (data.take n) h

theorem perform_does (data : List Word) (a : Access) (s : State) :
    Does s { s with mem := (a.perform data s.mem).1, ex.grant := none } :=
  .one (.memory _ fun h => perform_wf data s.mem a h)

end Sys2Proof.Machine
end

section
/-!
PROOFS. Closes: which contexts stand after them, and what they leave of the Trigger Unit and the capture unit when no
trigger set is enabled.
-/

namespace Sys2Proof.Machine

/-! ### The contexts after a close -/

theorem FiringFrame.veh {s t : State} (h : FiringFrame s t) : t.veh = s.veh := by
  rw [h]

theorem driftUpdate_veh (l : Lane) (b : Fin 8) (c : Cell) (s : State) : (driftUpdate l b c s).veh = s.veh := by
  unfold driftUpdate
  dsimp only
  split
  · exact ((createRecord_firing .other _ (setCell l b _ s)).trans (runCascade_firing _ _)).veh
  · exact (createRecord_firing .other _ (setCell l b _ s)).veh

theorem takeOffer_veh (o : Offer) (s : State) : (takeOffer o s).veh = s.veh := by
  unfold takeOffer
  split
  · dsimp only
    split
    · split
      · exact driftUpdate_veh ..
      · rfl
    · rfl
  · rfl

theorem offerStage_veh (v : ClosedVehicle) (e : Option ClassEntry) (s : State) : (offerStage v e s).veh = s.veh := by
  unfold offerStage
  split
  · split
    · exact takeOffer_veh ..
    · rfl
  · rfl

/-- Of the Vehicle Assembler a close's record moves the two counters alone. -/
theorem recordStage_veh (v : ClosedVehicle) (s : State) :
    (recordStage v s).veh = { s.veh with vehicles := satInc s.veh.vehicles, axles := satAdd s.veh.axles v.total } := by
  unfold recordStage
  dsimp only
  rw [((runCascade_firing _ s).trans (createRecord_firing .vehicle _ _)).veh]

theorem closeStages_lanes (l : Lane) (c : Context) (x : CloseCause) (s : State) :
    (closeStages l c x s).veh.lanes = s.veh.lanes := by
  unfold closeStages
  dsimp only
  rw [recordStage_veh, offerStage_veh]
  rfl

theorem context_of_lanes {s t : State} (h : t.veh.lanes = s.veh.lanes) (l : Lane) (k : Slot) :
    t.context l k = s.context l k := by
  unfold State.context
  rw [h]

theorem captureClosed_lanes (n : Nat) (s : State) : (captureClosed n s).veh.lanes = s.veh.lanes := by
  unfold captureClosed
  repeat' first | rfl | split

theorem fixOutcome_lanes (o : OrderOutcome) (d : Nat) (s : State) : (fixOutcome o d s).veh.lanes = s.veh.lanes := by
  unfold fixOutcome
  split
  · split <;> rfl
  · rfl

theorem testDrain_lanes (s : State) : (testDrain s).veh.lanes = s.veh.lanes := by
  unfold testDrain endDrain answerStop
  split
  · split
    · split
      · exact fixOutcome_lanes ..
      · rfl
    · rfl
  · rfl

/-- The close of a slot empties it. -/
theorem closeContext_context_same (l : Lane) (k : Slot) (x : CloseCause) (s : State) :
    (closeContext l k x s).context l k = none := by
  unfold closeContext
  split
  next h => exact h
  next c _ =>
    rw [context_of_lanes ((testDrain_lanes _).trans (captureClosed_lanes ..))]
    exact setContext_context_same ..

/-- The close of a slot leaves the others. -/
theorem closeContext_context_ne (l m : Lane) (k j : Slot) (x : CloseCause) (s : State) (h : m ≠ l ∨ j ≠ k) :
    (closeContext l k x s).context m j = s.context m j := by
  unfold closeContext
  split
  · rfl
  next c _ =>
    rw [context_of_lanes ((testDrain_lanes _).trans (captureClosed_lanes ..)), setContext_context_ne _ _ _ _ _ _ h]
    split
    · rfl
    · exact context_of_lanes (closeStages_lanes ..) m j

/-- A slot that is empty stays so at any close. -/
theorem closeContext_context_none (l m : Lane) (k j : Slot) (x : CloseCause) (s : State) (h : s.context m j = none) :
    (closeContext l k x s).context m j = none := by
  by_cases hat : m = l ∧ j = k
  · obtain ⟨rfl, rfl⟩ := hat
    exact closeContext_context_same ..
  · rw [closeContext_context_ne _ _ _ _ _ _ (by tauto), h]

/-- Both contexts of a lane close TRUNCATED, the CLOSING one first (R96). -/
def truncateLane (l : Lane) (s : State) : State :=
  closeContext l .openSlot .truncated (closeContext l .closingSlot .truncated s)

theorem truncateAll_eq (s : State) : truncateAll s = (indices 4).foldl (fun t l => truncateLane l t) s := rfl

theorem truncateLane_context_same (l : Lane) (k : Slot) (s : State) : (truncateLane l s).context l k = none := by
  cases k
  · exact closeContext_context_same ..
  · exact closeContext_context_none _ _ _ _ _ _ (closeContext_context_same ..)

theorem truncateLane_context_none (l m : Lane) (k : Slot) (s : State) (h : s.context m k = none) :
    (truncateLane l s).context m k = none :=
  closeContext_context_none _ _ _ _ _ _ (closeContext_context_none _ _ _ _ _ _ h)

/-- Of the lanes of a list, none holds a context after its truncation. -/
theorem foldl_truncateLane_context (ls : List Lane) (m : Lane) (k : Slot) (s : State) (h : m ∈ ls ∨ s.context m k = none) :
    (ls.foldl (fun t l => truncateLane l t) s).context m k = none := by
  induction ls generalizing s with
  | nil => exact h.resolve_left (by simp)
  | cons l rest ih =>
    refine ih _ ?_
    obtain hm | hnone := h
    · obtain rfl | hrest := List.mem_cons.mp hm
      · exact .inr (truncateLane_context_same ..)
      · exact .inl hrest
    · exact .inr (truncateLane_context_none _ _ _ _ hnone)

theorem truncateAll_noContext (s : State) : (truncateAll s).noContext = true := by
  rw [State.noContext_iff, truncateAll_eq]
  exact fun l k => foldl_truncateLane_context _ l k s (.inl (mem_indices 4 l))

/-! ### The run state after a close -/

/-- A close keeps the run state, but for the end of a drain (R170). -/
def RunKept (s t : State) : Prop := t.run = s.run ∨ (s.run = .draining ∧ t.run = .ready)

theorem RunKept.trans {s t u : State} (h : RunKept s t) (k : RunKept t u) : RunKept s u := by
  unfold RunKept at *
  grind

theorem RunKept.works {s t : State} (h : RunKept s t) (hs : s.run.works = true) : t.run.works = true := by
  obtain h | ⟨-, h⟩ := h
  · rw [h, hs]
  · rw [h]
    rfl

theorem fixOutcome_run (o : OrderOutcome) (d : Nat) (s : State) : (fixOutcome o d s).run = s.run := by
  unfold fixOutcome
  split
  · split <;> rfl
  · rfl

theorem answerStop_run (s : State) : (answerStop s).run = s.run := by
  unfold answerStop
  split
  · split
    · exact fixOutcome_run ..
    · rfl
  · rfl

theorem testDrain_runKept (s : State) : RunKept s (testDrain s) := by
  unfold testDrain endDrain
  split
  next h => exact .inr ⟨h.1, answerStop_run _⟩
  next => exact .inl rfl

theorem closeContext_runKept (l : Lane) (k : Slot) (x : CloseCause) (s : State) : RunKept s (closeContext l k x s) := by
  have told (n : Nat) (u : State) : (captureClosed n u).run = u.run := by
    unfold captureClosed
    repeat' first | rfl | split
  unfold closeContext
  split
  · exact .inl rfl
  next c _ =>
    refine RunKept.trans (.inl ((told c.serial _).trans ?_)) (testDrain_runKept _)
    show (if c.axles.isEmpty then s else closeStages l c x s).run = s.run
    split
    · rfl
    · rw [closeStages_close l c x s]

theorem truncateAll_runKept (s : State) : RunKept s (truncateAll s) := by
  have hfold (ls : List Lane) (u : State) : RunKept u (ls.foldl (fun t l => truncateLane l t) u) := by
    induction ls generalizing u with
    | nil => exact .inl rfl
    | cons l rest ih => exact ((closeContext_runKept ..).trans (closeContext_runKept ..)).trans (ih _)
  exact hfold _ s

/-! ### Closes with no trigger set enabled -/

/-- No trigger set is enabled. -/
def State.SetsDisabled (s : State) : Prop := ∀ n, (s.trig.sets.get n).enabled = false

/-- The close of a vehicle finds nothing to tell the capture unit: it is not capturing, or an end is taken or noted
already. -/
def State.CaptureSettled (s : State) : Prop :=
  ∀ c, s.cap.st = .capturing c → if s.regs.busFault || c.broken then c.faultEnd.isSome = true else c.stop.isSome = true

/-- What a close leaves of the Trigger Unit and the capture unit where no set is enabled. -/
structure QuietFrame (s t : State) : Prop where
  trig : t.trig = { s.trig with waiting := t.trig.waiting }
  busFault : t.regs.busFault = s.regs.busFault
  cap : s.CaptureSettled → t.cap = s.cap

theorem QuietFrame.refl (s : State) : QuietFrame s s := ⟨rfl, rfl, fun _ => rfl⟩

theorem QuietFrame.disabled {s t : State} (h : QuietFrame s t) (hs : s.SetsDisabled) : t.SetsDisabled := by
  intro n
  rw [h.trig]
  exact hs n

theorem QuietFrame.settled {s t : State} (h : QuietFrame s t) (hs : s.CaptureSettled) : t.CaptureSettled := by
  intro c hc
  rw [h.busFault]
  exact hs c (by rw [← h.cap hs]; exact hc)

theorem QuietFrame.trans {s t u : State} (h : QuietFrame s t) (k : QuietFrame t u) : QuietFrame s u :=
  ⟨by rw [k.trig, h.trig], k.busFault.trans h.busFault, fun hs => (k.cap (h.settled hs)).trans (h.cap hs)⟩

/-- With no set enabled a cascade does nothing (R133). -/
theorem runCascade_disabled (e : TrigEvent) (s : State) (hs : s.SetsDisabled) : runCascade e s = (s, 0) := by
  have hfold (ns : List SetId) :
      ns.foldl (fun a n => if mayFire a.1 a.2 n && factorMatches a.1 n e then fire e chainDepth n false a else a) (s, 0)
        = (s, 0) := by
    induction ns with
    | nil => rfl
    | cons n rest ih =>
      rw [List.foldl_cons, if_neg (by simp [mayFire, hs n])]
      exact ih
  unfold runCascade
  split
  · exact hfold _
  · rfl

theorem createRecord_quiet (k : RecKind) (ws : List Nat) (s : State) : QuietFrame s (createRecord k ws s) := by
  obtain ⟨rw, noPage, waiting, h⟩ := createRecord_frame k ws s
  rw [h]
  exact ⟨rfl, rfl, fun _ => rfl⟩

theorem driftUpdate_quiet (l : Lane) (b : Fin 8) (c : Cell) (s : State) (hs : s.SetsDisabled) :
    QuietFrame s (driftUpdate l b c s) := by
  have hcell (d : Cell) : QuietFrame s (setCell l b d s) := ⟨rfl, rfl, fun _ => rfl⟩
  unfold driftUpdate
  extract_lets _ _ _ _ _ _ _ _ src d s1 s2
  have h2 : QuietFrame s s2 := (hcell d).trans (createRecord_quiet .other _ s1)
  split
  · rw [runCascade_disabled _ _ (h2.disabled hs)]
    exact h2
  · exact h2

theorem takeOffer_quiet (o : Offer) (s : State) (hs : s.SetsDisabled) : QuietFrame s (takeOffer o s) := by
  unfold takeOffer
  split
  · dsimp only
    split
    · split
      · exact driftUpdate_quiet _ _ _ s hs
      · exact ⟨rfl, rfl, fun _ => rfl⟩
    · exact ⟨rfl, rfl, fun _ => rfl⟩
  · exact ⟨rfl, rfl, fun _ => rfl⟩

theorem offerStage_quiet (v : ClosedVehicle) (e : Option ClassEntry) (s : State) (hs : s.SetsDisabled) :
    QuietFrame s (offerStage v e s) := by
  unfold offerStage
  split
  · split
    · exact takeOffer_quiet _ s hs
    · exact .refl s
  · exact .refl s

theorem recordStage_quiet (v : ClosedVehicle) (s : State) (hs : s.SetsDisabled) : QuietFrame s (recordStage v s) := by
  have counted (u : State) (n m : Nat) : QuietFrame u { u with veh.vehicles := n, veh.axles := m } :=
    ⟨rfl, rfl, fun _ => rfl⟩
  unfold recordStage
  dsimp only
  rw [runCascade_disabled _ _ hs]
  exact (createRecord_quiet ..).trans (counted _ _ _)

theorem closeStages_quiet (l : Lane) (c : Context) (x : CloseCause) (s : State) (hs : s.SetsDisabled) :
    QuietFrame s (closeStages l c x s) := by
  unfold closeStages
  have hrelease : QuietFrame s (releaseWaiting c s) := ⟨rfl, rfl, fun _ => rfl⟩
  have hstages (v : ClosedVehicle) (e : Option ClassEntry) :
      QuietFrame s (recordStage v (offerStage v e (releaseWaiting c s))) := by
    have hoffer := hrelease.trans (offerStage_quiet v e _ (hrelease.disabled hs))
    exact hoffer.trans (recordStage_quiet v _ (hoffer.disabled hs))
  exact hstages _ _

theorem captureClosed_quiet (n : Nat) (s : State) : QuietFrame s (captureClosed n s) := by
  unfold captureClosed
  split
  next c hc =>
    split
    · split
      next hf =>
        refine ⟨rfl, rfl, fun hs => ?_⟩
        have hsome := hs c hc
        rw [if_pos hf] at hsome
        obtain ⟨r, hr⟩ := Option.isSome_iff_exists.mp hsome
        simp only [hr, Option.getD_some]
        rw [← hr, ← hc]
      next hf =>
        split
        next hstop =>
          refine ⟨rfl, rfl, fun hs => ?_⟩
          have hsome := hs c hc
          rw [if_neg hf, ← Option.not_isNone] at hsome
          simp [hstop] at hsome
        next => exact .refl s
    · exact .refl s
  next => exact .refl s

theorem fixOutcome_quiet (o : OrderOutcome) (d : Nat) (s : State) : QuietFrame s (fixOutcome o d s) := by
  unfold fixOutcome
  split
  · split
    · exact ⟨rfl, rfl, fun _ => rfl⟩
    · exact .refl s
  · exact .refl s

theorem testDrain_quiet (s : State) : QuietFrame s (testDrain s) := by
  have hdone (u : State) : QuietFrame u (answerStop u) := by
    unfold answerStop
    split
    · split
      · exact fixOutcome_quiet ..
      · exact .refl u
    · exact .refl u
  unfold testDrain endDrain
  split
  · have hended (u : State) (r : RunState) (d : Option Nat) : QuietFrame u { u with run := r, ctrl.drain := d } :=
      ⟨rfl, rfl, fun _ => rfl⟩
    have hclose : QuietFrame s (closeResultPage dirDrain (emptyRowLists (stopMeasuring s))) := ⟨rfl, rfl, fun _ => rfl⟩
    exact (hclose.trans (hended _ _ _)).trans (hdone _)
  · exact .refl s

theorem closeContext_quiet (l : Lane) (k : Slot) (x : CloseCause) (s : State) (hs : s.SetsDisabled) :
    QuietFrame s (closeContext l k x s) := by
  unfold closeContext
  split
  · exact .refl s
  next c _ =>
    have hstages : QuietFrame s (if c.axles.isEmpty then s else closeStages l c x s) := by
      split
      · exact .refl s
      · exact closeStages_quiet l c x s hs
    have hempty (u : State) : QuietFrame u (setContext l k none u) := ⟨rfl, rfl, fun _ => rfl⟩
    exact ((hstages.trans (hempty _)).trans (captureClosed_quiet _ _)).trans (testDrain_quiet _)

/-- A fold of operations that are quiet while no set is enabled. -/
theorem QuietFrame.foldl {α : Type} (f : State → α → State) (h : ∀ u a, u.SetsDisabled → QuietFrame u (f u a)) (l : List α)
    (s : State) (hs : s.SetsDisabled) : QuietFrame s (l.foldl f s) := by
  induction l generalizing s with
  | nil => exact .refl s
  | cons a rest ih => exact (h s a hs).trans (ih _ ((h s a hs).disabled hs))

theorem truncateAll_quiet (s : State) (hs : s.SetsDisabled) : QuietFrame s (truncateAll s) :=
  .foldl _ (fun u l hu =>
    have hclosing := closeContext_quiet l .closingSlot .truncated u hu
    hclosing.trans (closeContext_quiet l .openSlot .truncated _ (hclosing.disabled hu))) _ s hs

theorem closeTest_quiet (l : Lane) (k : Slot) (s : State) (hs : s.SetsDisabled) : QuietFrame s (closeTest l k s) := by
  unfold closeTest
  split
  · exact .refl s
  · split
    · exact closeContext_quiet _ _ _ s hs
    · exact .refl s

theorem completeAxle_quiet (n : Nat) (f : Axle → Axle) (s : State) (hs : s.SetsDisabled) :
    QuietFrame s (completeAxle n f s) := by
  unfold completeAxle
  split
  · exact .refl s
  · split
    · exact .refl s
    next l k _ _ c _ =>
      have hset (d : Context) : QuietFrame s (setContext l k (some d) s) := ⟨rfl, rfl, fun _ => rfl⟩
      exact (hset _).trans (closeTest_quiet _ _ _ ((hset _).disabled hs))

theorem expireAxle_quiet (w : WaitingAxle) (s : State) (hs : s.SetsDisabled) : QuietFrame s (expireAxle w s) := by
  have hleave (ws : List WaitingAxle) : QuietFrame s { s with axle.rowA := ws } := ⟨rfl, rfl, fun _ => rfl⟩
  exact (hleave _).trans (completeAxle_quiet _ _ _ ((hleave _).disabled hs))

theorem releaseRowA_quiet (s : State) (hs : s.SetsDisabled) : QuietFrame s (releaseRowA s) :=
  .foldl _ (fun u w hu => expireAxle_quiet w u hu) _ s hs

end Sys2Proof.Machine
end

section
/-!
PROOFS. The Run Controller as updates, and what every command keeps: each invariant of the model, and the survey under
the lock.
-/

namespace Sys2Proof.Machine

/-! ### After every command, and a tick -/

theorem settleDown_does (s : State) : Does s (settleDown s) := by
  have hquiet : Does s (quietUpdate s) := .same rfl
  exact hquiet.trans ((advanceWriter_does _).trans ((advanceTrace_does _).trans ((advanceSweeper_does _).trans (arbitrate_does _))))

theorem tick_does (s : State) : Does s s.tick := by
  have hpage : Does s { s with rw.page := s.rw.page.map ResultPage.tick } :=
    mapPage_does ResultPage.tick (fun _ => rfl) (fun _ => rfl) s
  exact hpage.trans (.same rfl)

/-! ### Nothing measured -/

/-- The Hit Detector has stopped measuring (R29). -/
def State.DetectorStopped (s : State) : Prop :=
  (∀ c, s.det.chans.get c = .off) ∧ s.det.hits.a = [] ∧ s.det.hits.b = []

theorem stopMeasuring_stopped (s : State) : (stopMeasuring s).DetectorStopped := ⟨stopMeasuring_chans s, rfl, rfl⟩

theorem answerStop_det (s : State) : (answerStop s).det = s.det := by
  unfold answerStop
  split
  · split
    · unfold fixOutcome
      split
      · split <;> rfl
      · rfl
    · rfl
  · rfl

theorem testDrain_stopped (s : State) (h : s.DetectorStopped) : (testDrain s).DetectorStopped := by
  unfold testDrain endDrain
  split
  · unfold State.DetectorStopped
    rw [answerStop_det]
    exact stopMeasuring_stopped s
  · exact h

/-- A close leaves the Hit Detector alone, but for the end of a drain, which stops it. -/
theorem closeContext_stopped (l : Lane) (k : Slot) (x : CloseCause) (s : State) (h : s.DetectorStopped) :
    (closeContext l k x s).DetectorStopped := by
  have told (n : Nat) (u : State) : (captureClosed n u).det = u.det := by
    unfold captureClosed
    repeat' first | rfl | split
  unfold closeContext
  split
  · exact h
  next c _ =>
    refine testDrain_stopped _ ?_
    unfold State.DetectorStopped
    rw [told]
    show State.DetectorStopped (if c.axles.isEmpty then s else closeStages l c x s)
    split
    · exact h
    · rw [closeStages_close l c x s]
      exact h

theorem truncateAll_stopped (s : State) (h : s.DetectorStopped) : (truncateAll s).DetectorStopped := by
  have hfold (ls : List Lane) (u : State) (hu : u.DetectorStopped) :
      (ls.foldl (fun t l => truncateLane l t) u).DetectorStopped := by
    induction ls generalizing u with
    | nil => exact hu
    | cons l rest ih => exact ih _ (closeContext_stopped _ _ _ _ (closeContext_stopped _ _ _ _ hu))
  exact hfold _ s h

/-- The end of all measuring: channels OFF, contexts closed, lists empty (R29, R48, R96). -/
def endMeasuring (s : State) : State := emptyRowLists (truncateAll (stopMeasuring s))

theorem emptyRowLists_nothing {s : State} (h : s.DetectorStopped) (hc : s.noContext = true) :
    (emptyRowLists s).NothingMeasured := ⟨h.1, h.2, rfl, hc⟩

theorem emptyRowLists_runKept {s t : State} (h : RunKept s t) : RunKept s (emptyRowLists t) := h

theorem emptyRowLists_traffic (s : State) : TrafficFrame s (emptyRowLists s) := rfl

theorem stopMeasuring_traffic (s : State) : TrafficFrame s (stopMeasuring s) := rfl

theorem endMeasuring_nothing (s : State) : (endMeasuring s).NothingMeasured :=
  emptyRowLists_nothing (truncateAll_stopped _ (stopMeasuring_stopped s)) (truncateAll_noContext _)

theorem endMeasuring_does (s : State) : Does s (endMeasuring s) :=
  (stopMeasuring_does s).trans ((truncateAll_does _).trans (emptyRowLists_does _))

theorem endMeasuring_traffic (s : State) : TrafficFrame s (endMeasuring s) :=
  ((stopMeasuring_traffic s).trans (truncateAll_traffic _)).trans (emptyRowLists_traffic _)

theorem endMeasuring_runKept (s : State) : RunKept s (endMeasuring s) :=
  emptyRowLists_runKept ((RunKept.trans (.inl rfl) (truncateAll_runKept (stopMeasuring s))))

/-! ### READY -/

/-- The run state changes between working ones where the state it leaves is known from the run state's consistency. -/
theorem changeRun_does {r : RunState} (s : State) (hold : s.RunConsistent → s.run ≠ .disabled) (hnew : r.works = true)
    (hidle : s.NothingMeasured ∨ ({ s with run := r } : State).measuring = s.measuring) : Does s { s with run := r } :=
  .one (.control s.regs.enable r s.ctrl.power fun hs =>
    have hc := (State.runConsistent_held s).mpr hs
    (State.runConsistent_held { s with run := r }).mp (hc.setRun (hold hc) hnew hidle))

theorem measuring_of_not_measures {s : State} (h : s.run.measures = false) : s.measuring = false := by
  rw [State.measuring, h]
  rfl

/-- READY begins from a state that does not measure. -/
theorem beginReady_does (s : State) (hold : s.RunConsistent → s.run ≠ .disabled) (hm : s.run.measures = false) :
    Does s (beginReady s) := by
  have hready : ({ s with run := .ready } : State).measuring = s.measuring := by
    rw [measuring_of_not_measures hm]
    exact measuring_of_not_measures (s := { s with run := .ready }) rfl
  have hrun : Does s { s with run := .ready } := changeRun_does s hold rfl (.inr hready)
  exact (takeUpInputs_does _).after (hrun.trans (.same rfl))

theorem leavePowerFail_does (s : State) (h : s.run = .powerFail) : Does s (leavePowerFail s) := by
  have hready := beginReady_does s (fun _ => by rw [h]; decide) (by rw [h]; rfl)
  exact hready.trans (.same rfl)

/-! ### HALT and its steps -/

theorem stopRunTimers_does (s : State) : Does s (stopRunTimers s) := .same rfl

theorem haltSteps_does (r : EndReason) (s : State) : Does s (haltSteps r s) :=
  (stopRunTimers_does s).trans ((stopCapture_does r _).trans (endMeasuring_does _))

theorem haltSteps_nothing (r : EndReason) (s : State) : (haltSteps r s).NothingMeasured := endMeasuring_nothing _

theorem stopCapture_frame (r : EndReason) (s : State) : stopCapture r s = { s with cap.st := (stopCapture r s).cap.st } := by
  unfold stopCapture
  repeat' first | rfl | split

theorem haltSteps_runKept (r : EndReason) (s : State) : RunKept s (haltSteps r s) := by
  have hstop : RunKept s (stopCapture r (stopRunTimers s)) := .inl (by rw [stopCapture_frame]; rfl)
  exact hstop.trans (endMeasuring_runKept _)

theorem halt_does (s : State) : Does s (halt s) := by
  unfold halt
  split
  next h =>
    have hworks : s.run.works = true := by
      revert h
      cases s.run <;> decide
    have hrun : (haltSteps .halted s).run ≠ .disabled := fun hd => by
      have := (haltSteps_runKept .halted s).works hworks
      rw [hd] at this
      exact absurd this (by decide)
    exact (haltSteps_does .halted s).trans (changeRun_does _ (fun _ => hrun) rfl (.inl (haltSteps_nothing ..)))
  next => exact disarm_does s

/-! ### The power-fail sequence -/

theorem stopSensors_does (s : State) : Does s (stopSensors s) := .same rfl

theorem holdTimers_does (s : State) : Does s (holdTimers s) := .same rfl

theorem loseAllRecords_frame (s : State) :
    loseAllRecords s = { s with rw := (loseAllRecords s).rw, trig.waiting := (loseAllRecords s).trig.waiting } := by
  have hlose (r : Rec) (u : State) : loseRecord r u = { u with rw := (loseRecord r u).rw, trig.waiting := (loseRecord r u).trig.waiting } := by
    unfold loseRecord handEvent
    repeat' first | rfl | split
  have hfold (rs : List Rec) (u : State) :
      rs.foldl (fun t r => loseRecord r t) u
        = { u with rw := (rs.foldl (fun t r => loseRecord r t) u).rw,
                   trig.waiting := (rs.foldl (fun t r => loseRecord r t) u).trig.waiting } := by
    induction rs generalizing u with
    | nil => rfl
    | cons r rest ih =>
      rw [List.foldl_cons, ih (loseRecord r u), hlose r u]
  unfold loseAllRecords
  rw [hfold]

theorem disarm_frame (s : State) : disarm s = { s with cap.st := (disarm s).cap.st } := by
  unfold disarm
  split <;> rfl

/-- POWER_FAIL is entered from a power-fail sequence, in which nothing is measured (R177). -/
theorem enterPowerFail_does (s : State) (hp : s.powerIdle = false) :
    Does s { s with run := .powerFail, ctrl.power := none } := by
  refine .one (.control s.regs.enable .powerFail none fun hs => ?_)
  have hworks : s.run.works = true := hs.power hp
  have hidle : s.held.measuring = false := by
    show (s.run.measures && s.powerIdle) = false
    rw [hp, Bool.and_false]
  have hrun : s.run ≠ .disabled := fun h => by rw [h] at hworks; exact absurd hworks (by decide)
  exact ⟨iff_of_false (fun h => RunState.noConfusion h) fun h => hrun (hs.enable.mpr h), fun h => Bool.noConfusion h, fun _ => hs.channels hidle,
    fun _ => hs.hits hidle, fun _ => hs.rowA hidle, fun _ => hs.contexts hidle⟩

theorem endPowerFail_does (s : State) (hp : s.powerIdle = false)
    (hrest : s.WriterConsistent → ∀ p k, s.rw.page = some p → p.phase ≠ .record k) : Does s (endPowerFail s) := by
  unfold endPowerFail
  extract_lets s1 src src2 s2
  have h1 : Does s s1 :=
    (loseAllRecords_does s hrest).trans ((holdTimers_does _).trans ((discardPulses_does _).trans
      ((dropShadows_does _).trans (disarm_does _))))
  have hp1 : s1.powerIdle = false := by
    unfold s1
    rw [disarm_frame, loseAllRecords_frame]
    exact hp
  have h2 : Does s1 s2 := (enterPowerFail_does s1 hp1).trans (.same rfl)
  split
  · exact h1.trans h2
  · exact (h1.trans h2).trans (leavePowerFail_does s2 rfl)

/-- The power-fail sequence in progress goes on. -/
theorem setPower_does {q : PowerSeq} (r : PowerSeq) (s : State) (hq : s.ctrl.power = some q) :
    Does s { s with ctrl.power := some r } := by
  have h := mapPower_does (fun _ => r) s
  rw [hq] at h
  exact h

theorem pfProgress_does (s : State) : Does s (pfProgress s) := by
  unfold pfProgress
  split
  next => exact .refl s
  next q hq =>
    have hp : s.powerIdle = false := by
      rw [State.powerIdle, hq]
      rfl
    split
    next => exact .refl s
    next =>
      split
      next hf =>
        refine (closeResultPage_does dirPowerFail s).trans (endPowerFail_does _ hp fun hw p k hx hk => ?_)
        exact absurd (((hw.faulted hf).2 p hx).symm.trans hk) (by simp)
      next hf =>
        split
        next => exact .refl s
        next =>
          split
          next hn =>
            split
            · refine endPowerFail_does s hp fun _ p k hx => ?_
              exact absurd (hn.symm.trans hx) (by simp)
            · exact takeResultHead_does s hn (by simpa using hf)
          next p hx =>
            split
            next hrest =>
              obtain ⟨hrest, -, -⟩ := hrest
              have hpage : Does s { s with rw.page := some { p with closeWith := some dirPowerFail } } :=
                writerTurns_does _ s hx rfl (by simp [hrest]) fun _ _ => hrest
              exact hpage.trans (setPower_does _ _ hq)
            next => exact .refl s

/-! ### What every command keeps -/

/-- Every invariant of the model that holds in `s` holds in `t`, and a survey that stands under the lock still does. -/
structure Kept (s t : State) : Prop where
  memory : Memory.wf s.mem = true → Memory.wf t.mem = true
  ports : s.PortsConsistent → t.PortsConsistent
  drift : s.DriftBounded → t.DriftBounded
  bounded : s.Bounded → t.Bounded
  owned : s.PagesOwned → t.PagesOwned
  run : s.RunConsistent → t.RunConsistent
  writer : s.WriterConsistent → t.WriterConsistent
  survey : ∀ r, SurveyHeld r s → SurveyHeld r t

theorem Does.kept {s t : State} (h : Does s t) : Kept s t :=
  ⟨h.memory_wf, h.portsConsistent, h.driftBounded, h.bounded, h.pagesOwned, h.runConsistent, h.writerConsistent,
    fun _ => h.surveyHeld⟩

theorem Kept.trans {s t u : State} (h : Kept s t) (k : Kept t u) : Kept s u :=
  ⟨k.memory ∘ h.memory, k.ports ∘ h.ports, k.drift ∘ h.drift, k.bounded ∘ h.bounded, k.owned ∘ h.owned, k.run ∘ h.run,
    k.writer ∘ h.writer, fun r => k.survey r ∘ h.survey r⟩

/-- Composition with the later part first. -/
theorem Kept.after {s t u : State} (k : Kept t u) (h : Kept s t) : Kept s u := h.trans k

/-- Pages stay in their places where table, lists and the pages in hand are the same. -/
theorem pagesOwned_of_same {s t : State} (hex : t.ex = s.ex) (hpage : t.rw.page = s.rw.page) (htrace : t.traceFilling = s.traceFilling)
    (h : s.PagesOwned) : t.PagesOwned := by
  rw [State.pagesOwned_iff] at h ⊢
  rwa [State.resultFilling, State.orderTaken, hex, hpage, htrace]

/-! ### A power-fail sequence begins -/

/-- A power-fail sequence stands in progress, its steps not yet taken. -/
def markPowerFail (s : State) : State := { s with ctrl.power := some { placed := 0, closing := false } }

/-- Steps 1 to 4 but for the order page (R177). -/
def powerFailSteps (s : State) : State :=
  endMeasuring (stopCapture .powerFail (stopSweeper (stopRunTimers (markPowerFail s))))

theorem beginPowerFail_eq (s : State) : beginPowerFail s = pfProgress (abandonOrders dirPowerFail (powerFailSteps s)) := rfl

theorem powerFailSteps_does (s : State) : Does (markPowerFail s) (powerFailSteps s) :=
  (stopRunTimers_does _).trans ((stopSweeper_does _).trans ((stopCapture_does _ _).trans (endMeasuring_does _)))

/-- The capture unit of the state in which measuring ends, and what else it has from the state before. -/
theorem stoppedForPowerFail_fields (s : State) :
    ∃ st, stopCapture .powerFail (stopSweeper (stopRunTimers (markPowerFail s)))
      = { stopSweeper (stopRunTimers (markPowerFail s)) with cap.st := st } := ⟨_, stopCapture_frame ..⟩

/-- With its steps taken the sequence measures nothing, as a part that does not measure must not. -/
theorem powerFailSteps_runConsistent (s : State) (hworks : s.run.works = true) (hs : s.RunConsistent) :
    (powerFailSteps s).RunConsistent := by
  obtain ⟨st, hst⟩ := stoppedForPowerFail_fields s
  unfold powerFailSteps
  rw [hst]
  have hnot {r : RunState} (hr : r.works = true) : r ≠ .disabled := fun h => by rw [h] at hr; exact absurd hr (by decide)
  have hfrom (u : State) (hrun : u.run = s.run) (henable : u.regs.enable = s.regs.enable) :
      (endMeasuring u).RunConsistent := by
    have hkept : (endMeasuring u).run.works = true := (endMeasuring_runKept u).works (by rw [hrun, hworks])
    have hregs : (endMeasuring u).regs.enable = s.regs.enable := by
      rw [endMeasuring_traffic u]
      exact henable
    obtain ⟨hchans, hhits, hrowA, hcontexts⟩ := endMeasuring_nothing u
    exact ⟨iff_of_false (hnot hkept) fun h => hnot hworks (hs.enable.mpr (hregs.symm.trans h)), fun _ => hkept,
      fun _ => hchans, fun _ => hhits, fun _ => hrowA, fun _ => hcontexts⟩
  exact hfrom _ rfl rfl

theorem beginPowerFail_kept (s : State) (hworks : s.RunConsistent → s.run.works = true) : Kept s (beginPowerFail s) := by
  have hsteps := powerFailSteps_does s
  have hrest : Does (powerFailSteps s) (beginPowerFail s) := (abandonOrders_does dirPowerFail _).trans (pfProgress_does _)
  have hall := hsteps.trans hrest
  refine ⟨fun h => hall.memory_wf h, fun h => hall.portsConsistent h, fun h => hall.driftBounded h, fun h => hall.bounded ?_,
    fun h => hall.pagesOwned (pagesOwned_of_same (s := s) (t := markPowerFail s) rfl rfl rfl h),
    fun h => hrest.runConsistent (powerFailSteps_runConsistent s (hworks h) h), fun h => hall.writerConsistent ?_,
    fun r h => hall.surveyHeld ?_⟩
  · exact ⟨h.queue, h.hitsA, h.hitsB, h.rowA, h.frames, h.pulses, h.axles⟩
  · exact ⟨h.writing, h.faulted⟩
  · exact ⟨h.lock, h.factors, h.laneCount, h.geom, h.curve, h.bounds, h.lower, h.upper, h.noCurve, h.drift⟩

end Sys2Proof.Machine
end

section
/-!
PROOFS. The register writes, the sensor events and the timed commands as updates.
-/

namespace Sys2Proof.Machine

/-! ### Soft restart -/

theorem State.RunConsistent.run_ne_disabled {s : State} (h : s.RunConsistent) (he : s.regs.enable = true) :
    s.run ≠ .disabled := fun hd => by
  rw [h.enable.mp hd] at he
  exact absurd he (by decide)

theorem quietTriggers_does (s : State) : Does s (quietTriggers s) := .same rfl

theorem closeForRestart_does (s : State) : Does s (closeForRestart s) := (closeResultPage_does dirRestart s).trans (.same rfl)

theorem writingRecord_of_phase {s : State} {p : ResultPage} {k : Nat} (hp : s.rw.page = some p) (hk : p.phase = .record k) :
    s.writingRecord = true := by
  unfold State.writingRecord
  rw [hp]
  dsimp only
  rw [hk]

/-- The record being written stays at the head of the queue (R166, R172). -/
theorem discardQueue_does (s : State) : Does s (discardQueue s) := by
  refine .one (.unqueue (discardQueue s).rw.queue s.writingRecord ?_ fun hw p k hp hk => ?_)
  · unfold discardQueue
    dsimp only
    split
    · exact List.length_take_le' ..
    · exact Nat.zero_le _
  · have hwriting := writingRecord_of_phase (s := s) hp hk
    refine ⟨hwriting, fun hq => ?_⟩
    have hne : s.rw.queue ≠ [] := (hw.writing p k hp hk).2
    unfold discardQueue at hq
    rw [hwriting] at hq
    exact hne (by simpa using hq)

theorem clearCounters_does (s : State) : Does s (clearCounters s) := .same rfl

theorem restartSummary_does (s : State) : Does s (restartSummary s) := .same rfl

/-- The steps of a soft restart up to those of HALT (R172 steps 1 to 3). -/
def restartHalt (s : State) : State := haltSteps .restart (quietTriggers (abandonOrders dirRestart (stopRunTimers s)))

/-- The steps of a soft restart that follow (R172 steps 4 to 6). -/
def restartClear (s : State) : State := restartSummary (clearCounters (discardQueue (closeForRestart s)))

theorem softRestart_eq (s : State) : softRestart s = pfProgress { restartClear (restartHalt s) with run := .ready } := rfl

theorem restartHalt_does (s : State) : Does s (restartHalt s) :=
  (stopRunTimers_does s).trans ((abandonOrders_does _ _).trans ((quietTriggers_does _).trans (haltSteps_does _ _)))

theorem restartClear_does (s : State) : Does s (restartClear s) :=
  (closeForRestart_does s).trans ((discardQueue_does _).trans ((clearCounters_does _).trans (restartSummary_does _)))

theorem enable_of_settings {s t : State} (h : t.settings = s.settings) : t.regs.enable = s.regs.enable :=
  congrArg Settings.enable h

theorem restartHalt_enable (s : State) : (restartHalt s).regs.enable = s.regs.enable :=
  enable_of_settings (by simp [restartHalt])

theorem restartClear_nothing {s : State} (h : s.NothingMeasured) : (restartClear s).NothingMeasured :=
  ⟨h.channels, h.hits, h.rowA, h.contexts⟩

theorem restartClear_enable (s : State) : (restartClear s).regs.enable = s.regs.enable := rfl

/-- READY is entered with nothing measured while ENABLE is 1. -/
theorem setReady_does (s : State) (he : s.regs.enable = true) (h : s.NothingMeasured) : Does s { s with run := .ready } :=
  changeRun_does s (fun hs => hs.run_ne_disabled he) rfl (.inl h)

theorem restartHalt_nothing (s : State) : (restartHalt s).NothingMeasured := haltSteps_nothing _ _

/-- READY is entered and the power-fail sequence, where one is in progress, goes on. -/
theorem restartReady_does (s : State) (he : s.regs.enable = true) (h : s.NothingMeasured) :
    Does s (pfProgress { restartClear s with run := .ready }) := by
  have hready := setReady_does (restartClear s) ((restartClear_enable s).trans he) (restartClear_nothing h)
  exact (restartClear_does s).trans (hready.trans (pfProgress_does _))

theorem softRestart_does (s : State) (he : s.regs.enable = true) : Does s (softRestart s) := by
  rw [softRestart_eq]
  exact (restartHalt_does s).trans
    (restartReady_does (restartHalt s) ((restartHalt_enable s).trans he) (restartHalt_nothing s))

/-! ### Enable -/

/-- READY begins in DISABLED, with nothing measured (R167). -/
theorem enableReady_does (attn : Bool) (s : State) (he : s.regs.enable = false) :
    Does s (beginReady { s with regs.enable := true, regs.attnEn := attn }) := by
  have hcontrol : Does s { s with regs.enable := true, run := .ready } := by
    refine .one (.control true .ready s.ctrl.power fun hs => ?_)
    have hidle : s.held.measuring = false := measuring_of_not_measures (by rw [hs.enable.mpr he]; rfl)
    exact ⟨iff_of_false (fun h => RunState.noConfusion h) fun h => Bool.noConfusion h, fun _ => rfl, fun _ => hs.channels hidle,
      fun _ => hs.hits hidle, fun _ => hs.rowA hidle, fun _ => hs.contexts hidle⟩
  exact (takeUpInputs_does _).after (hcontrol.trans (.same rfl))

/-- The summary restarts and the region is swept unless BUS_FAULT stands (R82, R146). -/
def enableSweep (fault : Bool) (s : State) : State := if fault then restartSummary s else startSweep (restartSummary s)

theorem enablePart_eq (s : State) :
    enablePart s
      = if s.pins.pfi then beginPowerFail (enableSweep s.regs.busFault (beginReady s))
        else enableSweep s.regs.busFault (beginReady s) := rfl

theorem enableSweep_does (b : Bool) (s : State) : Does s (enableSweep b s) := by
  unfold enableSweep
  split <;> exact .same rfl

theorem enableSweep_run (b : Bool) (s : State) : (enableSweep b s).run = s.run := by
  unfold enableSweep
  split <;> rfl

theorem enablePart_kept (attn : Bool) (s : State) (he : s.regs.enable = false) :
    Kept s (enablePart { s with regs.enable := true, regs.attnEn := attn }) := by
  rw [enablePart_eq]
  have h2 := (enableReady_does attn s he).trans (enableSweep_does s.regs.busFault _)
  split
  · exact h2.kept.trans (beginPowerFail_kept _ fun _ => by rw [enableSweep_run]; rfl)
  · exact h2.kept

/-! ### Disable -/

/-- ENABLE is 0, the capture unit and the power-fail sequence given up; the steps of R173 not yet taken. -/
def markDisabled (attn : Bool) (s : State) : State :=
  { s with regs.enable := false, regs.attnEn := attn, ctrl.power := none, cap.st := .idle }

/-- The steps of a disable before the pages are forgotten (R173 steps 1 and 2). -/
def disableSteps (measures : Bool) (s : State) : State :=
  let s1 := discardPulses (quietTriggers (stopRunTimers s))
  if measures then endMeasuring s1 else s1

theorem disablePart_eq (attn : Bool) (s : State) :
    disablePart { s with regs.enable := false, regs.attnEn := attn }
      = loseAllRecords (stopSensors
          { dropShadows (forgetPages (disableSteps s.run.measures (markDisabled attn s))) with
            run := .disabled, history.frames := [] }) := rfl

theorem disableSteps_does (b : Bool) (s : State) : Does s (disableSteps b s) := by
  unfold disableSteps
  extract_lets s1
  have h1 : Does s s1 := (stopRunTimers_does s).trans ((quietTriggers_does _).trans (discardPulses_does _))
  split
  · exact h1.trans (endMeasuring_does s1)
  · exact h1

theorem quietTriggers_setsDisabled (s : State) : (quietTriggers s).SetsDisabled := by
  intro n
  unfold quietTriggers
  dsimp only
  rw [Tab.get_map]

theorem endMeasuring_quiet (s : State) (hs : s.SetsDisabled) : QuietFrame s (endMeasuring s) := by
  have hstop : QuietFrame s (stopMeasuring s) := ⟨rfl, rfl, fun _ => rfl⟩
  have hlists (u : State) : QuietFrame u (emptyRowLists u) := ⟨rfl, rfl, fun _ => rfl⟩
  exact (hstop.trans (truncateAll_quiet _ (hstop.disabled hs))).trans (hlists _)

/-- The state a disable closes the contexts in has no set enabled. -/
theorem disableSteps_quiet (b : Bool) (s : State) :
    QuietFrame (discardPulses (quietTriggers (stopRunTimers s))) (disableSteps b s) := by
  unfold disableSteps
  extract_lets s1
  split
  · exact endMeasuring_quiet s1 (quietTriggers_setsDisabled (stopRunTimers s))
  · exact .refl s1

theorem disableSteps_cap (b : Bool) (s : State) (h : s.cap.st = .idle) : (disableSteps b s).cap = s.cap := by
  refine (disableSteps_quiet b s).cap fun c hc => ?_
  have hidle : s.cap.st = .capturing c := hc
  rw [h] at hidle
  exact CaptureState.noConfusion hidle

/-- The steps that follow, the pages forgotten. -/
theorem forgotten_does (s : State) (he : s.regs.enable = false) (ht : s.traceFilling = none) :
    Does s (loseAllRecords (stopSensors { dropShadows (forgetPages s) with run := .disabled, history.frames := [] })) := by
  have hforget : Does s (forgetPages s) := .one (.forget ht)
  have hframes : Does (forgetPages s) { dropShadows (forgetPages s) with history.frames := [] } :=
    .one (.frames [] (Nat.zero_le _))
  have hrun (u : State) (hu : u.regs.enable = false) : Does u (stopSensors { u with run := .disabled }) := by
    refine Does.trans ?_ (stopSensors_does _)
    refine .one (.control u.regs.enable .disabled u.ctrl.power fun hs => ?_)
    have hd : u.run = .disabled := hs.enable.mpr hu
    have hsame : ({ u.held with regs.enable := u.regs.enable, run := .disabled, ctrl.power := u.ctrl.power } : State) = u.held := by
      rw [← hd]
      rfl
    rw [hsame]
    exact hs
  have hdisabled := hrun { dropShadows (forgetPages s) with history.frames := [] } he
  refine (hforget.trans (hframes.trans hdisabled)).trans ?_
  exact loseAllRecords_does _ fun _ p k hp => absurd hp (by simp [stopSensors, shortSummary, abandonRound, dropShadows, forgetPages])

theorem disableSteps_enable (b : Bool) (s : State) : (disableSteps b s).regs.enable = s.regs.enable := by
  unfold disableSteps
  dsimp only
  split
  · rw [endMeasuring_traffic]
    rfl
  · rfl

theorem disabled_does (attn : Bool) (s : State) :
    Does (markDisabled attn s) (disablePart { s with regs.enable := false, regs.attnEn := attn }) := by
  rw [disablePart_eq]
  refine (disableSteps_does _ _).trans (forgotten_does _ (disableSteps_enable ..) ?_)
  unfold State.traceFilling
  rw [disableSteps_cap _ _ rfl]
  rfl

/-- Forgotten, the pages are the host's whatever places they had. -/
theorem forgetPages_owned (s : State) (ht : s.traceFilling = none) : (forgetPages s).PagesOwned := by
  refine (State.pagesOwned_iff _).mpr ?_
  have hnone : (forgetPages s).traceFilling = none := ht
  rw [hnone]
  exact Places.none_held

/-- What stays of the fields the invariants of run state and pages read. -/
theorem loseAllRecords_pages (s : State) : (loseAllRecords s).ex = s.ex ∧ (loseAllRecords s).rw.page = s.rw.page := by
  have hfold (rs : List Rec) (u : State) : (rs.foldl (fun t r => loseRecord r t) u).rw.page = u.rw.page := by
    induction rs generalizing u with
    | nil => rfl
    | cons r rest ih => exact (ih _).trans (loseRecord_keeps r u).2.1
  exact ⟨by rw [loseAllRecords_frame], hfold ..⟩

theorem disablePart_owned (attn : Bool) (s : State) :
    (disablePart { s with regs.enable := false, regs.attnEn := attn }).PagesOwned := by
  rw [disablePart_eq]
  obtain ⟨hex, hpage⟩ := loseAllRecords_pages (stopSensors
          { dropShadows (forgetPages (disableSteps s.run.measures (markDisabled attn s))) with
            run := .disabled, history.frames := [] })
  have ht : (disableSteps s.run.measures (markDisabled attn s)).traceFilling = none := by
    unfold State.traceFilling
    rw [disableSteps_cap _ _ rfl]
    rfl
  refine pagesOwned_of_same (s := forgetPages (disableSteps s.run.measures (markDisabled attn s))) hex hpage ?_
    (forgetPages_owned _ ht)
  rw [loseAllRecords_frame]
  rfl

/-- A part that measures nothing may be disabled. -/
theorem runConsistent_of_nothing {s : State} (hrun : s.run = .disabled) (he : s.regs.enable = false) (hp : s.powerIdle = true)
    (h : s.NothingMeasured) : s.RunConsistent :=
  ⟨iff_of_true hrun he, fun hf => absurd (hp.symm.trans hf) (by decide), fun _ => h.channels, fun _ => h.hits, fun _ => h.rowA,
    fun _ => h.contexts⟩

theorem disableSteps_nothing (attn : Bool) (s : State) (hs : s.RunConsistent) :
    (disableSteps s.run.measures (markDisabled attn s)).NothingMeasured := by
  unfold disableSteps
  extract_lets s1
  split
  · exact endMeasuring_nothing s1
  next hm =>
    have hidle := measuring_of_not_measures (s := s) (by simpa using hm)
    exact ⟨hs.channels hidle, hs.hits hidle, hs.rowA hidle, hs.contexts hidle⟩

theorem disableSteps_powerIdle (b : Bool) (s : State) : (disableSteps b s).powerIdle = s.powerIdle := by
  unfold disableSteps
  dsimp only
  split
  · exact (endMeasuring_traffic _).powerIdle
  · rfl

theorem disablePart_runConsistent (attn : Bool) (s : State) (hs : s.RunConsistent) :
    (disablePart { s with regs.enable := false, regs.attnEn := attn }).RunConsistent := by
  have hnothing := disableSteps_nothing attn s hs
  have henable : (disableSteps s.run.measures (markDisabled attn s)).regs.enable = false := disableSteps_enable ..
  have hpower : (disableSteps s.run.measures (markDisabled attn s)).powerIdle = true := disableSteps_powerIdle ..
  have hafter (u : State) (he : u.regs.enable = false) (hp : u.powerIdle = true) (hu : u.NothingMeasured) :
      (loseAllRecords (stopSensors { dropShadows (forgetPages u) with run := .disabled, history.frames := [] })).RunConsistent := by
    rw [loseAllRecords_frame]
    exact runConsistent_of_nothing rfl he hp ⟨hu.channels, hu.hits, hu.rowA, hu.contexts⟩
  rw [disablePart_eq]
  exact hafter _ henable hpower hnothing

theorem disablePart_kept (attn : Bool) (s : State) : Kept s (disablePart { s with regs.enable := false, regs.attnEn := attn }) := by
  have hall := disabled_does attn s
  refine ⟨fun h => hall.memory_wf h, fun h => hall.portsConsistent h, fun h => hall.driftBounded h, fun h => hall.bounded ?_,
    fun _ => disablePart_owned attn s, disablePart_runConsistent attn s, fun h => hall.writerConsistent ?_,
    fun r h => hall.surveyHeld ?_⟩
  · exact ⟨h.queue, h.hitsA, h.hitsB, h.rowA, h.frames, h.pulses, h.axles⟩
  · exact ⟨h.writing, h.faulted⟩
  · exact ⟨h.lock, h.factors, h.laneCount, h.geom, h.curve, h.bounds, h.lower, h.upper, h.noCurve, h.drift⟩

/-- ENABLE as it stands is written again. -/
theorem sameEnable_does (enable attn : Bool) (s : State) (he : s.regs.enable = enable) :
    Does s { s with regs.enable := enable, regs.attnEn := attn } := by
  subst he
  exact .same rfl

theorem controlWrite_kept (enable restart attn : Bool) (s : State) : Kept s (controlWrite enable restart attn s) := by
  unfold controlWrite
  dsimp only
  split
  next hen =>
    subst hen
    split
    next he =>
      have hsame := sameEnable_does true attn s he
      split
      · exact (hsame.trans (softRestart_does _ rfl)).kept
      · exact hsame.kept
    next he => exact enablePart_kept attn s (by simpa using he)
  next hen =>
    obtain rfl : enable = false := by simpa using hen
    split
    · exact disablePart_kept attn s
    next he => exact (sameEnable_does false attn s (by simpa using he)).kept

/-! ### The other register writes -/

theorem clearFault_does (s : State) : Does s { s with regs.busFault := false } := .one .faultCleared

/-- With BUS_FAULT clear the exchange resumes (R164). -/
theorem resume_does (s : State) (hf : s.regs.busFault = false) :
    Does s (resumeProgress { breakCapture s with ex.resuming := true }) := by
  have hbreak : (breakCapture s).regs.busFault = false := by
    rw [breakCapture_frame]
    exact hf
  have hresume : Does (breakCapture s) { breakCapture s with ex.resuming := true } := .one (.resuming true fun _ => hbreak)
  exact (breakCapture_does s).trans (hresume.trans (resumeProgress_does _))

theorem clearBusFault_does (s : State) : Does s (clearBusFault s) := by
  unfold clearBusFault
  dsimp only
  split
  · exact clearFault_does s
  · exact (clearFault_does s).trans (resume_does _ rfl)

/-- The bits a write to STATUS clears beside BUS_FAULT (R147). -/
def clearBits (v : Word) (s : State) : State :=
  { s with
    regs.powerFail := s.regs.powerFail && !(bitAt v 9 && decide (s.run ≠ .powerFail))
    regs.pageClosed := s.regs.pageClosed && !bitAt v 10
    regs.orderAnswered := s.regs.orderAnswered && !bitAt v 11
    regs.noPage := s.regs.noPage && !bitAt v 12 }

theorem statusWrite_eq (v : Word) (s : State) :
    statusWrite v s = if bitAt v 8 && s.regs.busFault then clearBusFault (clearBits v s) else clearBits v s := rfl

theorem statusWrite_does (v : Word) (s : State) : Does s (statusWrite v s) := by
  have hbits : Does s (clearBits v s) := .same rfl
  rw [statusWrite_eq]
  split
  · exact hbits.trans (clearBusFault_does _)
  · exact hbits

/-- XBASE takes a value without its low 12 bits (R146). -/
theorem xbase_aligned (v : Word) : (v &&& 0xFFFFF000).toNat % 4096 = 0 := by
  have hlow : (v.toNat &&& 0xFFFFF000) % 2 ^ 12 = 0 := by
    rw [Nat.and_mod_two_pow]
    exact Nat.and_zero _
  rw [BitVec.toNat_and]
  exact hlow

theorem writeXbase_does (v : Word) (s : State) : Does s { s with regs.xbase := v &&& 0xFFFFF000 } :=
  .one (.xbase _ (xbase_aligned v))

/-! ### The bus -/

theorem takeCompletion_does (data : List Word) (s : State) : Does s (takeCompletion data s) := by
  unfold takeCompletion
  split
  next => exact .refl s
  next r _ =>
    split
    next => exact .refl s
    next a _ =>
      exact (perform_does data a s).trans ((completeFor_does r _ _).trans ((resumeProgress_does _).trans (pfProgress_does _)))

theorem takeError_does (s : State) : Does s (takeError s) := by
  unfold takeError
  split
  next => exact .refl s
  next r _ => exact (takeBusError_does r s).trans (pfProgress_does _)

theorem pendingHandover_does (s : State) : Does s (pendingHandover s) := by
  unfold pendingHandover
  split
  next => exact .refl s
  next p rest _ =>
    split
    next h => exact readEntry_does p true s h
    next => exact .same rfl

/-! ### Loops and field lines -/

theorem setLoop_does (l : Lane) (x : LoopState) (s : State) : Does s (setLoop l x s) := .same rfl

theorem handEvent_does (e : TrigEvent) (s : State) : Does s (handEvent e s) := .same (handEvent_held e s)

theorem loopOnset_does (l : Lane) (s : State) : Does s (loopOnset l s) := by
  unfold loopOnset
  extract_lets s1
  have h1 : Does s s1 := setLoop_does l _ s
  have h2 : Does s (if s.mayOpen then onsetContext l s.clock s1 else s1) := by
    split
    next h => exact h1.trans (onsetContext_does l _ s1 h)
    next => exact h1
  exact h2.trans ((wake_does _).trans (handEvent_does _ _))

theorem loopInput_does (l : Lane) (v : Bool) (s : State) : Does s { s with pins.lp := s.pins.lp.set l v } := .same rfl

theorem withdrawEdge_does (l : Line) (level : Bool) (s : State) : Does s (withdrawEdge l level s) := by
  have hline : Does s { s with trig.lines := s.trig.lines.set l (.input level) } := setLine_does l _ s fun _ => .nil
  exact hline.trans (.same rfl)

/-! ### Pulses -/

theorem startFirst_kept {now : Nat} {ps : List Pulse} (h : PulsesKept ps) (hnone : ps.any (·.running) = false) :
    PulsesKept (startFirst now ps) := by
  obtain ⟨hlength, -⟩ := h
  cases ps with
  | nil => exact .nil
  | cons p rest =>
    rw [List.any_cons, Bool.or_eq_false_iff] at hnone
    have hrest : rest.filter (·.running) = [] := by simpa using hnone.2
    rw [startFirst]
    split
    · exact ⟨hlength, by simp [oneRuns, hrest]⟩
    · exact ⟨hlength, by simp [oneRuns, hrest, hnone.1]⟩

theorem endFirst_kept {now : Nat} {ps : List Pulse} (h : PulsesKept ps) : PulsesKept (endFirst now ps) := by
  obtain ⟨hlength, hone⟩ := h
  cases ps with
  | nil => exact .nil
  | cons p rest =>
    unfold endFirst
    dsimp only
    split
    next hp =>
      rw [Bool.and_eq_true] at hp
      have hrest : rest.filter (·.running) = [] := by simpa [oneRuns, hp.1] using hone
      cases rest with
      | nil => exact .nil
      | cons q more =>
        have hmore : (q :: more).length ≤ 4 := (Nat.le_succ _).trans hlength
        rw [List.filter_cons] at hrest
        split at hrest
        · exact absurd hrest (by simp)
        next hq =>
          dsimp only
          split
          · exact ⟨hmore, by simp [oneRuns, hrest]⟩
          · exact ⟨hmore, by simp [oneRuns, hrest, hq]⟩
    next => exact ⟨hlength, hone⟩

end Sys2Proof.Machine
end

section
/-!
PROOFS. The orders as updates.
-/

namespace Sys2Proof.Machine

/-! ### The frame of an order -/

variable {s : State}

theorem done_does (s : State) : Does s (done s) := fixOutcome_does ..

theorem answerClamped_does (c : Option Nat) (s : State) : Does s (answerClamped c s) := fixOutcome_does ..

theorem ifLength_does {k : OrderKind} {len : Nat} {f : State → State} (h : Does s (f s)) : Does s (ifLength k len f s) := by
  unfold ifLength
  split
  · exact h
  · exact fixOutcome_does ..

theorem ifReady_does {f : State → State} (h : s.run = .ready → Does s (f s)) : Does s (ifReady f s) := by
  unfold ifReady
  split
  next hr => exact h hr
  next => exact fixOutcome_does ..

theorem ifUnlocked_does {f : State → State} (h : s.cal.lock = false → Does s (f s)) : Does s (ifUnlocked f s) := by
  unfold ifUnlocked
  split
  next => exact fixOutcome_does ..
  next hl => exact h (by simpa using hl)

theorem ifFields_does {bad : Option Nat} {f : State → State} (h : Does s (f s)) : Does s (ifFields bad f s) := by
  unfold ifFields
  split
  · exact fixOutcome_does ..
  · exact h

/-- The order in hand is held by the page taken. -/
theorem orderHeld_of_inHand {k : OrderKind} {len : Nat} {ps : List Word} (h : s.inHand k = some (len, ps)) :
    ∃ t, OrderHeld k len ps t s := by
  unfold State.inHand at h
  split at h
  next hw =>
    rw [Bool.and_eq_true, Bool.and_eq_true, Bool.not_eq_true'] at hw
    obtain ⟨hworks, hfault, hidle⟩ := hw
    split at h
    next t ht =>
      split at h
      next kind n params hph =>
        split at h
        next hk =>
          subst hk
          obtain ⟨rfl, rfl⟩ := Prod.mk.inj (Option.some.inj h)
          exact ⟨t, hworks, hfault, Option.isNone_iff_eq_none.mp hidle, ht, hph⟩
        next => exact absurd h (by simp)
      next => exact absurd h (by simp)
    next => exact absurd h (by simp)
  next => exact absurd h (by simp)

/-- An order command keeps what its order, where one is in hand, keeps. -/
theorem runOrder_kept {k : OrderKind} {f : Nat → List Word → State → State}
    (h : ∀ len ps t, OrderHeld k len ps t s → Does s (f len ps s)) {t : State} (ht : runOrder k f s = .next t) : Kept s t := by
  cases hin : s.inHand k with
  | none =>
    rw [runOrder_none f hin] at ht
    obtain rfl := Host.Outcome.next.inj ht
    exact (Does.refl s).kept
  | some x =>
    obtain ⟨len, ps⟩ := x
    obtain ⟨page, hheld⟩ := orderHeld_of_inHand hin
    rw [hheld.run] at ht
    obtain rfl := Host.Outcome.next.inj ht
    exact ((h len ps page hheld).trans (settleDown_does _)).kept

theorem OrderHeld.powerIdle {k : OrderKind} {len : Nat} {ps : List Word} {t : OrderPage} (h : OrderHeld k len ps t s) :
    s.powerIdle = true := by
  rw [State.powerIdle, h.2.2.1]
  rfl

/-- The order in hand loads no curve. -/
theorem OrderHeld.noCurve {k : OrderKind} {len : Nat} {ps : List Word} {t : OrderPage} (h : OrderHeld k len ps t s) :
    ∀ u, s.ex.taken = some u → u.phase.loadsCurve = false := by
  intro u hu
  obtain rfl := Option.some.inj (h.taken.symm.trans hu)
  rw [h.2.2.2.2]
  rfl

/-! ### Site, detection, capture, weighing, assembly -/

theorem retrackLoops_does (n : Nat) (s : State) : Does s (retrackLoops n s) := .same rfl

theorem raiseGeneration_does (s : State) : Does s (raiseGeneration s) := .same rfl

theorem setGeometry_does (n : Nat) (g : Tab 4 LaneGeom) (s : State) (h : s.cal.lock = false) :
    Does s { s with site.laneCount := n, site.geom := g } :=
  .one (.survey s.cal.factors n g s.temp.curve s.temp.bounds fun _ => h)

theorem orderSetSiteGeometry_does (len : Nat) (ps : List Word) (s : State) : Does s (orderSetSiteGeometry len ps s) :=
  ifReady_does fun _ => ifUnlocked_does fun hl => ifLength_does <| ifFields_does <|
    (setGeometry_does _ _ s hl).trans ((retrackLoops_does _ _).trans ((raiseGeneration_does _).trans (answerClamped_does ..)))

theorem orderSetChannelMask_does (len : Nat) (ps : List Word) (s : State) : Does s (orderSetChannelMask len ps s) :=
  ifReady_does fun _ => ifLength_does <| (done_does _).after (.same rfl)

theorem orderSetDetection_does (len : Nat) (ps : List Word) (s : State) : Does s (orderSetDetection len ps s) :=
  ifReady_does fun _ => ifLength_does <| (answerClamped_does ..).after (.same rfl)

theorem armByOrder_does (ps : List Word) (s : State) : Does s (armByOrder ps s) := by
  unfold armByOrder
  split
  · exact fixOutcome_does ..
  · exact (armCapture_does ..).trans (answerClamped_does ..)

theorem orderCapture_does (len : Nat) (ps : List Word) (s : State) : Does s (orderCapture len ps s) := by
  unfold orderCapture
  split
  · exact fixOutcome_does ..
  · exact ifLength_does (ifFields_does (armByOrder_does ps s))

theorem orderCancelCapture_does (len : Nat) (ps : List Word) (s : State) : Does s (orderCancelCapture len ps s) :=
  (stopCapture_does ..).trans (done_does _)

theorem orderSetWeighing_does (len : Nat) (ps : List Word) (s : State) : Does s (orderSetWeighing len ps s) :=
  ifReady_does fun _ => ifLength_does <| (answerClamped_does ..).after (.same rfl)

theorem orderSetAssembly_does (len : Nat) (ps : List Word) (s : State) : Does s (orderSetAssembly len ps s) :=
  ifReady_does fun _ => ifLength_does <| (answerClamped_does ..).after (.same rfl)

/-! ### Loads -/

/-- A curve is loaded with the lock clear (R76). -/
theorem beginLoad_does {t : OrderPage} (k : OrderKind) (len : Nat) (ps : List Word) (s : State) (ht : s.ex.taken = some t)
    (h : s.cal.lock = true → k ≠ .loadTemperatureCurve) : Does s (beginLoad k len ps s) := by
  have hread (u : State) (hu : u.ex.taken = some t) (hl : u.cal.lock = s.cal.lock) : Does u (setReader (.loading k len ps) u) :=
    setReader_does _ u hu fun hlock _ => by
      rw [loading_loadsCurve]
      exact decide_eq_false (h (hl.symm.trans hlock))
  unfold beginLoad
  dsimp only
  split
  · exact (hread _ ht rfl).after (.same rfl)
  · exact (hread _ ht rfl).after (.same rfl)

theorem orderLoadClassTable_does {t : OrderPage} (len : Nat) (ps : List Word) (s : State) (ht : s.ex.taken = some t) :
    Does s (orderLoadClassTable len ps s) :=
  ifFields_does (beginLoad_does _ len ps s ht fun _ => by decide)

theorem orderLoadTemperatureCurve_does {t : OrderPage} (len : Nat) (ps : List Word) (s : State) (ht : s.ex.taken = some t) :
    Does s (orderLoadTemperatureCurve len ps s) :=
  ifUnlocked_does fun hl => ifFields_does (beginLoad_does _ len ps s ht fun h => absurd (hl.symm.trans h) (by decide))

theorem finishClassTable_does (n : Nat) (ws : List Word) (s : State) : Does s (finishClassTable n ws s) := by
  unfold finishClassTable
  dsimp only
  split
  · exact (fixOutcome_does ..).after (.same rfl)
  · split
    · exact (fixOutcome_does ..).after (.same rfl)
    · exact (done_does _).after (.same rfl)

theorem orderSelectBuiltInClassTable_does (len : Nat) (ps : List Word) (s : State) :
    Does s (orderSelectBuiltInClassTable len ps s) := (done_does _).after (.same rfl)

theorem setCurve_does (c : Curve) (s : State) (h : s.NoCurveUnderLock → s.cal.lock = false) :
    Does s { s with temp.curve := c, temp.shadow := none } := by
  have hcurve : Does s { s with temp.curve := c } :=
    .one (.survey s.cal.factors s.site.laneCount s.site.geom c s.temp.bounds h)
  exact hcurve.trans (.same rfl)

theorem installCurve_does (c : Curve) (s : State) (h : s.NoCurveUnderLock → s.cal.lock = false) : Does s (installCurve c s) :=
  (setCurve_does c s h).trans ((raiseGeneration_does _).trans (calibrationRecord_does ..))

/-- A curve whose data has been read is one loaded with the lock clear (R76, R124). -/
theorem finishCurve_does (ws : List Word) (s : State) (h : s.NoCurveUnderLock → s.cal.lock = false) :
    Does s (finishCurve ws s) := by
  unfold finishCurve
  dsimp only
  split
  · exact (fixOutcome_does ..).after (.same rfl)
  · exact (installCurve_does _ s h).trans (done_does _)

theorem orderSelectBuiltInCurve_does (len : Nat) (ps : List Word) (s : State) : Does s (orderSelectBuiltInCurve len ps s) :=
  ifUnlocked_does fun hl => (installCurve_does _ s fun _ => hl).trans (done_does _)

/-- The LOAD in hand has its data read. -/
theorem loadedInHand_loadsCurve {len : Nat} (h : s.loadedInHand .loadTemperatureCurve = some len) :
    ∃ t, s.ex.taken = some t ∧ t.phase.loadsCurve = true := by
  unfold State.loadedInHand at h
  split at h
  next =>
    split at h
    next t ht =>
      split at h
      next kind n params hph =>
        split at h
        next hk =>
          refine ⟨t, ht, ?_⟩
          rw [hph, loaded_loadsCurve]
          exact decide_eq_true hk
        next => exact absurd h (by simp)
      next => exact absurd h (by simp)
    next => exact absurd h (by simp)
  next => exact absurd h (by simp)

/-! ### Probes and temperature -/

theorem orderSetProbes_does (len : Nat) (ps : List Word) (s : State) : Does s (orderSetProbes len ps s) :=
  ifLength_does <| ifFields_does <| (done_does _).after (.same rfl)

theorem map_clearTally_get (cs : Tab 4 (Tab 8 Cell)) (l : Lane) (b : Fin 8) :
    ((cs.map fun (x : Tab 8 Cell) => x.map Cell.clearTally).get l).get b = ((cs.get l).get b).clearTally := by
  rw [Tab.get_map, Tab.get_map]

theorem clearTallies_does (s : State) : Does s (clearTallies s) := by
  refine .one (.cells (clearTallies s).cal.cells fun (hs : s.DriftBounded) => ⟨hs.1, fun l b => ?_⟩)
  obtain ⟨⟨-, -, -, -, hwindow⟩, hcells⟩ := hs
  show _ ∧ _ ∧ _
  rw [show (clearTallies s).cal.cells = s.cal.cells.map (fun x => x.map Cell.clearTally) from rfl, map_clearTally_get]
  exact ⟨(hcells l b).1, (hcells l b).2.1, by show 0 < s.cal.window; omega⟩

theorem setBounds_does (bs : List Int) (s : State) (h : s.cal.lock = false) : Does s { s with temp.bounds := bs } :=
  .one (.survey s.cal.factors s.site.laneCount s.site.geom s.temp.curve bs fun _ => h)

theorem changeBounds_does (bs : List Int) (s : State) (h : s.cal.lock = false) : Does s (changeBounds bs s) :=
  (setBounds_does bs s h).trans ((clearTallies_does _).trans ((raiseGeneration_does _).trans (calibrationRecord_does ..)))

theorem storeTemperature_does (hold step interval : Nat) (bs : List Int) (s : State)
    (h : bs ≠ s.temp.bounds → s.cal.lock = false) : Does s (storeTemperature hold step interval bs s) := by
  have hbounds (u : State) (hu : Does s u) (hl : u.cal.lock = s.cal.lock) :
      Does s (if bs = s.temp.bounds then u else changeBounds bs u) := by
    split
    · exact hu
    next hne => exact hu.trans (changeBounds_does bs u (hl.trans (h hne)))
  unfold storeTemperature
  dsimp only
  refine hbounds _ ?_ ?_
  · split <;> exact .same rfl
  · split <;> rfl

theorem orderSetTemperature_does (len : Nat) (ps : List Word) (s : State) : Does s (orderSetTemperature len ps s) := by
  refine ifLength_does ?_
  split
  · exact fixOutcome_does ..
  next h =>
    refine ifFields_does ((storeTemperature_does _ _ _ _ s fun hne => ?_).trans (answerClamped_does ..))
    exact Bool.not_eq_true _ |>.mp fun hl => h ⟨hl, hne⟩

/-! ### Channel factors and drift -/

theorem setFactors_does (fs : Tab 16 Nat) (s : State) (h : s.cal.lock = false) : Does s { s with cal.factors := fs } :=
  .one (.survey fs s.site.laneCount s.site.geom s.temp.curve s.temp.bounds fun _ => h)

theorem orderSetChannelFactors_does (len : Nat) (ps : List Word) (s : State) : Does s (orderSetChannelFactors len ps s) :=
  ifReady_does fun _ => ifUnlocked_does fun hl => ifLength_does <|
    (setFactors_does _ s hl).trans ((raiseGeneration_does _).trans ((calibrationRecord_does ..).trans (answerClamped_does ..)))

/-- A cell brought within the limits (R114). -/
def Cell.within (lower upper : Nat) (c : Cell) : Cell := ((c.narrow lower upper).map Prod.fst).getD c

theorem within_idem {lower upper : Nat} (h : lower ≤ upper) (c : Cell) :
    (c.within lower upper).within lower upper = c.within lower upper := by
  unfold Cell.within Cell.narrow
  grind

theorem within_mem {lower upper : Nat} (h : lower ≤ upper) (c : Cell) :
    lower ≤ (c.within lower upper).kd ∧ (c.within lower upper).kd ≤ upper := by
  unfold Cell.within Cell.narrow
  grind

theorem within_count (lower upper : Nat) (c : Cell) : (c.within lower upper).count = c.count := by
  unfold Cell.within Cell.narrow
  grind

theorem calibrationRecord_cal (k l c n b w x y z : Nat) (s : State) : (calibrationRecord k l c n b w x y z s).cal = s.cal := by
  unfold calibrationRecord
  rw [createRecord_firing .other _ s]

/-- A cell put back where it stands changes nothing. -/
theorem setCell_self (l : Lane) (b : Fin 8) (s : State) : setCell l b ((s.cal.cells.get l).get b) s = s := by
  have hcells : (s.cal.cells.modify l fun x => x.set b ((s.cal.cells.get l).get b)) = s.cal.cells := by
    refine Tab.ext_get fun m => ?_
    by_cases hm : m = l
    · subst hm
      rw [Tab.get_modify_same]
      refine Tab.ext_get fun d => ?_
      rw [Tab.get_set]
      split
      next hd => rw [hd]
      next => rfl
    · rw [Tab.get_modify_ne _ _ (Ne.symm hm)]
  unfold setCell
  rw [hcells]

/-- Of the calibration, the narrowing of a cell changes the drift table alone, and there that cell. -/
theorem narrowCell_cal (l : Lane) (b : Fin 8) (s : State) :
    (narrowCell l b s).cal = (setCell l b (((s.cal.cells.get l).get b).within s.cal.lower s.cal.upper) s).cal := by
  unfold narrowCell
  dsimp only
  split
  next h =>
    unfold Cell.within
    rw [h]
    exact congrArg State.cal (setCell_self l b s).symm
  next c isUpper h =>
    rw [calibrationRecord_cal]
    unfold Cell.within
    rw [h]
    rfl

/-- The cells in the order of lane and band. -/
def cellList : List (Lane × Fin 8) := (indices 4).flatMap fun l => (indices 8).map fun b => (l, b)

theorem narrowAll_eq (s : State) : narrowAll s = cellList.foldl (fun u x => narrowCell x.1 x.2 u) s := by
  unfold cellList
  rw [List.foldl_flatMap]
  simp only [List.foldl_map]
  rfl

theorem mem_cellList (l : Lane) (b : Fin 8) : (l, b) ∈ cellList := by
  unfold cellList
  simp [mem_indices]

/-- A fold of narrowings keeps the calibration but for the cells of its list, each of which it brings within the
limits. -/
theorem foldl_narrowCell_cal (xs : List (Lane × Fin 8)) (s : State) (h : s.cal.lower ≤ s.cal.upper) :
    ∃ cells, (xs.foldl (fun u x => narrowCell x.1 x.2 u) s).cal = { s.cal with cells := cells } ∧ ∀ l b,
      (cells.get l).get b = if (l, b) ∈ xs then ((s.cal.cells.get l).get b).within s.cal.lower s.cal.upper
        else (s.cal.cells.get l).get b := by
  induction xs generalizing s with
  | nil => exact ⟨s.cal.cells, rfl, fun l b => by simp⟩
  | cons x rest ih =>
    have hcal := narrowCell_cal x.1 x.2 s
    have hlower : (narrowCell x.1 x.2 s).cal.lower = s.cal.lower := by rw [hcal]; rfl
    have hupper : (narrowCell x.1 x.2 s).cal.upper = s.cal.upper := by rw [hcal]; rfl
    obtain ⟨cells, hall, hget⟩ := ih (narrowCell x.1 x.2 s) (by rw [hlower, hupper]; exact h)
    refine ⟨cells, ?_, fun l b => ?_⟩
    · rw [List.foldl_cons, hall, hcal]
      rfl
    · rw [hget, hlower, hupper, hcal]
      by_cases hx : (l, b) = x
      · subst hx
        rw [setCell_get_same, within_idem h]
        simp
      · rw [setCell_get_ne _ _ _ _ _ _ (by grind)]
        simp [hx]

/-- After the narrowing every factor lies within the limits (R114). -/
theorem narrowAll_cal (s : State) (h : s.cal.lower ≤ s.cal.upper) :
    ∃ cells, (narrowAll s).cal = { s.cal with cells := cells }
      ∧ ∀ l b, (cells.get l).get b = ((s.cal.cells.get l).get b).within s.cal.lower s.cal.upper := by
  obtain ⟨cells, hcal, hget⟩ := foldl_narrowCell_cal cellList s h
  rw [narrowAll_eq]
  exact ⟨cells, hcal, fun l b => by rw [hget, if_pos (mem_cellList l b)]⟩

/-- The records of a narrowing enter the queue whatever the drift table holds meanwhile. -/
theorem narrowCell_does (cs : Tab 4 (Tab 8 Cell)) (l : Lane) (b : Fin 8) (s : State) :
    Does { s with cal.cells := cs } { narrowCell l b s with cal.cells := cs } := by
  unfold narrowCell
  dsimp only
  split
  next => exact .refl _
  next c isUpper _ =>
    obtain ⟨q, hq, hheld⟩ := createRecord_queue .other (calibrationWords (setCell l b c s) 2 (b2n isUpper) 1 (l.val + 1) b.val
      (((s.cal.cells.get l).get b).kd + put 16 c.kd) (tickLow ((s.cal.cells.get l).get b).lastTick) 0
      ((s.cal.cells.get l).get b).updates) (setCell l b c s)
    have hcells := congrArg (fun u : State => { u with cal.cells := cs }) hheld
    refine .one ?_
    have htarget : ({ calibrationRecord 2 (b2n isUpper) 1 (l.val + 1) b.val (((s.cal.cells.get l).get b).kd + put 16 c.kd)
        (tickLow ((s.cal.cells.get l).get b).lastTick) 0 ((s.cal.cells.get l).get b).updates (setCell l b c s) with
          cal.cells := cs } : State).held = ({ s with cal.cells := cs, rw.queue := q } : State).held := hcells
    rw [htarget]
    exact .queue q hq

theorem foldl_narrowCell_does (cs : Tab 4 (Tab 8 Cell)) (xs : List (Lane × Fin 8)) (s : State) :
    Does { s with cal.cells := cs } { xs.foldl (fun u x => narrowCell x.1 x.2 u) s with cal.cells := cs } := by
  induction xs generalizing s with
  | nil => exact .refl _
  | cons x rest ih => exact (narrowCell_does cs x.1 x.2 s).trans (ih _)

/-- The whole of a narrowing: the table it ends with, then its records. -/
theorem narrowAll_does (s : State) : Does { s with cal.cells := (narrowAll s).cal.cells } (narrowAll s) := by
  have hself (u : State) : ({ u with cal.cells := u.cal.cells } : State) = u := rfl
  have h := foldl_narrowCell_does (narrowAll s).cal.cells cellList s
  rwa [← narrowAll_eq, hself] at h

/-! ### The drift orders -/

/-- The fields of SET DRIFT before the narrowing (R113). -/
def driftFields (window maxStep lower upper : Nat) (enables : Tab 4 Bool) (s : State) : State :=
  let s1 := if window = s.cal.window then s else clearTallies s
  { s1 with cal.window := window, cal.maxStep := maxStep, cal.lower := lower, cal.upper := upper, cal.enables := enables }

theorem storeDrift_eq (window maxStep lower upper : Nat) (enables : Tab 4 Bool) (s : State) :
    storeDrift window maxStep lower upper enables s = narrowAll (driftFields window maxStep lower upper enables s) := rfl

/-- The limits of an order lie in their ranges; the tallies held, or cleared, lie below the window (R113, R114). -/
theorem storeDrift_does (window maxStep lower upper : Nat) (enables : Tab 4 Bool) (s : State) (hw : 8 ≤ window)
    (hl : 8192 ≤ lower ∧ lower ≤ 16384) (hu : 16384 ≤ upper ∧ upper ≤ 24576)
    (hlock : s.DriftBounded → s.cal.lock = true → lower = s.cal.lower ∧ upper = s.cal.upper) :
    Does s (storeDrift window maxStep lower upper enables s) := by
  rw [storeDrift_eq]
  obtain ⟨cells, hcal, hget⟩ := narrowAll_cal (driftFields window maxStep lower upper enables s) (hl.2.trans hu.1)
  have hnarrow := narrowAll_does (driftFields window maxStep lower upper enables s)
  rw [hcal] at hnarrow
  have hlimits : Does s
      { s with cal.window := window, cal.lower := lower, cal.upper := upper, cal.cells := cells } := by
    refine .one (.limits window lower upper cells (fun hs => ⟨⟨hl.1, hl.2, hu.1, hu.2, hw⟩, fun l b => ?_⟩) hlock)
    show lower ≤ ((cells.get l).get b).kd ∧ ((cells.get l).get b).kd ≤ upper ∧ ((cells.get l).get b).count < window
    rw [hget]
    refine ⟨(within_mem (hl.2.trans hu.1) _).1, (within_mem (hl.2.trans hu.1) _).2, ?_⟩
    rw [within_count]
    have hcount : ((s.cal.cells.get l).get b).count < s.cal.window := (hs.2 l b).2.2
    show (((if window = s.cal.window then s else clearTallies s).cal.cells.get l).get b).count < window
    split
    next heq => rw [heq]; exact hcount
    next =>
      rw [show (clearTallies s).cal.cells = s.cal.cells.map (fun (x : Tab 8 Cell) => x.map Cell.clearTally) from rfl,
        map_clearTally_get]
      show 0 < window
      omega
  refine hlimits.trans (Does.trans (.same ?_) hnarrow)
  unfold driftFields
  dsimp only
  split <;> rfl

theorem orderSetDrift_does (len : Nat) (ps : List Word) (s : State) : Does s (orderSetDrift len ps s) := by
  refine ifLength_does ?_
  split
  · exact fixOutcome_does ..
  next h =>
    have hw := clamp_mem (show 8 ≤ 1024 by decide) (paramNat ps 2)
    have hl := clamp_mem (show 8192 ≤ 16384 by decide) (paramNat ps 4)
    have hu := clamp_mem (show 16384 ≤ 24576 by decide) (paramNat ps 5)
    refine (storeDrift_does _ _ _ _ _ s hw.1 hl hu fun hs hlock => ?_).trans (answerClamped_does ..)
    obtain ⟨⟨hlo, hlo', hup, hup', -⟩, -⟩ := hs
    have hgiven : paramNat ps 4 = s.cal.lower ∧ paramNat ps 5 = s.cal.upper := by
      by_contra hne
      exact h ⟨hlock, by tauto⟩
    rw [hgiven.1, hgiven.2]
    unfold clamp
    refine ⟨?_, ?_⟩
    all_goals
      split
      · omega
      · split <;> omega

theorem orderFreezeDrift_does (len : Nat) (ps : List Word) (s : State) : Does s (orderFreezeDrift len ps s) :=
  (done_does _).after (.same rfl)

theorem orderResumeDrift_does (len : Nat) (ps : List Word) (s : State) : Does s (orderResumeDrift len ps s) :=
  (done_does _).after (.same rfl)

/-- A table of factors within the limits with empty tallies (R120, R121). -/
theorem setCells_does (cs : Tab 4 (Tab 8 Cell)) (s : State)
    (h : s.DriftBounded → ∀ l b, s.cal.lower ≤ ((cs.get l).get b).kd ∧ ((cs.get l).get b).kd ≤ s.cal.upper
      ∧ ((cs.get l).get b).count = 0) : Does s { s with cal.cells := cs } := by
  refine .one (.cells cs fun (hs : s.DriftBounded) => ⟨hs.1, fun l b => ?_⟩)
  obtain ⟨hlo, hhi, hcount⟩ := h hs l b
  obtain ⟨⟨-, -, -, -, hwindow⟩, -⟩ := hs
  have hwindow' : 8 ≤ s.cal.window := hwindow
  refine ⟨hlo, hhi, ?_⟩
  show ((cs.get l).get b).count < s.cal.window
  omega

theorem orderResetDrift_does (len : Nat) (ps : List Word) (s : State) : Does s (orderResetDrift len ps s) := by
  refine ifUnlocked_does fun _ => (setCells_does _ s fun hs l b => ?_).trans ((calibrationRecord_does ..).trans (done_does _))
  obtain ⟨⟨-, hlo, hhi, -, -⟩, -⟩ := hs
  rw [Tab.get_fill, Tab.get_fill]
  exact ⟨hlo, hhi, rfl⟩

theorem restoredCells_get (lower upper : Nat) (ps : List Word) (l : Lane) (b : Fin 8) :
    ((restoredCells lower upper ps).get l).get b
      = Cell.restored (clamp lower upper (paramNat ps (2 + 8 * l.val + b.val))) := by
  unfold restoredCells
  rw [Tab.get_ofNat, Tab.get_ofNat]

theorem orderRestoreDrift_does (len : Nat) (ps : List Word) (s : State) : Does s (orderRestoreDrift len ps s) := by
  refine ifUnlocked_does fun _ => ifLength_does <| (setCells_does _ s fun hs l b => ?_).trans
    ((calibrationRecord_does ..).trans (answerClamped_does ..))
  obtain ⟨⟨-, hlo, hhi, -, -⟩, -⟩ := hs
  rw [restoredCells_get]
  have hmem := clamp_mem (hlo.trans hhi) (paramNat ps (2 + 8 * l.val + b.val))
  exact ⟨hmem.1, hmem.2, rfl⟩

theorem orderReportCalibration_does (len : Nat) (ps : List Word) (s : State) : Does s (orderReportCalibration len ps s) :=
  (createRecord_does ..).trans (done_does _)

theorem orderLockCalibration_does (len : Nat) (ps : List Word) (s : State)
    (h : ∀ t, s.ex.taken = some t → t.phase.loadsCurve = false) : Does s (orderLockCalibration len ps s) := by
  have hlock : Does s { s with cal.lock := true } := .one (.lock h)
  unfold orderLockCalibration
  refine Does.trans ?_ (done_does _)
  split
  · exact .refl s
  · exact hlock.trans (calibrationRecord_does ..)

/-! ### Run orders -/

theorem orderNop_does (len : Nat) (ps : List Word) (s : State) : Does s (orderNop len ps s) := done_does s

theorem orderSetExchange_does (len : Nat) (ps : List Word) (s : State) : Does s (orderSetExchange len ps s) :=
  ifLength_does <| (answerClamped_does ..).after (.same rfl)

/-- RUNNING begins from READY (R168). -/
theorem beginRunning_does (s : State) (hr : s.run = .ready) (hp : s.powerIdle = true) : Does s { s with run := .running } := by
  refine .one (.control s.regs.enable .running s.ctrl.power fun hs => ?_)
  have hm : ({ s with run := .running } : State).measuring = true := by
    show (RunState.running.measures && s.powerIdle) = true
    rw [hp]
    rfl
  have hrun : s.run ≠ .disabled := by rw [hr]; decide
  have hnot : ({ s with run := .running } : State).measuring ≠ false := by rw [hm]; decide
  exact ⟨iff_of_false (fun h => RunState.noConfusion h) fun h => hrun (hs.enable.mpr h), fun _ => rfl, fun h => absurd h hnot,
    fun h => absurd h hnot, fun h => absurd h hnot, fun h => absurd h hnot⟩

theorem startChannels_does (s : State) (hm : s.measuring = true) : Does s (startChannels s) :=
  .one (.chans _ fun hf => absurd (hf.symm.trans hm) (by decide))

theorem orderStart_does (len : Nat) (ps : List Word) (s : State) (hp : s.powerIdle = true) : Does s (orderStart len ps s) := by
  refine ifReady_does fun hr => ?_
  split
  · exact fixOutcome_does ..
  · refine (beginRunning_does s hr hp).trans ((startChannels_does _ ?_).trans (done_does _))
    show (RunState.running.measures && s.powerIdle) = true
    rw [hp]
    rfl

/-- A drain begins in a state that measures (R169). -/
theorem beginDrain_does (s : State) (hm : s.run.measures = true) : Does s { s with run := .draining } := by
  refine changeRun_does s (fun _ h => ?_) rfl (.inr ?_)
  · rw [h] at hm
    exact absurd hm (by decide)
  · show (RunState.draining.measures && s.powerIdle) = (s.run.measures && s.powerIdle)
    rw [hm]
    rfl

theorem drainByStop_does (len : Nat) (s : State) (hm : s.run.measures = true) :
    Does s (testDrain (holdStop len { stopRunTimers s with run := .draining, ctrl.drain := some 0 })) := by
  have hdrain : Does s { stopRunTimers s with run := .draining, ctrl.drain := some 0 } :=
    (beginDrain_does s hm).trans (.same rfl)
  exact hdrain.trans ((setReader_plain_does (.holding len) _ rfl).trans (testDrain_does _))

theorem orderStop_does (len : Nat) (ps : List Word) (s : State) : Does s (orderStop len ps s) := by
  unfold orderStop
  split
  next h => exact drainByStop_does len s (by rw [h]; rfl)
  next h => exact drainByStop_does len s (by rw [h]; rfl)
  next => exact (halt_does s).trans (done_does _)
  next => exact done_does s

theorem orderHalt_does (len : Nat) (ps : List Word) (s : State) : Does s (orderHalt len ps s) :=
  (halt_does s).trans (done_does _)

theorem clockBreak_does (s : State) : Does s (clockBreak s) := by
  unfold clockBreak
  split
  · exact (loseOpenHits_does s).trans ((loseHitLists_does _).trans ((truncateAll_does _).trans (releaseRowA_does _)))
  · exact .refl s

theorem recutSummary_does (s : State) : Does s (recutSummary s) := .same rfl

theorem loadClock_does (v : Nat) (s : State) : Does s (loadClock v s) := by
  have hclock : Does s { s with clock := v } := .same rfl
  exact hclock.trans ((shiftTriggerTicks_does _ _).trans (recutSummary_does _))

theorem orderSetClock_does (len : Nat) (ps : List Word) (s : State) : Does s (orderSetClock len ps s) :=
  ifLength_does <| ifFields_does <| (clockBreak_does s).trans ((loadClock_does _ _).trans (done_does _))

theorem orderSetQuiet_does (len : Nat) (ps : List Word) (s : State) : Does s (orderSetQuiet len ps s) := by
  refine ifLength_does (ifFields_does ?_)
  dsimp only
  refine Does.trans ?_ (answerClamped_does ..)
  split
  · exact .same rfl
  · exact (wake_does _).after (.same rfl)

theorem orderReportStatus_does (len : Nat) (ps : List Word) (s : State) : Does s (orderReportStatus len ps s) :=
  (createRecord_does ..).trans (done_does _)

/-! ### Trigger orders -/

theorem orderSetTrigger_does (len : Nat) (ps : List Word) (s : State) : Does s (orderSetTrigger len ps s) :=
  ifLength_does <| ifFields_does <| (answerClamped_does ..).after (.same rfl)

/-- A line that keeps its function keeps its schedule, any other has none (R127). -/
theorem assign_kept (code : Nat) (level : Bool) (l : FieldLine) (h : PulsesKept l.pulses) :
    PulsesKept (l.assign code level).pulses := by
  cases l with
  | input sampled =>
    unfold FieldLine.assign
    dsimp only
    split <;> exact .nil
  | output ps =>
    unfold FieldLine.assign
    dsimp only
    split
    · exact .nil
    · exact h

theorem assignLines_does (w : Word) (s : State) : Does s (assignLines w s) := by
  have hlines : Does s { s with trig.lines := (assignLines w s).trig.lines } := by
    refine lines_does _ s fun l hl => ?_
    unfold assignLines
    dsimp only
    rw [Tab.get_ofNat, dif_pos l.isLt]
    exact assign_kept _ _ _ hl
  exact hlines.trans (.same rfl)

theorem orderSetFieldLines_does (len : Nat) (ps : List Word) (s : State) : Does s (orderSetFieldLines len ps s) :=
  ifLength_does <| ifFields_does <| (assignLines_does _ s).trans (done_does _)

theorem orderControlTriggers_does (len : Nat) (ps : List Word) (s : State) : Does s (orderControlTriggers len ps s) := by
  refine ifLength_does ?_
  have hmasks (a b : BitVec 8) : Does s (applyMasks a b s) := .same (applyMasks_held a b s)
  exact (hmasks _ _).trans ((controlCascade_does _ _).trans (done_does _))

end Sys2Proof.Machine
end

section
/-!
PROOFS. Every command but a hard reset keeps the invariants of the model and the survey under the lock, and a hard reset
leaves the reset state, which meets them: the invariants of every step.
-/

namespace Sys2Proof.Machine

/-! ### The commands -/

/-- A command whose own effect keeps what is to be kept does so with what follows every command. -/
theorem answerNext_kept {s u t : State} (h : Kept s u) (ht : answerNext u = .next t) : Kept s t := by
  obtain rfl := Host.Outcome.next.inj ht
  exact h.trans (settleDown_does u).kept

theorem Does.answer {s u t : State} (h : Does s u) (ht : answerNext u = .next t) : Kept s t := answerNext_kept h.kept ht

theorem registerWrite_kept (reg : WindowReg) (v : Word) (s t : State) (h : execRegisterWrite reg v s = .next t) : Kept s t := by
  unfold execRegisterWrite at h
  split at h
  · obtain rfl := Host.Outcome.next.inj h
    exact (Does.refl s).kept
  · obtain rfl := Host.Outcome.next.inj h
    exact (Does.refl s).kept
  · obtain rfl := Host.Outcome.next.inj h
    split
    · exact (Does.refl s).kept
    · exact (writeXbase_does v s).kept

theorem handover_kept (v : Word) (s t : State) (h : execHandover v s = .next t) : Kept s t := by
  unfold execHandover at h
  dsimp only at h
  split at h
  all_goals
    refine Does.answer ?_ h
    exact .same rfl

theorem pfiAsserted_kept (s t : State) (h : execPfiAsserted s = .next t) : Kept s t := by
  have hpin : Does s { s with pins.pfi := true } := .same rfl
  unfold execPfiAsserted at h
  refine answerNext_kept ?_ h
  split
  next hw => exact hpin.kept.trans (beginPowerFail_kept _ fun _ => hw.1)
  next => exact hpin.kept

theorem pfiReleased_kept (s t : State) (h : execPfiReleased s = .next t) : Kept s t := by
  have hpin : Does s { s with pins.pfi := false } := .same rfl
  unfold execPfiReleased at h
  refine Does.answer ?_ h
  split
  next hr => exact hpin.trans (leavePowerFail_does _ hr)
  next => exact hpin

theorem loopEnd_kept (l : Lane) (s t : State) (h : execLoopEnd l s = .next t) : Kept s t := by
  have hpin := loopInput_does l false s
  unfold execLoopEnd at h
  refine Does.answer ?_ h
  split
  · split
    · exact hpin
    · exact hpin.trans (setLoop_does ..)
    · dsimp only
      split
      · exact hpin.trans ((setLoop_does ..).trans (loopEndContext_does ..))
      · exact hpin.trans (setLoop_does ..)
  · exact hpin

theorem stuckExpiry_kept (l : Lane) (s t : State) (h : execStuckExpiry l s = .next t) : Kept s t := by
  unfold execStuckExpiry at h
  refine Does.answer ?_ h
  split
  · split
    · dsimp only
      split
      · exact (setLoop_does ..).trans (loopEndContext_does ..)
      · exact setLoop_does ..
    · exact .refl s
  · exact .refl s

theorem loopOnset_kept (l : Lane) (s t : State) (h : execLoopOnset l s = .next t) : Kept s t := by
  have hpin := loopInput_does l true s
  unfold execLoopOnset at h
  refine Does.answer ?_ h
  split
  · exact hpin.trans (loopOnset_does l _)
  · exact hpin

theorem fieldEdge_kept (l : Line) (level : Bool) (s t : State) (h : execFieldEdge l level s = .next t) : Kept s t := by
  have hpin : Does s { s with pins.field := s.pins.field.set l level } := .same rfl
  have hline : Does s { s with trig.lines := s.trig.lines.set l (.input level) } := setLine_does l _ s fun _ => .nil
  unfold execFieldEdge at h
  refine Does.answer ?_ h
  split
  · split
    · split
      · exact hpin.trans (withdrawEdge_does ..)
      · exact (handEvent_does ..).after (hline.trans (.same rfl))
    · exact hpin
  · exact hpin

theorem drainTimeout_kept (s t : State) (h : execDrainTimeout s = .next t) : Kept s t := by
  unfold execDrainTimeout at h
  refine Does.answer ?_ h
  split
  · split
    · exact (truncateAll_does s).trans (testDrain_does _)
    · exact .refl s
  · exact .refl s

/-- A change between run states that measure. -/
theorem changeMeasuring_does {r : RunState} (s : State) (hold : s.run.measures = true) (hnew : r.measures = true) :
    Does s { s with run := r } := by
  refine changeRun_does s (fun _ h => ?_) ?_ (.inr ?_)
  · rw [h] at hold
    exact absurd hold (by decide)
  · revert hnew
    cases r <;> decide
  · show (r.measures && s.powerIdle) = (s.run.measures && s.powerIdle)
    rw [hold, hnew]

theorem quietEntry_kept (s t : State) (h : execQuietEntry s = .next t) : Kept s t := by
  unfold execQuietEntry at h
  refine Does.answer ?_ h
  split
  · split
    next hr => exact (changeMeasuring_does (r := .quiet) s (by rw [hr.1]; rfl) rfl).trans (.same rfl)
    next => exact .refl s
  · exact .refl s

theorem settleEnd_kept (s t : State) (h : execSettleEnd s = .next t) : Kept s t := by
  unfold execSettleEnd at h
  refine Does.answer ?_ h
  split
  · split
    next hr => exact (changeMeasuring_does (r := .running) s (by rw [hr.1]; rfl) rfl).trans (.same rfl)
    next => exact .refl s
  · exact .refl s

theorem timerExpiry_kept (n : SetId) (s t : State) (h : execTimerExpiry n s = .next t) : Kept s t := by
  unfold execTimerExpiry at h
  refine Does.answer ?_ h
  split
  · split
    · exact (handEvent_does ..).after (.same rfl)
    · exact .refl s
  · exact .refl s

theorem pulseStart_kept (l : Line) (s t : State) (h : execPulseStart l s = .next t) : Kept s t := by
  unfold execPulseStart at h
  refine Does.answer ?_ h
  split
  next ps hl =>
    split
    · exact .refl s
    next hnone =>
      refine setLine_does l _ s fun hk => ?_
      rw [hl] at hk
      exact startFirst_kept hk (by simpa using hnone)
  next => exact .refl s

theorem pulseEnd_kept (l : Line) (s t : State) (h : execPulseEnd l s = .next t) : Kept s t := by
  unfold execPulseEnd at h
  refine Does.answer ?_ h
  split
  next ps hl =>
    refine setLine_does l _ s fun hk => ?_
    rw [hl] at hk
    exact endFirst_kept hk
  next => exact .refl s

theorem cascade_kept (n : Nat) (s t : State) (h : execCascade n s = .next t) : Kept s t := by
  unfold execCascade at h
  refine Does.answer ?_ h
  split
  · split
    · exact (runCascade_does ..).after (.same rfl)
    · exact .refl s
  · exact .refl s

theorem idleDeadline_kept (l : Lane) (k : Slot) (s t : State) (h : execIdleDeadline l k s = .next t) : Kept s t := by
  unfold execIdleDeadline at h
  refine Does.answer ?_ h
  split
  · split
    · exact closeTest_does ..
    · exact .refl s
  · exact .refl s

theorem sweep_kept (s t : State) (h : execSweep s = .next t) : Kept s t := by
  unfold execSweep at h
  refine Does.answer ?_ h
  split
  · split
    · exact .same rfl
    · exact .refl s
  · exact .refl s

theorem flushTimeout_kept (s t : State) (h : execFlushTimeout s = .next t) : Kept s t := by
  unfold execFlushTimeout at h
  refine Does.answer ?_ h
  split
  next p hp =>
    split
    · split
      · have hstop := mapPage_does (fun p => { p with flush := none }) (fun _ => rfl) (fun _ => rfl) s
        rw [hp] at hstop
        exact (closeResultPage_does ..).after hstop
      · exact .refl s
    · exact .refl s
  next => exact .refl s

theorem exchangeFree_fault {s : State} (h : s.exchangeFree = true) : s.regs.busFault = false := by
  unfold State.exchangeFree at h
  simp only [Bool.and_eq_true, Bool.not_eq_true'] at h
  tauto

theorem takeResultPage_kept (s t : State) (h : execTakeResultPage s = .next t) : Kept s t := by
  unfold execTakeResultPage at h
  refine Does.answer ?_ h
  split
  next hfree => exact takeResultHead_does s (Option.isNone_iff_eq_none.mp hfree.2.2) (exchangeFree_fault hfree.1)
  next => exact .refl s

theorem takeOrderPage_kept (s t : State) (h : execTakeOrderPage s = .next t) : Kept s t := by
  unfold execTakeOrderPage at h
  refine Does.answer ?_ h
  split
  next hfree => exact takeOrderHead_does s (Option.isNone_iff_eq_none.mp hfree.2.1)
  next => exact .refl s

theorem pendingHandover_kept (s t : State) (h : execPendingHandover s = .next t) : Kept s t := by
  unfold execPendingHandover at h
  refine Does.answer ?_ h
  split
  · exact pendingHandover_does s
  · exact .refl s

theorem loadClassTableDone_kept (s t : State) (h : execLoadClassTableDone s = .next t) : Kept s t := by
  unfold execLoadClassTableDone at h
  split at h
  · exact (finishClassTable_does ..).answer h
  · obtain rfl := Host.Outcome.next.inj h
    exact (Does.refl s).kept

theorem loadTemperatureCurveDone_kept (s t : State) (h : execLoadTemperatureCurveDone s = .next t) : Kept s t := by
  unfold execLoadTemperatureCurveDone at h
  split at h
  next hin =>
    refine (finishCurve_does _ s fun hno => ?_).answer h
    obtain ⟨page, htaken, hloads⟩ := loadedInHand_loadsCurve hin
    exact Bool.not_eq_true _ |>.mp fun hl => absurd (hloads.symm.trans (hno hl page htaken)) (by decide)
  next =>
    obtain rfl := Host.Outcome.next.inj h
    exact (Does.refl s).kept

/-- Every command but a hard reset keeps the invariants and the survey under the lock. -/
theorem exec_kept (i : Instr) (s t : State) (hi : i ≠ .hardReset) (h : exec i s = .next t) : Kept s t := by
  cases i with
  | hardReset => exact absurd rfl hi
  | enable restart attn => exact answerNext_kept (controlWrite_kept true restart attn s) h
  | disable restart attn => exact answerNext_kept (controlWrite_kept false restart attn s) h
  | softRestart attn => exact answerNext_kept (controlWrite_kept true true attn s) h
  | attnEn v => exact answerNext_kept (controlWrite_kept s.regs.enable false v s) h
  | registerWrite reg v => exact registerWrite_kept reg v s t h
  | handover v => exact handover_kept v s t h
  | statusClear v => exact (statusWrite_does v s).answer h
  | busFaultClear v => exact (statusWrite_does (v ||| 0x100) s).answer h
  | pfiAsserted => exact pfiAsserted_kept s t h
  | pfiReleased => exact pfiReleased_kept s t h
  | loopOnset l => exact loopOnset_kept l s t h
  | loopEnd l => exact loopEnd_kept l s t h
  | stuckExpiry l => exact stuckExpiry_kept l s t h
  | sampleFrame f => exact (takeFrame_does f s).answer h
  | linkLoss => exact (loseLink_does s).answer h
  | pollRound => exact (startRound_does s).answer h
  | probeAnswer a => exact (takeAnswer_does a s).answer h
  | answerTimeout => exact (answerTimedOut_does s).answer h
  | fieldEdge l v => exact fieldEdge_kept l v s t h
  | closeDeadline l => exact (closeTest_does l .closingSlot s).answer h
  | idleDeadline l k => exact idleDeadline_kept l k s t h
  | drainTimeout => exact drainTimeout_kept s t h
  | quietEntry => exact quietEntry_kept s t h
  | settleEnd => exact settleEnd_kept s t h
  | timerExpiry n => exact timerExpiry_kept n s t h
  | pulseStart l => exact pulseStart_kept l s t h
  | pulseEnd l => exact pulseEnd_kept l s t h
  | cascade n => exact cascade_kept n s t h
  | sweep => exact sweep_kept s t h
  | flushTimeout => exact flushTimeout_kept s t h
  | accessComplete data => exact (takeCompletion_does data s).answer h
  | busError => exact (takeError_does s).answer h
  | takeResultPage => exact takeResultPage_kept s t h
  | takeOrderPage => exact takeOrderPage_kept s t h
  | pendingHandover => exact pendingHandover_kept s t h
  | loadClassTableDone => exact loadClassTableDone_kept s t h
  | loadTemperatureCurveDone => exact loadTemperatureCurveDone_kept s t h
  | nop => exact runOrder_kept (fun len ps _ _ => orderNop_does len ps s) h
  | setExchange => exact runOrder_kept (fun len ps _ _ => orderSetExchange_does len ps s) h
  | start => exact runOrder_kept (fun len ps _ ho => orderStart_does len ps s ho.powerIdle) h
  | stop => exact runOrder_kept (fun len ps _ _ => orderStop_does len ps s) h
  | halt => exact runOrder_kept (fun len ps _ _ => orderHalt_does len ps s) h
  | setClock => exact runOrder_kept (fun len ps _ _ => orderSetClock_does len ps s) h
  | setQuiet => exact runOrder_kept (fun len ps _ _ => orderSetQuiet_does len ps s) h
  | reportStatus => exact runOrder_kept (fun len ps _ _ => orderReportStatus_does len ps s) h
  | setSiteGeometry => exact runOrder_kept (fun len ps _ _ => orderSetSiteGeometry_does len ps s) h
  | setChannelMask => exact runOrder_kept (fun len ps _ _ => orderSetChannelMask_does len ps s) h
  | setDetection => exact runOrder_kept (fun len ps _ _ => orderSetDetection_does len ps s) h
  | capture => exact runOrder_kept (fun len ps _ _ => orderCapture_does len ps s) h
  | cancelCapture => exact runOrder_kept (fun len ps _ _ => orderCancelCapture_does len ps s) h
  | setWeighing => exact runOrder_kept (fun len ps _ _ => orderSetWeighing_does len ps s) h
  | setProbes => exact runOrder_kept (fun len ps _ _ => orderSetProbes_does len ps s) h
  | loadTemperatureCurve => exact runOrder_kept (fun len ps _ ho => orderLoadTemperatureCurve_does len ps s ho.taken) h
  | selectBuiltInCurve => exact runOrder_kept (fun len ps _ _ => orderSelectBuiltInCurve_does len ps s) h
  | setTemperature => exact runOrder_kept (fun len ps _ _ => orderSetTemperature_does len ps s) h
  | loadClassTable => exact runOrder_kept (fun len ps _ ho => orderLoadClassTable_does len ps s ho.taken) h
  | selectBuiltInClassTable => exact runOrder_kept (fun len ps _ _ => orderSelectBuiltInClassTable_does len ps s) h
  | setAssembly => exact runOrder_kept (fun len ps _ _ => orderSetAssembly_does len ps s) h
  | setChannelFactors => exact runOrder_kept (fun len ps _ _ => orderSetChannelFactors_does len ps s) h
  | setDrift => exact runOrder_kept (fun len ps _ _ => orderSetDrift_does len ps s) h
  | freezeDrift => exact runOrder_kept (fun len ps _ _ => orderFreezeDrift_does len ps s) h
  | resumeDrift => exact runOrder_kept (fun len ps _ _ => orderResumeDrift_does len ps s) h
  | resetDrift => exact runOrder_kept (fun len ps _ _ => orderResetDrift_does len ps s) h
  | restoreDrift => exact runOrder_kept (fun len ps _ _ => orderRestoreDrift_does len ps s) h
  | reportCalibration => exact runOrder_kept (fun len ps _ _ => orderReportCalibration_does len ps s) h
  | lockCalibration => exact runOrder_kept (fun len ps _ ho => orderLockCalibration_does len ps s ho.noCurve) h
  | setTrigger => exact runOrder_kept (fun len ps _ _ => orderSetTrigger_does len ps s) h
  | setFieldLines => exact runOrder_kept (fun len ps _ _ => orderSetFieldLines_does len ps s) h
  | controlTriggers => exact runOrder_kept (fun len ps _ _ => orderControlTriggers_does len ps s) h

/-! ### The reset state -/

theorem reset_noContext (l : Lane) (k : Slot) : State.reset.context l k = none := by
  cases k <;> revert l <;> decide

theorem reset_portsConsistent : State.reset.PortsConsistent := by
  unfold State.PortsConsistent
  decide

theorem reset_driftBounded : State.reset.DriftBounded := by
  unfold State.DriftBounded
  decide

theorem reset_bounded : State.reset.Bounded where
  queue := by decide
  hitsA := by decide
  hitsB := by decide
  rowA := by decide
  frames := by decide
  pulses := by unfold oneRuns; decide
  axles := fun l k c h => absurd ((reset_noContext l k).symm.trans h) (by simp)

theorem reset_pagesOwned : State.reset.PagesOwned := (State.pagesOwned_iff _).mpr Places.none_held

theorem reset_runConsistent : State.reset.RunConsistent :=
  runConsistent_of_nothing rfl rfl rfl
    ⟨fun _ => Tab.get_fill .., ⟨rfl, rfl⟩, rfl, (State.noContext_iff _).mpr reset_noContext⟩

theorem reset_noCurveUnderLock : State.reset.NoCurveUnderLock := fun h => absurd h (by decide)

theorem reset_writerConsistent : State.reset.WriterConsistent := by
  have hpage : State.reset.rw.page = none := rfl
  exact ⟨fun p k h => absurd (hpage.symm.trans h) (by simp), fun h => absurd h (by decide)⟩

/-- The state of a hard reset: pins, memory and waiting commands are not the part's (log 9). -/
def hardReset (s : State) : State := { State.reset with pins := s.pins, mem := s.mem, pending := s.pending }

theorem hardReset_held (s : State) : (hardReset s).held = { State.reset.held with mem := s.mem } := rfl

/-! ### Every step -/

/-- A property of the state that every command and every tick keeps, that a hard reset establishes and that does not read
the commands waiting is kept by every step. -/
theorem step_keeps {P : State → Prop} (hkept : ∀ s t, Kept s t → P s → P t) (hreset : ∀ s, P s → P (hardReset s))
    (hpending : ∀ s cs, P s → P { s with pending := cs }) (s t : State) (hs : P s) (h : step s = .next t) : P t := by
  unfold step at h
  split at h
  · obtain rfl := Host.Outcome.next.inj h
    exact hkept s _ (tick_does s).kept hs
  next c rest _ =>
    have hrest := hpending s rest hs
    by_cases hc : c = .hardReset
    · subst hc
      obtain rfl := Host.Outcome.next.inj h
      exact hreset _ hrest
    · exact hkept _ t (exec_kept c _ t hc h) hrest

/-- Settles O7: only a completed access writes memory, in its canonical form. -/
theorem memoryStaysCanonical : Obligations.MemoryStaysCanonical :=
  step_keeps (P := fun s => Memory.wf s.mem = true) (fun _ _ h => h.memory) (fun _ h => h) (fun _ _ h => h)

/-- Settles O8: XBASE takes aligned values only, and a closure raises the count with SERIAL. -/
theorem portsStayConsistent : Obligations.PortsStayConsistent :=
  step_keeps (fun _ _ h => h.ports) (fun _ _ => reset_portsConsistent) (fun _ _ h => h)

/-- Settles O9: every writer of a drift cell stays within the limits held and leaves its tally below the window. -/
theorem driftFactorsStayInLimits : Obligations.DriftFactorsStayInLimits :=
  step_keeps (fun _ _ h => h.drift) (fun _ _ => reset_driftBounded) (fun _ _ h => h)

/-- Settles O10: a list grows only where it has room. -/
theorem listsStayBounded : Obligations.ListsStayBounded :=
  step_keeps (fun _ _ h => h.bounded)
    (fun _ _ => ⟨reset_bounded.queue, reset_bounded.hitsA, reset_bounded.hitsB, reset_bounded.rowA, reset_bounded.frames,
      reset_bounded.pulses, reset_bounded.axles⟩)
    (fun _ _ h => ⟨h.queue, h.hitsA, h.hitsB, h.rowA, h.frames, h.pulses, h.axles⟩)

/-- Settles O11: a page moves from one place to the next with its entry in the page table. -/
theorem pagesKeepOneOwner : Obligations.PagesKeepOneOwner :=
  step_keeps (fun _ _ h => h.owned) (fun s _ => pagesOwned_of_same (s := State.reset) (t := hardReset s) rfl rfl rfl reset_pagesOwned)
    (fun s cs h => pagesOwned_of_same (s := s) (t := { s with pending := cs }) rfl rfl rfl h)

/-- Settles O12: the run state changes with ENABLE and once nothing is measured; a record in writing is pinned. -/
theorem runStateStaysConsistent : Obligations.RunStateStaysConsistent := by
  have hreset := reset_runConsistent
  refine ⟨step_keeps (fun _ _ h => h.run) (fun _ _ => ⟨hreset.enable, hreset.power, hreset.channels, hreset.hits, hreset.rowA,
      hreset.contexts⟩)
    (fun _ _ h => ⟨h.enable, h.power, h.channels, h.hits, h.rowA, h.contexts⟩),
    step_keeps (fun _ _ h => h.writer) (fun _ _ => ⟨reset_writerConsistent.writing, reset_writerConsistent.faulted⟩)
      (fun _ _ h => ⟨h.writing, h.faulted⟩)⟩

/-- With the lock set the survey of a state stands in it. -/
theorem surveyHeld_self (s : State) (hno : s.NoCurveUnderLock) (hdrift : s.DriftBounded) (hlock : s.cal.lock = true) :
    SurveyHeld s s := ⟨hlock, rfl, rfl, rfl, rfl, rfl, rfl, rfl, hno, hdrift⟩

/-- Settles O13: every order that changes the survey is answered LOCKED, and SET DRIFT with the limits held keeps them. -/
theorem lockHoldsSurvey : Obligations.LockHoldsSurvey := by
  intro s t hno hdrift hlock hhead h
  have hheld : SurveyHeld s t := by
    unfold step at h
    split at h
    · obtain rfl := Host.Outcome.next.inj h
      exact (tick_does s).kept.survey s (surveyHeld_self s hno hdrift hlock)
    next c rest hpending =>
      have hc : c ≠ .hardReset := fun hc => hhead (by rw [hpending, hc]; rfl)
      exact (exec_kept c _ t hc h).survey s ⟨hlock, rfl, rfl, rfl, rfl, rfl, rfl, rfl, hno, hdrift⟩
  exact ⟨hheld.lock, hheld.factors, hheld.laneCount, hheld.geom, hheld.curve, hheld.bounds, hheld.lower, hheld.upper,
    hheld.noCurve⟩

end Sys2Proof.Machine
end

section
/-!
PROOFS. The statements on the step as a whole: what a tick is, that every command answers a next state, the reset
state, and the loop unit outside the states in which contexts open.
-/

namespace Sys2Proof.Machine

/-! ### The step -/

theorem tick_loop (l : LoopState) :
    l.tick = match l with
      | .occupied onset n => .occupied onset (n + 1)
      | .vacant => .vacant
      | .stuck onset => .stuck onset := by
  cases l <;> rfl

/-- Settles O1: the step is defined so; a tick counts each timer of R179. -/
theorem stepRunsFrontCommand : Obligations.StepRunsFrontCommand := by
  refine ⟨fun c rest s h => ?_, fun s h => ?_⟩
  · rw [step, h]
  · have hclock : tickAdd s.clock 1 = (s.clock + 1) % 281474976710656 := rfl
    rw [step, h]
    unfold State.tick
    rw [hclock]
    dsimp only
    congr 2
    exact congrArg (fun f => s.loops.map f) (funext tick_loop)

/-! ### Memory and the commands waiting -/

/-- Board memory and the commands waiting, which are not the part's. -/
def State.outside (s : State) : List Host.Cell × List Instr := (s.mem, s.pending)

theorem outside_of_settings {s t : State} (h : t.settings = s.settings) : t.outside = s.outside := by
  rw [State.outside, State.outside]
  exact Prod.ext (congrArg Settings.mem h) (congrArg Settings.pending h)

section
variable {s : State}

theorem done_outside (s : State) : (done s).outside = s.outside := outside_of_settings (fixOutcome_settings ..)

theorem answerClamped_outside (c : Option Nat) (s : State) : (answerClamped c s).outside = s.outside :=
  outside_of_settings (fixOutcome_settings ..)

theorem fixOutcome_outside (o : OrderOutcome) (d : Nat) (s : State) : (fixOutcome o d s).outside = s.outside :=
  outside_of_settings (fixOutcome_settings ..)

theorem calibrationRecord_outside (k l c n b w x y z : Nat) (s : State) :
    (calibrationRecord k l c n b w x y z s).outside = s.outside := outside_of_settings (calibrationRecord_settings ..)

theorem createRecord_outside (k : RecKind) (ws : List Nat) (s : State) : (createRecord k ws s).outside = s.outside :=
  outside_of_settings (createRecord_settings ..)

theorem ifLength_outside {k : OrderKind} {len : Nat} {f : State → State} (h : (f s).outside = s.outside) :
    (ifLength k len f s).outside = s.outside := by
  unfold ifLength
  split
  · exact h
  · exact fixOutcome_outside ..

theorem ifReady_outside {f : State → State} (h : (f s).outside = s.outside) : (ifReady f s).outside = s.outside := by
  unfold ifReady
  split
  · exact h
  · exact fixOutcome_outside ..

theorem ifUnlocked_outside {f : State → State} (h : (f s).outside = s.outside) : (ifUnlocked f s).outside = s.outside := by
  unfold ifUnlocked
  split
  · exact fixOutcome_outside ..
  · exact h

theorem ifFields_outside {bad : Option Nat} {f : State → State} (h : (f s).outside = s.outside) :
    (ifFields bad f s).outside = s.outside := by
  unfold ifFields
  split
  · exact fixOutcome_outside ..
  · exact h

theorem beginLoad_outside (k : OrderKind) (len : Nat) (ps : List Word) (s : State) :
    (beginLoad k len ps s).outside = s.outside := by
  have hread (u : State) : (setReader (.loading k len ps) u).outside = u.outside := outside_of_settings (setReader_settings ..)
  unfold beginLoad
  dsimp only
  rw [hread]
  split <;> rfl

theorem finishClassTable_outside (n : Nat) (ws : List Word) (s : State) : (finishClassTable n ws s).outside = s.outside := by
  unfold finishClassTable
  dsimp only
  split
  · exact fixOutcome_outside ..
  · split
    · exact fixOutcome_outside ..
    · exact done_outside _

theorem installCurve_outside (c : Curve) (s : State) : (installCurve c s).outside = s.outside := calibrationRecord_outside ..

theorem finishCurve_outside (ws : List Word) (s : State) : (finishCurve ws s).outside = s.outside := by
  unfold finishCurve
  dsimp only
  split
  · exact fixOutcome_outside ..
  · exact (done_outside _).trans (installCurve_outside ..)

theorem storeTemperature_outside (hold step interval : Nat) (bs : List Int) (s : State) :
    (storeTemperature hold step interval bs s).outside = s.outside := by
  have hbounds (u : State) : (if bs = s.temp.bounds then u else changeBounds bs u).outside = u.outside := by
    split
    · rfl
    · exact calibrationRecord_outside ..
  unfold storeTemperature
  dsimp only
  rw [hbounds]
  split <;> rfl

theorem storeDrift_outside (window maxStep lower upper : Nat) (enables : Tab 4 Bool) (s : State) :
    (storeDrift window maxStep lower upper enables s).outside = s.outside := by
  rw [storeDrift_eq, outside_of_settings (narrowAll_settings _)]
  unfold driftFields
  dsimp only
  split <;> rfl

theorem armByOrder_outside (ps : List Word) (s : State) : (armByOrder ps s).outside = s.outside := by
  unfold armByOrder
  split
  · exact fixOutcome_outside ..
  · exact (answerClamped_outside ..).trans (outside_of_settings (armCapture_settings ..))

theorem halt_outside (s : State) : (halt s).outside = s.outside := outside_of_settings (halt_settings s)

theorem orderStop_outside (len : Nat) (ps : List Word) (s : State) : (orderStop len ps s).outside = s.outside := by
  have hdrain (u : State) : (testDrain (holdStop len u)).outside = u.outside :=
    (outside_of_settings (testDrain_settings _)).trans (outside_of_settings (setReader_settings ..))
  unfold orderStop
  split
  · exact hdrain _
  · exact hdrain _
  · exact (done_outside _).trans (halt_outside s)
  · exact done_outside s

theorem clockBreak_outside (s : State) : (clockBreak s).outside = s.outside := by
  refine outside_of_settings ?_
  unfold clockBreak
  split
  · simp
  · rfl

theorem orderStart_outside (len : Nat) (ps : List Word) (s : State) : (orderStart len ps s).outside = s.outside := by
  refine ifReady_outside ?_
  split
  · exact fixOutcome_outside ..
  · exact done_outside _

/-- No order touches memory or the commands waiting. -/
theorem runOrder_answers {k : OrderKind} {f : Nat → List Word → State → State} (h : ∀ len ps, (f len ps s).outside = s.outside) :
    ∃ t, runOrder k f s = .next t ∧ t.outside = s.outside := by
  unfold runOrder
  split
  next len ps _ => exact ⟨_, rfl, (outside_of_settings (settleDown_settings _)).trans (h len ps)⟩
  next => exact ⟨s, rfl, rfl⟩

theorem answerNext_answers {u : State} (h : u.outside = s.outside) : ∃ t, answerNext u = .next t ∧ t.outside = s.outside :=
  ⟨_, rfl, (outside_of_settings (settleDown_settings u)).trans h⟩

end

theorem controlWrite_outside (enable restart attn : Bool) (s : State) :
    (controlWrite enable restart attn s).outside = s.outside := by
  have hbits (e a : Bool) : ({ s with regs.enable := e, regs.attnEn := a } : State).outside = s.outside := rfl
  unfold controlWrite
  dsimp only
  split
  · split
    · split
      · exact (outside_of_settings (softRestart_settings _)).trans (hbits _ _)
      · rfl
    · exact (outside_of_settings (enablePart_settings _)).trans (hbits _ _)
  · split
    · exact (outside_of_settings (disablePart_settings _)).trans (hbits _ _)
    · rfl

/-- What a completed access brings about beyond memory (R162). -/
theorem completed_outside (r : Requester) (ws : List Word) (s : State) :
    (pfProgress (resumeProgress (completeFor r ws s))).outside = s.outside := outside_of_settings (by simp)

/-- The completion of an access leaves the commands waiting. -/
theorem takeCompletion_pending (data : List Word) (s : State) : (takeCompletion data s).pending = s.pending := by
  unfold takeCompletion
  split
  · rfl
  · split
    · rfl
    · exact congrArg Prod.snd (completed_outside ..)

theorem takeError_outside (s : State) : (takeError s).outside = s.outside := outside_of_settings (takeError_settings s)

theorem pfiAsserted_outside (s : State) : ∃ t, execPfiAsserted s = .next t ∧ t.outside = s.outside := by
  have hbegin (u : State) : (beginPowerFail u).outside = u.outside := outside_of_settings (beginPowerFail_settings u)
  refine answerNext_answers ?_
  split
  · exact hbegin _
  · rfl

theorem pfiReleased_outside (s : State) : ∃ t, execPfiReleased s = .next t ∧ t.outside = s.outside := by
  have hleave (u : State) : (leavePowerFail u).outside = u.outside := outside_of_settings (leavePowerFail_settings u)
  refine answerNext_answers ?_
  split
  · exact hleave _
  · rfl

theorem loopOnset_outside (l : Lane) (s : State) : ∃ t, execLoopOnset l s = .next t ∧ t.outside = s.outside := by
  have honset (u : State) : (loopOnset l u).outside = u.outside := outside_of_settings (loopOnset_settings ..)
  refine answerNext_answers ?_
  split
  · exact honset _
  · rfl

theorem loopEnd_outside (l : Lane) (s : State) : ∃ t, execLoopEnd l s = .next t ∧ t.outside = s.outside := by
  have hend (u : State) : (loopEndContext l s.clock false u).outside = u.outside :=
    outside_of_settings (loopEndContext_settings ..)
  refine answerNext_answers ?_
  split
  · split
    · rfl
    · rfl
    · dsimp only
      split
      · exact hend _
      · rfl
  · rfl

theorem stuckExpiry_outside (l : Lane) (s : State) : ∃ t, execStuckExpiry l s = .next t ∧ t.outside = s.outside := by
  have hend (u : State) : (loopEndContext l s.clock true u).outside = u.outside :=
    outside_of_settings (loopEndContext_settings ..)
  refine answerNext_answers ?_
  split
  · split
    · dsimp only
      split
      · exact hend _
      · rfl
    · rfl
  · rfl

theorem fieldEdge_outside (l : Line) (v : Bool) (s : State) : ∃ t, execFieldEdge l v s = .next t ∧ t.outside = s.outside := by
  have hand (e : TrigEvent) (u : State) : (handEvent e u).outside = u.outside := outside_of_settings (handEvent_settings ..)
  refine answerNext_answers ?_
  split
  · split
    · split
      · rfl
      · exact hand _ _
    · rfl
  · rfl

theorem registerWrite_outside (reg : WindowReg) (v : Word) (s : State) :
    ∃ t, execRegisterWrite reg v s = .next t ∧ t.outside = s.outside := by
  unfold execRegisterWrite
  split
  · exact ⟨s, rfl, rfl⟩
  · exact ⟨s, rfl, rfl⟩
  · refine ⟨_, rfl, ?_⟩
    split <;> rfl

theorem handover_outside (v : Word) (s : State) : ∃ t, execHandover v s = .next t ∧ t.outside = s.outside := by
  unfold execHandover
  dsimp only
  split
  all_goals
    refine answerNext_answers ?_
    rfl

theorem idleDeadline_outside (l : Lane) (k : Slot) (s : State) : ∃ t, execIdleDeadline l k s = .next t ∧ t.outside = s.outside := by
  refine answerNext_answers ?_
  split
  · split
    · exact outside_of_settings (closeTest_settings ..)
    · rfl
  · rfl

theorem drainTimeout_outside (s : State) : ∃ t, execDrainTimeout s = .next t ∧ t.outside = s.outside := by
  refine answerNext_answers ?_
  split
  · split
    · exact outside_of_settings (by simp)
    · rfl
  · rfl

theorem quietEntry_outside (s : State) : ∃ t, execQuietEntry s = .next t ∧ t.outside = s.outside := by
  refine answerNext_answers ?_
  split
  · split <;> rfl
  · rfl

theorem settleEnd_outside (s : State) : ∃ t, execSettleEnd s = .next t ∧ t.outside = s.outside := by
  refine answerNext_answers ?_
  split
  · split <;> rfl
  · rfl

theorem timerExpiry_outside (n : SetId) (s : State) : ∃ t, execTimerExpiry n s = .next t ∧ t.outside = s.outside := by
  have hand (e : TrigEvent) (u : State) : (handEvent e u).outside = u.outside := outside_of_settings (handEvent_settings ..)
  refine answerNext_answers ?_
  split
  · split
    · exact hand _ _
    · rfl
  · rfl

theorem pulseStart_outside (l : Line) (s : State) : ∃ t, execPulseStart l s = .next t ∧ t.outside = s.outside := by
  refine answerNext_answers ?_
  split
  · split <;> rfl
  · rfl

theorem pulseEnd_outside (l : Line) (s : State) : ∃ t, execPulseEnd l s = .next t ∧ t.outside = s.outside := by
  refine answerNext_answers ?_
  split <;> rfl

theorem cascade_outside (n : Nat) (s : State) : ∃ t, execCascade n s = .next t ∧ t.outside = s.outside := by
  have hrun (e : TrigEvent) (u : State) : (runCascade e u).1.outside = u.outside := outside_of_settings (runCascade_settings ..)
  refine answerNext_answers ?_
  split
  · split
    · exact hrun _ _
    · rfl
  · rfl

theorem sweep_outside (s : State) : ∃ t, execSweep s = .next t ∧ t.outside = s.outside := by
  refine answerNext_answers ?_
  split
  · split <;> rfl
  · rfl

theorem flushTimeout_outside (s : State) : ∃ t, execFlushTimeout s = .next t ∧ t.outside = s.outside := by
  refine answerNext_answers ?_
  split
  · split
    · split <;> rfl
    · rfl
  · rfl

theorem takeResultPage_outside (s : State) : ∃ t, execTakeResultPage s = .next t ∧ t.outside = s.outside := by
  refine answerNext_answers ?_
  split
  · exact outside_of_settings (takeResultHead_settings s)
  · rfl

theorem takeOrderPage_outside (s : State) : ∃ t, execTakeOrderPage s = .next t ∧ t.outside = s.outside := by
  refine answerNext_answers ?_
  split
  · exact outside_of_settings (takeOrderHead_settings s)
  · rfl

theorem pendingHandover_outside (s : State) : ∃ t, execPendingHandover s = .next t ∧ t.outside = s.outside := by
  refine answerNext_answers ?_
  split
  · exact outside_of_settings (pendingHandover_settings s)
  · rfl

theorem loadClassTableDone_outside (s : State) : ∃ t, execLoadClassTableDone s = .next t ∧ t.outside = s.outside := by
  unfold execLoadClassTableDone
  split
  · exact answerNext_answers (finishClassTable_outside ..)
  · exact ⟨s, rfl, rfl⟩

theorem loadTemperatureCurveDone_outside (s : State) : ∃ t, execLoadTemperatureCurveDone s = .next t ∧ t.outside = s.outside := by
  unfold execLoadTemperatureCurveDone
  split
  · exact answerNext_answers (finishCurve_outside ..)
  · exact ⟨s, rfl, rfl⟩

theorem orderSetTemperature_outside (len : Nat) (ps : List Word) (s : State) :
    (orderSetTemperature len ps s).outside = s.outside := by
  refine ifLength_outside ?_
  split
  · exact fixOutcome_outside ..
  · exact ifFields_outside ((answerClamped_outside ..).trans (storeTemperature_outside ..))

theorem orderSetDrift_outside (len : Nat) (ps : List Word) (s : State) : (orderSetDrift len ps s).outside = s.outside := by
  refine ifLength_outside ?_
  split
  · exact fixOutcome_outside ..
  · exact (answerClamped_outside ..).trans (storeDrift_outside ..)

theorem orderCapture_outside (len : Nat) (ps : List Word) (s : State) : (orderCapture len ps s).outside = s.outside := by
  unfold orderCapture
  split
  · exact fixOutcome_outside ..
  · exact ifLength_outside (ifFields_outside (armByOrder_outside ps s))

theorem orderLockCalibration_outside (len : Nat) (ps : List Word) (s : State) :
    (orderLockCalibration len ps s).outside = s.outside := by
  unfold orderLockCalibration
  rw [done_outside]
  split
  · rfl
  · exact calibrationRecord_outside ..

theorem orderSetQuiet_outside (len : Nat) (ps : List Word) (s : State) : (orderSetQuiet len ps s).outside = s.outside := by
  have hwake (u : State) : (wake u).outside = u.outside := outside_of_settings (wake_settings u)
  refine ifLength_outside (ifFields_outside ((answerClamped_outside ..).trans ?_))
  split
  · rfl
  · exact hwake _

theorem orderControlTriggers_outside (len : Nat) (ps : List Word) (s : State) :
    (orderControlTriggers len ps s).outside = s.outside :=
  ifLength_outside ((done_outside _).trans (outside_of_settings (by simp)))

/-- Every command but the completion of an access answers a next state with the same memory and commands waiting. -/
theorem exec_outside (c : Instr) (s : State) (hc : ∀ data, c ≠ .accessComplete data) :
    ∃ t, exec c s = .next t ∧ t.outside = s.outside := by
  cases c with
  | hardReset => exact ⟨hardReset s, rfl, rfl⟩
  | enable restart attn => exact answerNext_answers (controlWrite_outside ..)
  | disable restart attn => exact answerNext_answers (controlWrite_outside ..)
  | softRestart attn => exact answerNext_answers (controlWrite_outside ..)
  | attnEn v => exact answerNext_answers (controlWrite_outside ..)
  | registerWrite reg v => exact registerWrite_outside reg v s
  | handover v => exact handover_outside v s
  | statusClear v => exact answerNext_answers (outside_of_settings (statusWrite_settings ..))
  | busFaultClear v => exact answerNext_answers (outside_of_settings (statusWrite_settings ..))
  | pfiAsserted => exact pfiAsserted_outside s
  | pfiReleased => exact pfiReleased_outside s
  | loopOnset l => exact loopOnset_outside l s
  | loopEnd l => exact loopEnd_outside l s
  | stuckExpiry l => exact stuckExpiry_outside l s
  | sampleFrame f => exact answerNext_answers (outside_of_settings (takeFrame_settings ..))
  | linkLoss => exact answerNext_answers (outside_of_settings (loseLink_settings ..))
  | pollRound => exact answerNext_answers (outside_of_settings (startRound_settings ..))
  | probeAnswer a => exact answerNext_answers (outside_of_settings (takeAnswer_settings ..))
  | answerTimeout => exact answerNext_answers (outside_of_settings (answerTimedOut_settings ..))
  | fieldEdge l v => exact fieldEdge_outside l v s
  | closeDeadline l => exact answerNext_answers (outside_of_settings (closeTest_settings ..))
  | idleDeadline l k => exact idleDeadline_outside l k s
  | drainTimeout => exact drainTimeout_outside s
  | quietEntry => exact quietEntry_outside s
  | settleEnd => exact settleEnd_outside s
  | timerExpiry n => exact timerExpiry_outside n s
  | pulseStart l => exact pulseStart_outside l s
  | pulseEnd l => exact pulseEnd_outside l s
  | cascade n => exact cascade_outside n s
  | sweep => exact sweep_outside s
  | flushTimeout => exact flushTimeout_outside s
  | accessComplete data => exact absurd rfl (hc data)
  | busError => exact answerNext_answers (takeError_outside s)
  | takeResultPage => exact takeResultPage_outside s
  | takeOrderPage => exact takeOrderPage_outside s
  | pendingHandover => exact pendingHandover_outside s
  | loadClassTableDone => exact loadClassTableDone_outside s
  | loadTemperatureCurveDone => exact loadTemperatureCurveDone_outside s
  | nop => exact runOrder_answers fun _ _ => done_outside s
  | setExchange => exact runOrder_answers fun _ _ => ifLength_outside (answerClamped_outside ..)
  | start => exact runOrder_answers fun len ps => orderStart_outside len ps s
  | stop => exact runOrder_answers fun len ps => orderStop_outside len ps s
  | halt => exact runOrder_answers fun _ _ => (done_outside _).trans (halt_outside s)
  | setClock => exact runOrder_answers fun _ _ => ifLength_outside (ifFields_outside ((done_outside _).trans (clockBreak_outside s)))
  | setQuiet => exact runOrder_answers fun len ps => orderSetQuiet_outside len ps s
  | reportStatus => exact runOrder_answers fun _ _ => (done_outside _).trans (createRecord_outside ..)
  | setSiteGeometry =>
    exact runOrder_answers fun _ _ => ifReady_outside <| ifUnlocked_outside <| ifLength_outside <| ifFields_outside <| answerClamped_outside ..
  | setChannelMask => exact runOrder_answers fun _ _ => ifReady_outside <| ifLength_outside <| done_outside _
  | setDetection => exact runOrder_answers fun _ _ => ifReady_outside <| ifLength_outside <| answerClamped_outside ..
  | capture => exact runOrder_answers fun len ps => orderCapture_outside len ps s
  | cancelCapture => exact runOrder_answers fun _ _ => (done_outside _).trans (outside_of_settings (stopCapture_settings ..))
  | setWeighing => exact runOrder_answers fun _ _ => ifReady_outside <| ifLength_outside <| answerClamped_outside ..
  | setProbes => exact runOrder_answers fun _ _ => ifLength_outside <| ifFields_outside <| done_outside _
  | loadTemperatureCurve => exact runOrder_answers fun _ _ => ifUnlocked_outside <| ifFields_outside <| beginLoad_outside ..
  | selectBuiltInCurve =>
    exact runOrder_answers fun _ _ => ifUnlocked_outside <| (done_outside _).trans (installCurve_outside ..)
  | setTemperature => exact runOrder_answers fun len ps => orderSetTemperature_outside len ps s
  | loadClassTable => exact runOrder_answers fun _ _ => ifFields_outside <| beginLoad_outside ..
  | selectBuiltInClassTable => exact runOrder_answers fun _ _ => done_outside _
  | setAssembly => exact runOrder_answers fun _ _ => ifReady_outside <| ifLength_outside <| answerClamped_outside ..
  | setChannelFactors =>
    exact runOrder_answers fun _ _ => ifReady_outside <| ifUnlocked_outside <| ifLength_outside <|
      (answerClamped_outside ..).trans (calibrationRecord_outside ..)
  | setDrift => exact runOrder_answers fun len ps => orderSetDrift_outside len ps s
  | freezeDrift => exact runOrder_answers fun _ _ => done_outside _
  | resumeDrift => exact runOrder_answers fun _ _ => done_outside _
  | resetDrift => exact runOrder_answers fun _ _ => ifUnlocked_outside <| (done_outside _).trans (calibrationRecord_outside ..)
  | restoreDrift =>
    exact runOrder_answers fun _ _ => ifUnlocked_outside <| ifLength_outside <|
      (answerClamped_outside ..).trans (calibrationRecord_outside ..)
  | reportCalibration => exact runOrder_answers fun _ _ => (done_outside _).trans (createRecord_outside ..)
  | lockCalibration => exact runOrder_answers fun len ps => orderLockCalibration_outside len ps s
  | setTrigger => exact runOrder_answers fun _ _ => ifLength_outside <| ifFields_outside <| answerClamped_outside ..
  | setFieldLines => exact runOrder_answers fun _ _ => ifLength_outside <| ifFields_outside <| done_outside _
  | controlTriggers => exact runOrder_answers fun len ps => orderControlTriggers_outside len ps s

/-- Settles O3: every command answers a next state; memory is written where an access completes, and nowhere else. -/
theorem everyCommandAnswersNext : Obligations.EveryCommandAnswersNext := by
  intro c s
  by_cases hc : ∀ data, c ≠ .accessComplete data
  · obtain ⟨t, ht, hout⟩ := exec_outside c s hc
    exact ⟨t, ht, congrArg Prod.snd hout, fun _ => congrArg Prod.fst hout⟩
  · push Not at hc
    obtain ⟨data, rfl⟩ := hc
    refine ⟨_, rfl, ?_, fun h => absurd rfl (h data)⟩
    have hsettle := outside_of_settings (settleDown_settings (takeCompletion data s))
    exact (congrArg Prod.snd hsettle).trans (takeCompletion_pending data s)

/-! ### The reset state -/

/-- Settles O5: the reset state's values by computation, and the invariants it meets. -/
theorem resetValues : Obligations.ResetValues := by
  refine ⟨⟨fun _ => rfl, by decide, by decide, by decide, by decide, by decide, by decide, by decide, by decide, by decide,
      by decide, by decide, by decide, by decide, by decide, by decide, by decide, by decide, by decide⟩,
    by decide, reset_portsConsistent, reset_driftBounded, reset_bounded, reset_pagesOwned,
    reset_runConsistent, reset_noCurveUnderLock, reset_writerConsistent⟩

/-! ### The loop unit -/

/-- The answer of a command by its own effect. -/
theorem answerNext_eq {u v : State} (h : u = v) : answerNext u = .next (settleDown v) := by
  rw [h]
  rfl

theorem tracked_iff (s : State) (l : Lane) : s.tracked l = true ↔ l.val < s.site.laneCount ∧ s.run.works = true := by
  rw [State.tracked, Bool.and_eq_true, decide_eq_true_eq]

theorem handEvent_works (e : TrigEvent) (s : State) (h : s.run.works = true) :
    handEvent e s = { s with trig.waiting := s.trig.waiting ++ [e] } := by
  rw [handEvent, if_pos h]

/-- Where no context opens and the part is not in QUIET, an onset makes the loop OCCUPIED and is handed on (R7). -/
theorem loopOnset_closed (l : Lane) (s : State) (hopen : s.mayOpen = false) (hquiet : s.run ≠ .quiet)
    (hworks : s.run.works = true) :
    loopOnset l s
      = { s with loops := s.loops.set l (.occupied s.clock 0), trig.waiting := s.trig.waiting ++ [.loopOnset l s.clock] } := by
  have hwake : wake (setLoop l (.occupied s.clock 0) s) = setLoop l (.occupied s.clock 0) s := if_neg fun h => hquiet h.1
  unfold loopOnset
  dsimp only
  rw [hopen, if_neg (by decide), hwake]
  exact handEvent_works _ (setLoop l (.occupied s.clock 0) s) hworks

theorem untracked_of {s : State} {l : Lane} (h : s.run.works = false ∨ s.site.laneCount ≤ l.val) : ¬s.tracked l = true := by
  rw [tracked_iff]
  rintro ⟨hlane, hworks⟩
  obtain h | h := h
  · exact absurd (h.symm.trans hworks) (by decide)
  · omega

/-- Settles O22: the loop unit's table, row by row. -/
theorem loopUnitFollowsItsInput : Obligations.LoopUnitFollowsItsInput := by
  refine ⟨fun l s hrun hlane hloop => ?_, fun l onset n s hrun hlane hloop => ?_, fun l onset n s hrun hlane hloop => ?_,
    fun l s h => ?_, fun l onset s hworks hlane hloop => ?_⟩
  · have hworks : s.run.works = true := by obtain h | h := hrun <;> rw [h] <;> rfl
    have hopens : s.run.opens = false := by obtain h | h := hrun <;> rw [h] <;> rfl
    have hquiet : s.run ≠ .quiet := by obtain h | h := hrun <;> rw [h] <;> decide
    have htracked := (tracked_iff s l).mpr ⟨hlane, hworks⟩
    show execLoopOnset l s = _
    unfold execLoopOnset
    dsimp only
    rw [if_pos ⟨htracked, hloop⟩]
    have hmay : s.mayOpen = false := by rw [State.mayOpen, hopens]; rfl
    exact answerNext_eq (loopOnset_closed l { s with pins.lp := s.pins.lp.set l true } hmay hquiet hworks)
  · have htracked := (tracked_iff s l).mpr ⟨hlane, by rw [hrun]; rfl⟩
    have hmeasures : s.run.measures = false := by rw [hrun]; rfl
    show execLoopEnd l s = _
    unfold execLoopEnd
    dsimp only
    rw [if_pos htracked]
    obtain h | h := hloop
    · rw [h]
      dsimp only
      rw [hmeasures]
      rfl
    · rw [h]
      rfl
  · have htracked := (tracked_iff s l).mpr ⟨hlane, by rw [hrun]; rfl⟩
    have hmeasures : s.run.measures = false := by rw [hrun]; rfl
    show (_ → execStuckExpiry l s = _) ∧ (_ → execStuckExpiry l s = _)
    unfold execStuckExpiry
    rw [hloop]
    dsimp only
    refine ⟨fun h => ?_, fun h => ?_⟩
    · rw [if_pos ⟨htracked, h⟩, hmeasures]
      rfl
    · rw [if_neg (fun hlimit => absurd hlimit.2 (Nat.not_le.mpr h))]
      rfl
  · have huntracked := untracked_of h
    refine ⟨?_, ?_⟩
    · show execLoopOnset l s = _
      unfold execLoopOnset
      dsimp only
      rw [if_neg fun hl => huntracked hl.1]
      rfl
    · show execLoopEnd l s = _
      unfold execLoopEnd
      dsimp only
      rw [if_neg huntracked]
      rfl
  · have htracked := (tracked_iff s l).mpr ⟨hlane, hworks⟩
    show execLoopEnd l s = _
    unfold execLoopEnd
    dsimp only
    rw [if_pos htracked, hloop]
    rfl

end Sys2Proof.Machine
end

section
/-!
PROOFS. The port: the arbiter's choice, what a granted access does, and the words of memory it can change (R148, R162).
-/

namespace Sys2Proof.Machine

/-! ### The arbiter -/

section
variable {s : State} {r : Requester}

theorem request_grant (s : State) (g : Option Requester) (r : Requester) :
    State.request { s with ex.grant := g } r = s.request r := by
  cases r <;> rfl

/-- Every requester as fixed priority orders them. -/
theorem forall_requester {p : Requester → Prop} :
    (∀ q, p q) ↔ p .recordWriter ∧ p .traceWriter ∧ p .orderReader ∧ p .sweeper := by
  refine ⟨fun h => ⟨h _, h _, h _, h _⟩, ?_⟩
  rintro ⟨h1, h2, h3, h4⟩ q
  cases q <;> assumption

/-- The requester chosen waits, and none of higher priority does. -/
theorem highest_some (h : s.highest = some r) :
    (s.request r).isSome = true ∧ ∀ q, (s.request q).isSome = true → r.place ≤ q.place := by
  rw [forall_requester]
  unfold State.highest at h
  split at h
  · cases h; simp_all [State.request, Requester.place]
  · split at h
    · cases h; simp_all [State.request, Requester.place]
    · split at h
      · cases h; simp_all [State.request, Requester.place]
      · split at h
        · cases h; simp_all [State.request, Requester.place]
        · cases h

/-- None is chosen exactly when none waits. -/
theorem highest_none : s.highest = none ↔ ∀ q, s.request q = none := by
  rw [forall_requester]
  unfold State.highest State.request
  cases s.writerRequest with
  | some a => simp
  | none => cases s.traceRequest with
    | some a => simp
    | none => cases s.readerRequest with
      | some a => simp
      | none => cases s.sweeperRequest <;> simp

/-- Two requesters of the same priority are one. -/
theorem place_injective {q : Requester} (h : r.place = q.place) : r = q := by
  cases r <;> cases q <;> first | rfl | cases h

/-- The highest requester that waits is the one chosen. -/
theorem highest_eq (hr : (s.request r).isSome = true) (hq : ∀ q, (s.request q).isSome = true → r.place ≤ q.place) :
    s.highest = some r := by
  cases h : s.highest with
  | none => simp [highest_none.mp h r] at hr
  | some p =>
    obtain ⟨hp, hlow⟩ := highest_some h
    rw [place_injective (Nat.le_antisymm (hlow r hr) (hq p hp))]

/-- A grant whose access still waits stands. -/
theorem arbitrate_kept (hg : s.ex.grant = some r) (hr : (s.request r).isSome = true) : arbitrate s = s := by
  unfold arbitrate
  rw [hg]
  exact if_pos hr

/-- Without a grant that stands, the highest requester gets the port. -/
theorem arbitrate_free (h : ∀ r, s.ex.grant = some r → s.request r = none) :
    arbitrate s = { s with ex.grant := s.highest } := by
  unfold arbitrate
  split
  · rename_i r hg
    rw [if_neg (by simp [h r hg])]
  · rfl

/-- The work that requesters take up leaves the grant to the arbiter. -/
theorem settleDown_arbitrates (s : State) : ∃ u : State, settleDown s = arbitrate u ∧ u.ex.grant = s.ex.grant := by
  refine ⟨_, rfl, ?_⟩
  obtain ⟨_, _, _, h1⟩ := advanceSweeper_frame (advanceTrace (advanceWriter (quietUpdate s)))
  obtain ⟨_, h2⟩ := advanceTrace_frame (advanceWriter (quietUpdate s))
  obtain ⟨_, _, h3⟩ := advanceWriter_frame (quietUpdate s)
  rw [h1, h2, h3]
  rfl

/-- The arbiter changes no request. -/
theorem request_arbitrate (s : State) (r : Requester) : (arbitrate s).request r = s.request r := by
  obtain ⟨g, h⟩ := arbitrate_frame s
  rw [h, request_grant]

/-- What the arbiter answers about the port. -/
theorem arbitrate_grant (s : State) :
    (∀ r, s.ex.grant = some r → ((arbitrate s).request r).isSome = true → (arbitrate s).ex.grant = some r)
    ∧ (∀ r, s.ex.grant = none → (arbitrate s).ex.grant = some r →
        ((arbitrate s).request r).isSome = true ∧ ∀ q, ((arbitrate s).request q).isSome = true → r.place ≤ q.place)
    ∧ ((arbitrate s).ex.grant = none → ∀ q, (arbitrate s).request q = none) := by
  simp only [request_arbitrate]
  refine ⟨fun r hg hr => ?_, fun r hg hr => ?_, fun h => ?_⟩
  · rw [arbitrate_kept hg hr, hg]
  · rw [arbitrate_free (by simp [hg])] at hr
    exact highest_some hr
  · by_cases hk : ∃ r, s.ex.grant = some r ∧ (s.request r).isSome = true
    · obtain ⟨r, hg, hr⟩ := hk
      rw [arbitrate_kept hg hr, hg] at h
      cases h
    · rw [arbitrate_free fun r hg => by
        cases hr : s.request r with
        | none => rfl
        | some a => exact absurd ⟨r, hg, by simp [hr]⟩ hk] at h
      exact highest_none.mp h

end

/-! ### Completions and errors -/

theorem takeCompletion_granted {data : List Word} {s : State} {r : Requester} {a : Access} (hg : s.ex.grant = some r)
    (ha : s.request r = some a) :
    takeCompletion data s = pfProgress (resumeProgress
      (completeFor r (a.perform data s.mem).2 { s with mem := (a.perform data s.mem).1, ex.grant := none })) := by
  unfold takeCompletion
  rw [hg]
  dsimp only
  rw [ha]

theorem takeCompletion_free {data : List Word} {s : State} (h : ∀ r, s.ex.grant = some r → s.request r = none) :
    takeCompletion data s = s := by
  unfold takeCompletion
  split
  · rfl
  · rename_i r hg
    rw [h r hg]

theorem pfProgress_idle {s : State} (h : s.powerIdle = true) : pfProgress s = s := by
  unfold pfProgress
  rw [Option.isNone_iff_eq_none.mp h]

theorem resumeProgress_idle {s : State} (h : s.ex.resuming = false) : resumeProgress s = s := by
  unfold resumeProgress
  rw [h]
  rfl

/-- Settles O14: the arbiter's choice, part by part, and the steps behind a completion and an error. -/
theorem grantGoesToHighest : Obligations.GrantGoesToHighest := by
  refine ⟨fun s => ?_, fun s => ⟨rfl, fun r => arbitrate_kept, fun h => ⟨fun r hr hq => ?_, fun hq => ?_⟩⟩,
    fun data s => ⟨fun r a hg ha => ?_, fun h => ?_, fun a ws => rfl, fun a n => rfl⟩,
    fun s => ⟨fun r hg => ?_, fun hg => ?_, pfProgress_idle, resumeProgress_idle⟩⟩
  · obtain ⟨u, hu, hg⟩ := settleDown_arbitrates s
    rw [hu, ← hg]
    exact arbitrate_grant u
  · rw [arbitrate_free h, highest_eq hr hq]
  · rw [arbitrate_free h, highest_none.mpr hq]
  · exact answerNext_eq (takeCompletion_granted hg ha)
  · exact answerNext_eq (takeCompletion_free h)
  · show answerNext (takeError s) = _
    unfold takeError
    rw [hg]
    rfl
  · show answerNext (takeError s) = _
    unfold takeError
    rw [hg]
    rfl

/-! ### The words of an access -/

theorem Memory.wf_writeWord {m : List Host.Cell} {a : Nat} {w : Word} (h : Memory.wf m = true) :
    Memory.wf (Memory.writeWord m a w) = true := Memory.wf_writeWords m a [w] h

/-- A word written changes its four bytes at most. -/
theorem Memory.read_writeWord {m : List Host.Cell} {a b : Nat} {w : Word} (h : Memory.wf m = true)
    (hb : b < a ∨ a + 4 ≤ b) : Memory.read (Memory.writeWord m a w) b = Memory.read m b := by
  have h1 := Memory.wf_write m a (byteOf w 0) h
  have h2 := Memory.wf_write _ (a + 1) (byteOf w 1) h1
  have h3 := Memory.wf_write _ (a + 2) (byteOf w 2) h2
  unfold Memory.writeWord
  rw [Memory.read_write _ _ _ _ h3, Memory.read_write _ _ _ _ h2, Memory.read_write _ _ _ _ h1, Memory.read_write _ _ _ _ h,
    if_neg (by omega), if_neg (by omega), if_neg (by omega), if_neg (by omega)]

/-- Words written change no byte outside them. -/
theorem Memory.read_writeWords {m : List Host.Cell} {a b : Nat} {ws : List Word} (h : Memory.wf m = true)
    (hb : b < a ∨ a + 4 * ws.length ≤ b) : Memory.read (Memory.writeWords m a ws) b = Memory.read m b := by
  induction ws generalizing m a with
  | nil => rfl
  | cons w rest ih =>
    rw [List.length_cons] at hb
    rw [Memory.writeWords, ih (Memory.wf_writeWord h) (by omega), Memory.read_writeWord h (by omega)]

/-- Board memory after a completed access. -/
theorem exec_accessComplete_mem {data : List Word} {s t : State} {r : Requester} {a : Access} (hg : s.ex.grant = some r)
    (ha : s.request r = some a) (h : exec (.accessComplete data) s = .next t) : t.mem = (a.perform data s.mem).1 := by
  have ht : settleDown (takeCompletion data s) = t := by injection h
  have hmem (ws : List Word) (u : State) : (pfProgress (resumeProgress (completeFor r ws u))).mem = u.mem :=
    congrArg Prod.fst (completed_outside r ws u)
  rw [← ht, settleDown_mem, takeCompletion_granted hg ha, hmem]

/-- Settles O4: the words written are those of the access, at their own addresses. -/
theorem completedAccessStaysInItsWords : Obligations.CompletedAccessStaysInItsWords := by
  intro data s t r hwf hg h
  refine ⟨fun a ws ha b hb => ?_, fun a n ha b hb => ?_⟩
  · rw [exec_accessComplete_mem hg ha h]
    exact Memory.read_writeWords hwf hb
  · rw [exec_accessComplete_mem hg ha h]
    exact Memory.read_writeWords hwf (by rw [List.length_take]; omega)

end Sys2Proof.Machine
end

section
/-!
PROOFS. Hits, row axles and their lists: the order they enter in, pairing, matching and expiry (R30, R31, R39 to R47).
-/

namespace Sys2Proof.Machine

/-! ### Counters and differences -/

theorem satInc_eq (n : Nat) : satInc n = raised n 1 := by
  unfold satInc raised counterMax
  split <;> omega

theorem satAdd_eq (n k : Nat) : satAdd n k = raised n k := Nat.min_comm ..

theorem PerRow.set_get {α : Type} (p : PerRow α) (r : Row) : p.set r (p.get r) = p := by
  cases r <;> rfl

theorem PerRow.get_set {α : Type} (p : PerRow α) (r q : Row) (v : α) : (p.set r v).get q = if q = r then v else p.get q := by
  cases r <;> cases q <;> rfl

theorem setHits_same (r : Row) (s : State) : setHits r (s.det.hits.get r) s = s := by
  unfold setHits
  rw [PerRow.set_get]

/-! ### Entering the row-A list (R43) -/

section
variable {p : RowAxle} {pre post : List WaitingAxle} {s : State}

/-- A row-A axle stands behind those of no higher centroid. -/
theorem insertWaiting_eq (n : Nat) (hpre : ∀ w ∈ pre, w.part.centroid ≤ p.centroid)
    (hpost : ∀ w, post.head? = some w → p.centroid < w.part.centroid) :
    insertWaiting { id := n, part := p } (pre ++ post) = pre ++ { id := n, part := p } :: post := by
  induction pre with
  | nil =>
    cases post with
    | nil => rfl
    | cons w rest =>
      have := hpost w rfl
      show (if _ then _ else _) = _
      rw [if_neg (by dsimp only; omega)]
      rfl
  | cons w rest ih =>
    rw [List.cons_append, insertWaiting, if_pos (hpre w (by simp)), ih fun v hv => hpre v (by simp [hv]), List.cons_append]

theorem enterRowA_free (hpre : ∀ w ∈ pre, w.part.centroid ≤ p.centroid)
    (hpost : ∀ w, post.head? = some w → p.centroid < w.part.centroid) (h : s.axle.rowA = pre ++ post) (hlen : s.axle.rowA.length < 16) :
    enterRowA p s = assignAxle (handedAxle s.veh.nextId (some p) none .waiting p.flags)
      { s with veh.nextId := s.veh.nextId + 1, axle.rowA := pre ++ { id := s.veh.nextId, part := p } :: post } := by
  have hfull : decide (rowListMax ≤ s.axle.rowA.length) = false := decide_eq_false (Nat.not_le.mpr hlen)
  rw [← insertWaiting_eq _ hpre hpost, ← h]
  unfold enterRowA
  rw [hfull]
  cases hr : s.axle.rowA with
  | nil => rfl
  | cons low rest => rfl

theorem enterRowA_pushing {low : WaitingAxle} (hpre : ∀ w ∈ pre, w.part.centroid ≤ p.centroid)
    (hpost : ∀ w, post.head? = some w → p.centroid < w.part.centroid) (h : s.axle.rowA = low :: (pre ++ post))
    (hlen : 16 ≤ s.axle.rowA.length) (hlow : low.part.centroid ≤ p.centroid) :
    enterRowA p s = assignAxle (handedAxle s.veh.nextId (some p) none .waiting p.flags) (completeAxle low.id asSingleRow
      { s with veh.nextId := s.veh.nextId + 1, axle.rowA := pre ++ { id := s.veh.nextId, part := p } :: post }) := by
  have hfull : decide (rowListMax ≤ s.axle.rowA.length) = true := decide_eq_true hlen
  have hless : decide (p.centroid < low.part.centroid) = false := decide_eq_false (Nat.not_lt.mpr hlow)
  rw [← insertWaiting_eq _ hpre hpost]
  unfold enterRowA
  rw [hfull, h]
  dsimp only
  rw [hless]
  rfl

theorem enterRowA_lowest {low : WaitingAxle} {rest : List WaitingAxle} (h : s.axle.rowA = low :: rest)
    (hlen : 16 ≤ s.axle.rowA.length) (hlow : p.centroid < low.part.centroid) :
    enterRowA p s = assignAxle (asSingleRow (handedAxle s.veh.nextId (some p) none .waiting p.flags))
      { s with veh.nextId := s.veh.nextId + 1 } := by
  have hfull : decide (rowListMax ≤ s.axle.rowA.length) = true := decide_eq_true hlen
  have hless : decide (p.centroid < low.part.centroid) = true := decide_eq_true hlow
  unfold enterRowA
  rw [hfull, h]
  dsimp only
  rw [hless]
  rfl

end

/-! ### Matching (R46) -/

theorem lanesMeet_iff (p q : RowAxle) : lanesMeet p q = true ↔ ∃ a ∈ p.lanes, a ∈ q.lanes := by
  simp [lanesMeet]

theorem lanesTouch_iff (p q : RowAxle) :
    lanesTouch p q = true ↔ ∃ a ∈ p.lanes, ∃ b ∈ q.lanes, a.val + 1 = b.val ∨ b.val + 1 = a.val := by
  have hone (a b : Nat) : absDiff a b = 1 ↔ a + 1 = b ∨ b + 1 = a := by
    unfold absDiff
    split <;> omega
  simp [lanesTouch, hone]

section
variable {s : State} {p : RowAxle} {w : WaitingAxle} {pre post : List WaitingAxle}

/-- The first waiting axle that shares a lane and has the row-B axle in its window matches it. -/
theorem findMatch_shared (h : s.axle.rowA = pre ++ w :: post)
    (hpre : ∀ u ∈ pre, ¬(lanesMeet u.part p = true ∧ s.inWindow u.part p.centroid = true)) (hmeet : lanesMeet w.part p = true)
    (hwin : s.inWindow w.part p.centroid = true) : s.findMatch p = some (w, false) := by
  have hfind : s.axle.rowA.find? (fun w => lanesMeet w.part p && s.inWindow w.part p.centroid) = some w :=
    List.find?_eq_some_iff_append.mpr ⟨by simp [hmeet, hwin], pre, post, h, fun u hu => by
      rw [Bool.not_eq_true', ← Bool.not_eq_true, Bool.and_eq_true]
      exact hpre u hu⟩
  unfold State.findMatch
  rw [hfind]

/-- With none sharing a lane, the first in an adjacent one matches it. -/
theorem findMatch_adjacent (h : s.axle.rowA = pre ++ w :: post)
    (hnone : ∀ u ∈ s.axle.rowA, ¬(lanesMeet u.part p = true ∧ s.inWindow u.part p.centroid = true))
    (hpre : ∀ u ∈ pre, ¬(lanesTouch u.part p = true ∧ s.inWindow u.part p.centroid = true)) (htouch : lanesTouch w.part p = true)
    (hwin : s.inWindow w.part p.centroid = true) : s.findMatch p = some (w, true) := by
  have hmeet : lanesMeet w.part p = false := by simpa [hwin] using hnone w (by simp [h])
  have hfirst : s.axle.rowA.find? (fun w => lanesMeet w.part p && s.inWindow w.part p.centroid) = none :=
    List.find?_eq_none.mpr fun u hu => by simpa using hnone u hu
  have hfind : s.axle.rowA.find? (fun w => !lanesMeet w.part p && (lanesTouch w.part p && s.inWindow w.part p.centroid)) = some w := by
    refine List.find?_eq_some_iff_append.mpr ⟨by simp [hmeet, htouch, hwin], pre, post, h, fun u hu => ?_⟩
    rw [Bool.not_eq_true', ← Bool.not_eq_true, Bool.and_eq_true, Bool.and_eq_true]
    exact fun hu' => hpre u hu hu'.2
  unfold State.findMatch
  rw [hfirst, hfind]

/-- With none in its window in a shared or an adjacent lane, nothing matches it. -/
theorem findMatch_none
    (h : ∀ u ∈ s.axle.rowA, s.inWindow u.part p.centroid = true → lanesMeet u.part p = false ∧ lanesTouch u.part p = false) :
    s.findMatch p = none := by
  have hfirst : s.axle.rowA.find? (fun w => lanesMeet w.part p && s.inWindow w.part p.centroid) = none := by
    refine List.find?_eq_none.mpr fun u hu => ?_
    cases hw : s.inWindow u.part p.centroid with
    | true => simp [(h u hu hw).1]
    | false => simp
  have hsecond :
      s.axle.rowA.find? (fun w => !lanesMeet w.part p && (lanesTouch w.part p && s.inWindow w.part p.centroid)) = none := by
    refine List.find?_eq_none.mpr fun u hu => ?_
    cases hw : s.inWindow u.part p.centroid with
    | true => simp [(h u hu hw).2]
    | false => simp
  unfold State.findMatch
  rw [hfirst, hsecond]

/-- The state in which a row-B axle looks for its match: its own list holds it and loses it again. -/
def State.passedRowB (s : State) (p : RowAxle) : State := { s with axle.rowB := (s.axle.rowB ++ [p]).erase p }

/-- A row-B axle that waiting axle `w` matches completes it. -/
theorem matchRowB_found {change : Bool} {extra : AxleFlags} (hextra : flagWhen change flagLaneChange = extra)
    (h : s.findMatch p = some (w, change)) :
    matchRowB p s =
      (let s1 : State := { s.passedRowB p with axle.rowA := s.axle.rowA.filter fun u => decide (u.id ≠ w.id) }
       let v := s.ownSpeed w.part p.centroid
       completeAxle w.id
         (fun x => { s1.weigh v { x with partB := some p, own := some v, flags := x.flags ||| p.flags ||| extra } with
           stage := .matched }) s1) := by
  have h0 : (s.passedRowB p).findMatch p = some (w, change) := h
  subst hextra
  show (match (s.passedRowB p).findMatch p with | some (w, change) => _ | none => _) = _
  rw [h0]
  rfl

theorem matchRowB_none (h : s.findMatch p = none) :
    matchRowB p s = assignAxle (handedAxle s.veh.nextId none (some p) .singleRow (p.flags ||| 0x00080))
      { s.passedRowB p with veh.nextId := s.veh.nextId + 1 } := by
  have h0 : (s.passedRowB p).findMatch p = none := h
  show (match (s.passedRowB p).findMatch p with | some (w, change) => _ | none => _) = _
  rw [h0]
  rfl

end

/-- Settles O6: entry by the room in the list, matching by the two passes over it. -/
theorem rowAxlesMatchAndExpire : Obligations.RowAxlesMatchAndExpire := by
  refine ⟨fun p pre post s hpre hpost => ⟨enterRowA_free hpre hpost, fun low => enterRowA_pushing hpre hpost,
    fun low rest => enterRowA_lowest⟩, fun p s => ⟨?_, ?_, ?_⟩, fun t s => rfl, fun p s => ⟨?_, ?_, ?_⟩⟩
  · intro pre w post h hno hmeet hwin
    exact matchRowB_found rfl (findMatch_shared h (fun u hu => by rw [lanesMeet_iff]; exact hno u hu)
      ((lanesMeet_iff ..).mpr hmeet) hwin)
  · intro pre w post h hnone hno htouch hwin
    exact matchRowB_found rfl (findMatch_adjacent h (fun u hu => by rw [lanesMeet_iff]; exact hnone u hu)
      (fun u hu => by rw [lanesTouch_iff]; exact hno u hu) ((lanesTouch_iff ..).mpr htouch) hwin)
  · intro h
    refine matchRowB_none (findMatch_none fun u hu hw => ?_)
    rw [← Bool.not_eq_true, ← Bool.not_eq_true, lanesMeet_iff, lanesTouch_iff]
    exact h u hu hw
  · intro h
    unfold formRowAxle
    rw [h]
    rfl
  · intro h hp
    unfold formRowAxle
    rw [h, hp]
    rfl
  · intro h hp
    unfold formRowAxle
    rw [h, hp]
    rfl

end Sys2Proof.Machine
end

section
/-!
PROOFS. Half pairing, entry into the held hits and the time mark (R30, R31, R39 to R42).
-/

namespace Sys2Proof.Machine

/-! ### Candidates and preference (R39, R40) -/

section
variable {h c d e : Hit} {s : State}

/-- The candidates are those of R39. -/
theorem pairable_iff (s : State) (h c : Hit) : s.pairable h c = true ↔ s.PairCandidate h c := by
  have hother : c.chan = otherHalf h.chan ↔ c.chan.val / 2 = h.chan.val / 2 ∧ c.chan ≠ h.chan := by
    rw [Fin.ext_iff, ne_eq, Fin.ext_iff]
    show c.chan.val = (if h.chan.val % 2 = 0 then h.chan.val + 1 else h.chan.val - 1) ↔ _
    split <;> omega
  have hnext : boundaryNeighbour s.site.laneCount h.chan = some c.chan ↔
      (h.chan.val % 2 = 1 ∧ c.chan.val = h.chan.val + 3 ∧ h.chan.val / 4 + 1 < s.site.laneCount)
      ∨ (h.chan.val % 2 = 0 ∧ c.chan.val + 3 = h.chan.val ∧ h.chan.val / 4 < s.site.laneCount) := by
    have hlt := c.chan.isLt
    unfold boundaryNeighbour
    split
    · split
      · rw [Option.some_inj, Fin.ext_iff]
        dsimp only
        omega
      · exact iff_of_false (by simp) (by omega)
    · split
      · rw [Option.some_inj, Fin.ext_iff]
        dsimp only
        omega
      · exact iff_of_false (by simp) (by omega)
  have hnear : absDiff c.centroid h.centroid ≤ 16 * s.axle.par.window
      ↔ |(c.centroid : Int) - h.centroid| ≤ 16 * (s.axle.par.window : Int) := by
    rw [← natCast_absDiff]
    omega
  rw [State.pairable, Bool.and_eq_true, Bool.or_eq_true, decide_eq_true_eq, decide_eq_true_eq, decide_eq_true_eq, hother, hnext,
    hnear]
  rfl

/-- A candidate of the same lane is the other half. -/
theorem PairCandidate.sameLane (hc : s.PairCandidate h c) : c.chan = otherHalf h.chan ↔ c.chan.val / 4 = h.chan.val / 4 := by
  rw [Fin.ext_iff]
  show c.chan.val = (if h.chan.val % 2 = 0 then h.chan.val + 1 else h.chan.val - 1) ↔ _
  obtain ⟨⟨h1, h2⟩ | ⟨h1, h2, _⟩ | ⟨h1, h2, _⟩, _⟩ := hc
  · rw [ne_eq, Fin.ext_iff] at h2
    split <;> omega
  · split <;> omega
  · split <;> omega

/-- A candidate stands in the row of the hit. -/
theorem PairCandidate.sameRow (hc : s.PairCandidate h c) : chanRow c.chan = chanRow h.chan := by
  have hrow : c.chan.val / 2 % 2 = h.chan.val / 2 % 2 := by
    obtain ⟨⟨h1, _⟩ | ⟨h1, h2, _⟩ | ⟨h1, h2, _⟩, _⟩ := hc <;> omega
  unfold chanRow
  rw [hrow]

/-- Of two candidates of one hit, the preferred one stands before the other. -/
theorem preferred_iff (hc : s.PairCandidate h c) (hd : s.PairCandidate h d) :
    (preferred h c d = true → pairsBefore h c d) ∧ (preferred h c d = false → pairsBefore h d c) := by
  have hcl := PairCandidate.sameLane hc
  have hdl := PairCandidate.sameLane hd
  have hca := natCast_absDiff c.centroid h.centroid
  have hda := natCast_absDiff d.centroid h.centroid
  unfold preferred pairsBefore
  simp only [ne_eq, hcl, hdl, ← hca, ← hda, Fin.ext_iff, Fin.lt_def, chanLane]
  by_cases hcs : c.chan.val / 4 = h.chan.val / 4 <;> by_cases hds : d.chan.val / 4 = h.chan.val / 4
  all_goals simp only [hcs, hds, not_true, not_false_iff, decide_true, decide_false]
  all_goals grind

theorem pairsBefore_trans (h1 : pairsBefore h c d) (h2 : pairsBefore h d e) : pairsBefore h c e := by
  unfold pairsBefore at *
  dsimp only at *
  generalize |(c.centroid : Int) - h.centroid| = x at *
  generalize |(d.centroid : Int) - h.centroid| = y at *
  generalize |(e.centroid : Int) - h.centroid| = z at *
  omega

theorem pairsBefore_refl (h c : Hit) : pairsBefore h c c := by
  refine .inr ⟨Iff.rfl, .inr ⟨rfl, .inr ⟨rfl, Nat.le_refl _⟩⟩⟩

/-- The partner chosen stands before every candidate. -/
theorem choosePartner_first {l : List Hit} (hl : ∀ c ∈ l, s.PairCandidate h c) (hne : l ≠ []) :
    ∃ c ∈ l, choosePartner h l = some c ∧ ∀ d ∈ l, pairsBefore h c d := by
  induction l with
  | nil => exact absurd rfl hne
  | cons c rest ih =>
    have hc := hl c (by simp)
    rw [choosePartner]
    by_cases hrest : rest = []
    · subst hrest
      exact ⟨c, by simp, rfl, fun d hd => by rw [List.mem_singleton.mp hd]; exact pairsBefore_refl h c⟩
    · obtain ⟨d, hd, hchosen, hfirst⟩ := ih (fun x hx => hl x (by simp [hx])) hrest
      have hpref := preferred_iff (hl d (by simp [hd])) hc
      rw [hchosen]
      dsimp only
      split
      · rename_i hdc
        refine ⟨d, by simp [hd], rfl, fun x hx => ?_⟩
        obtain rfl | hx := List.mem_cons.mp hx
        · exact hpref.1 hdc
        · exact hfirst x hx
      · rename_i hdc
        have hcd := hpref.2 (Bool.not_eq_true _ ▸ hdc)
        refine ⟨c, by simp, rfl, fun x hx => ?_⟩
        obtain rfl | hx := List.mem_cons.mp hx
        · exact pairsBefore_refl h x
        · exact pairsBefore_trans hcd (hfirst x hx)

/-! ### The axle of a pair (R41, R42) -/

/-- Of a hit offered and its partner, the one offered gives the near wheel. -/
def offeredNear (h c : Hit) : Bool :=
  if decide (chanLane h.chan ≠ chanLane c.chan) then decide (chanLane h.chan < chanLane c.chan) else !chanFar h.chan

/-- The two hits of a pair in the order of R41, the one that gives the near wheel first. -/
theorem pairAxle_eq (hc : s.PairCandidate h c) :
    ∃ n f, (n = h ∧ f = c ∨ n = c ∧ f = h)
      ∧ (n.chan.val / 4 < f.chan.val / 4 ∨ n.chan.val / 4 = f.chan.val / 4 ∧ n.chan.val % 2 = 0)
      ∧ pairAxle h c = pairedAxle n f := by
  have hrow := PairCandidate.sameRow hc
  have hlane : chanLane h.chan ≠ chanLane c.chan ↔ h.chan.val / 4 ≠ c.chan.val / 4 := by
    rw [ne_eq, Fin.ext_iff]
    rfl
  have hfirst : (offeredNear h c = true → h.chan.val / 4 < c.chan.val / 4 ∨ h.chan.val / 4 = c.chan.val / 4 ∧ h.chan.val % 2 = 0)
      ∧ (offeredNear h c = false → c.chan.val / 4 < h.chan.val / 4 ∨ c.chan.val / 4 = h.chan.val / 4 ∧ c.chan.val % 2 = 0) := by
    have hgeom : c.chan.val / 4 = h.chan.val / 4 → h.chan.val % 2 = 1 → c.chan.val % 2 = 0 := by
      obtain ⟨⟨h1, h2⟩ | ⟨h1, h2, _⟩ | ⟨h1, h2, _⟩, _⟩ := hc
      · rw [ne_eq, Fin.ext_iff] at h2
        omega
      · omega
      · omega
    simp only [offeredNear, decide_eq_true_eq, hlane, chanFar]
    simp only [Fin.lt_def, chanLane]
    split
    · simp only [decide_eq_true_eq, decide_eq_false_iff_not]
      omega
    · simp only [Bool.not_eq_true', decide_eq_false_iff_not, Bool.not_eq_false', decide_eq_true_eq]
      omega
  have hpair : pairAxle h c = pairedAxle (if offeredNear h c then h else c) (if offeredNear h c then c else h) := by
    unfold pairAxle pairedAxle
    cases hf : offeredNear h c with
    | true =>
      simp only [offeredNear] at hf
      simp only [hf]
      simp [roundDiv, halfUp, Hit.wheel, hlane]
    | false =>
      simp only [offeredNear] at hf
      simp only [hf]
      simp [roundDiv, halfUp, Hit.wheel, hlane, hrow, Nat.add_comm, Bool.or_comm, eq_comm]
  cases hf : offeredNear h c with
  | true => exact ⟨h, c, .inl ⟨rfl, rfl⟩, hfirst.1 hf, by rw [hpair, hf]; rfl⟩
  | false => exact ⟨c, h, .inr ⟨rfl, rfl⟩, hfirst.2 hf, by rw [hpair, hf]; rfl⟩

theorem oneWheelAxle_eq (h : Hit) : oneWheelAxle h = loneAxle h := by
  unfold oneWheelAxle loneAxle chanFar
  by_cases hf : h.chan.val % 2 = 1
  · simp [hf, Hit.wheel]
  · have : h.chan.val % 2 = 0 := by omega
    simp [this, Hit.wheel]

/-- A hit without a candidate is held. -/
theorem offerHit_none (hno : ∀ c ∈ s.det.hits.get (chanRow h.chan), ¬s.PairCandidate h c) : offerHit h s = s := by
  have hempty : (s.det.hits.get (chanRow h.chan)).filter (s.pairable h) = [] :=
    List.filter_eq_nil_iff.mpr fun c hc => by rw [pairable_iff]; exact hno c hc
  unfold offerHit
  dsimp only
  rw [hempty]
  rfl

/-- A hit with candidates leaves with the one R40 prefers. -/
theorem offerHit_some (hsome : ∃ c ∈ s.det.hits.get (chanRow h.chan), s.PairCandidate h c) :
    ∃ c ∈ s.det.hits.get (chanRow h.chan), s.PairCandidate h c
      ∧ (∀ d ∈ s.det.hits.get (chanRow h.chan), s.PairCandidate h d → pairsBefore h c d)
      ∧ offerHit h s = formRowAxle (pairAxle h c)
          (setHits (chanRow h.chan) (((s.det.hits.get (chanRow h.chan)).erase h).erase c) s) := by
  have hmem (c : Hit) : c ∈ (s.det.hits.get (chanRow h.chan)).filter (s.pairable h)
      ↔ c ∈ s.det.hits.get (chanRow h.chan) ∧ s.PairCandidate h c := by
    rw [List.mem_filter, pairable_iff]
  obtain ⟨x, hx, hxc⟩ := hsome
  obtain ⟨c, hc, hchosen, hfirst⟩ := choosePartner_first (s := s) (fun c hc => ((hmem c).mp hc).2)
    (List.ne_nil_of_mem ((hmem x).mpr ⟨hx, hxc⟩))
  refine ⟨c, ((hmem c).mp hc).1, ((hmem c).mp hc).2, fun d hd hdc => hfirst d ((hmem d).mpr ⟨hd, hdc⟩), ?_⟩
  unfold offerHit
  dsimp only
  rw [hchosen]

end

/-! ### Entry into the held hits (R30, R31) -/

section
variable {h : Hit} {pre post : List Hit} {s : State}

/-- A hit stands behind those of no higher centroid, equal ones in channel order. -/
theorem insertHit_eq (hpre : ∀ c ∈ pre, c.centroid < h.centroid ∨ c.centroid = h.centroid ∧ c.chan ≤ h.chan)
    (hpost : ∀ c, post.head? = some c → h.centroid < c.centroid ∨ c.centroid = h.centroid ∧ h.chan < c.chan) :
    insertHit h (pre ++ post) = pre ++ h :: post := by
  induction pre with
  | nil =>
    cases post with
    | nil => rfl
    | cons c rest =>
      have hc := hpost c rfl
      rw [List.nil_append, insertHit, if_neg]
      · rfl
      · rw [Fin.le_def]
        rw [Fin.lt_def] at hc
        omega
  | cons c rest ih =>
    rw [List.cons_append, insertHit, if_pos (hpre c (by simp)), ih fun d hd => hpre d (by simp [hd]), List.cons_append]

/-- With room in the list the hit is held and offered. -/
theorem enterHit_free (hlisted : insertHit h (s.det.hits.get (chanRow h.chan)) = pre ++ h :: post)
    (hlen : pre.length + post.length < 32) :
    enterHit h s = offerHit h { s with det.hits := s.det.hits.set (chanRow h.chan) (pre ++ h :: post) } := by
  unfold enterHit
  dsimp only
  rw [hlisted, if_neg (by simp only [hitListMax, List.length_append, List.length_cons]; omega)]
  rfl

/-- The lowest of a full list itself is lost. -/
theorem enterHit_lowest (hlisted : insertHit h (s.det.hits.get (chanRow h.chan)) = h :: s.det.hits.get (chanRow h.chan))
    (hlen : 32 ≤ (s.det.hits.get (chanRow h.chan)).length) :
    enterHit h s = { s with det.lost := raised s.det.lost 1 } := by
  unfold enterHit
  dsimp only
  rw [hlisted, if_pos (by simp only [hitListMax, List.length_cons]; omega), ← satInc_eq]
  dsimp only
  rw [if_pos rfl]
  exact setHits_same (chanRow h.chan) { s with det.lost := satInc s.det.lost }

/-- The lowest of a full list makes room for the hit. -/
theorem enterHit_pushing {low : Hit} {rest : List Hit}
    (hlisted : insertHit h (s.det.hits.get (chanRow h.chan)) = low :: (rest ++ h :: post)) (hlow : low ≠ h)
    (hlen : 32 ≤ (rest ++ h :: post).length) :
    enterHit h s = offerHit h
      { s with det.lost := raised s.det.lost 1, det.hits := s.det.hits.set (chanRow h.chan) (rest ++ h :: post) } := by
  unfold enterHit
  dsimp only
  rw [hlisted, if_pos (by simp only [hitListMax, List.length_cons]; omega), ← satInc_eq]
  dsimp only
  rw [if_neg hlow]
  rfl

end

/-! ### What a close leaves of the hits and the row-A list -/

/-- `t` holds no hit and no row-A axle that `s` does not hold. -/
def ListsShrink (s t : State) : Prop :=
  (∀ r, ∀ h ∈ t.det.hits.get r, h ∈ s.det.hits.get r) ∧ ∀ w ∈ t.axle.rowA, w ∈ s.axle.rowA

theorem ListsShrink.refl (s : State) : ListsShrink s s := ⟨fun _ _ h => h, fun _ h => h⟩

theorem ListsShrink.trans {s t u : State} (h : ListsShrink s t) (k : ListsShrink t u) : ListsShrink s u :=
  ⟨fun r x hx => h.1 r x (k.1 r x hx), fun w hw => h.2 w (k.2 w hw)⟩

theorem ListsShrink.of_eq {s t : State} (hd : t.det = s.det) (ha : t.axle = s.axle) : ListsShrink s t := by
  unfold ListsShrink
  rw [hd, ha]
  exact ⟨fun _ _ h => h, fun _ h => h⟩

theorem FiringFrame.shrink {s t : State} (h : FiringFrame s t) : ListsShrink s t := by
  rw [h]
  exact .refl s

theorem offerStage_shrink (v : ClosedVehicle) (e : Option ClassEntry) (s : State) : ListsShrink s (offerStage v e s) := by
  have hupdate (l : Lane) (b : Fin 8) (c : Cell) : ListsShrink s (driftUpdate l b c s) := by
    unfold driftUpdate
    dsimp only
    split
    · exact ((createRecord_firing .other _ (setCell l b _ s)).trans (runCascade_firing _ _)).shrink
    · exact (createRecord_firing .other _ (setCell l b _ s)).shrink
  unfold offerStage
  split
  · split
    · unfold takeOffer
      split
      · dsimp only
        split
        · split
          · exact hupdate ..
          · exact .of_eq rfl rfl
        · exact .of_eq rfl rfl
      · exact .of_eq rfl rfl
    · exact .refl s
  · exact .refl s

theorem recordStage_shrink (v : ClosedVehicle) (s : State) : ListsShrink s (recordStage v s) := by
  have counted (u : State) (n m : Nat) : ListsShrink u { u with veh.vehicles := n, veh.axles := m } := .of_eq rfl rfl
  unfold recordStage
  dsimp only
  exact ((runCascade_firing _ s).trans (createRecord_firing .vehicle _ _)).shrink.trans (counted _ _ _)

theorem closeStages_shrink (l : Lane) (c : Context) (x : CloseCause) (s : State) : ListsShrink s (closeStages l c x s) := by
  have hrelease : ListsShrink s (releaseWaiting c s) := ⟨fun _ _ h => h, fun _ h => (List.mem_filter.mp h).1⟩
  unfold closeStages
  exact hrelease.trans ((offerStage_shrink ..).trans (recordStage_shrink ..))

theorem fixOutcome_shrink (o : OrderOutcome) (d : Nat) (s : State) : ListsShrink s (fixOutcome o d s) := by
  unfold fixOutcome
  split
  · split
    · exact .of_eq rfl rfl
    · exact .refl s
  · exact .refl s

theorem testDrain_shrink (s : State) : ListsShrink s (testDrain s) := by
  have hstop (u : State) : ListsShrink u (answerStop u) := by
    unfold answerStop
    split
    · split
      · exact fixOutcome_shrink ..
      · exact .refl u
    · exact .refl u
  unfold testDrain
  split
  · refine ListsShrink.trans ⟨fun r h hh => ?_, fun w hw => ?_⟩ (hstop _)
    · cases r <;> cases hh
    · cases hw
  · exact .refl s

theorem captureClosed_shrink (n : Nat) (s : State) : ListsShrink s (captureClosed n s) := by
  unfold captureClosed
  repeat' first | exact .refl s | exact .of_eq rfl rfl | split

theorem closeContext_shrink (l : Lane) (k : Slot) (x : CloseCause) (s : State) : ListsShrink s (closeContext l k x s) := by
  have hempty (u : State) : ListsShrink u (setContext l k none u) := .of_eq rfl rfl
  unfold closeContext
  split
  · exact .refl s
  · rename_i c _
    refine ListsShrink.trans ?_ ((hempty _).trans ((captureClosed_shrink ..).trans (testDrain_shrink _)))
    split
    · exact .refl s
    · exact closeStages_shrink ..

theorem closeTest_shrink (l : Lane) (k : Slot) (s : State) : ListsShrink s (closeTest l k s) := by
  unfold closeTest
  split
  · exact .refl s
  · split
    · exact closeContext_shrink ..
    · exact .refl s

theorem completeAxle_shrink (n : Nat) (f : Axle → Axle) (s : State) : ListsShrink s (completeAxle n f s) := by
  have hset (l : Lane) (k : Slot) (c : Option Context) (u : State) : ListsShrink u (setContext l k c u) := .of_eq rfl rfl
  unfold completeAxle
  split
  · exact .refl s
  · split
    · exact .refl s
    · exact (hset ..).trans (closeTest_shrink ..)

theorem assignAxle_shrink (x : Axle) (s : State) : ListsShrink s (assignAxle x s) := by
  have hset (l : Lane) (k : Slot) (c : Option Context) (u : State) : ListsShrink u (setContext l k c u) := .of_eq rfl rfl
  have hopen (l : Lane) (k : Slot) (mk : Nat → Context) (u : State) : ListsShrink u (openWithAxle l k mk x u) := .of_eq rfl rfl
  unfold assignAxle
  split
  · exact .refl s
  · dsimp only
    split
    · unfold joinSlot
      split
      · exact .refl s
      · split
        · exact (closeContext_shrink ..).trans (hopen ..)
        · exact hset ..
    · split
      · exact hopen ..
      · exact .refl s

/-- A row axle that is formed brings no hit. -/
theorem formRowAxle_hits (p : RowAxle) (s : State) (r : Row) : ∀ h ∈ (formRowAxle p s).det.hits.get r, h ∈ s.det.hits.get r := by
  have hafter {u v : State} (hv : ListsShrink u v) (hu : u.det = s.det) : ∀ h ∈ v.det.hits.get r, h ∈ s.det.hits.get r := by
    rw [← hu]
    exact hv.1 r
  unfold formRowAxle
  split
  · split
    · unfold enterRowA
      dsimp only
      split
      · exact hafter (assignAxle_shrink ..) rfl
      · split
        · exact hafter (assignAxle_shrink ..) rfl
        · split
          · exact hafter ((completeAxle_shrink ..).trans (assignAxle_shrink ..)) rfl
          · exact hafter (assignAxle_shrink ..) rfl
    · unfold matchRowB
      dsimp only
      split
      · exact hafter (completeAxle_shrink ..) rfl
      · exact hafter (assignAxle_shrink ..) rfl
  · exact fun _ h => h

/-! ### The time mark (R42, R47) -/

/-- A hit whose window has passed at a time mark. -/
def State.hitPast (s : State) (t : Nat) (h : Hit) : Bool := decide (h.centroid + 16 * s.axle.par.window < 16 * t)

theorem expireHits_eq (r : Row) (t : Nat) (s : State) :
    expireHits r t s = ((s.det.hits.get r).filter (s.hitPast t)).foldl (fun u h => formRowAxle (oneWheelAxle h) u)
      (setHits r ((s.det.hits.get r).filter fun h => !s.hitPast t h) s) := rfl

theorem foldl_formRowAxle_hits (hs : List Hit) (s : State) (r : Row) :
    ∀ h ∈ (hs.foldl (fun u h => formRowAxle (oneWheelAxle h) u) s).det.hits.get r, h ∈ s.det.hits.get r := by
  induction hs generalizing s with
  | nil => exact fun _ h => h
  | cons g rest ih => exact fun h hh => formRowAxle_hits _ _ _ h (ih _ h hh)

/-- What the expiry of a row's hits leaves held was held before, and of its own row is within its window. -/
theorem expireHits_held (q : Row) (t : Nat) (s : State) (r : Row) :
    ∀ h ∈ (expireHits q t s).det.hits.get r, h ∈ s.det.hits.get r ∧ (r = q → s.hitPast t h = false) := by
  intro h hh
  rw [expireHits_eq] at hh
  have hset := foldl_formRowAxle_hits _ _ r h hh
  rw [setHits, PerRow.get_set] at hset
  split at hset
  · rename_i hrq
    subst hrq
    obtain ⟨hin, hpast⟩ := List.mem_filter.mp hset
    exact ⟨hin, fun _ => by simpa using hpast⟩
  · rename_i hrq
    exact ⟨hset, fun e => absurd e hrq⟩

theorem expireHits_none {r : Row} {t : Nat} {s : State} (h : ∀ x ∈ s.det.hits.get r, s.hitPast t x = false) :
    expireHits r t s = s := by
  have hgone : (s.det.hits.get r).filter (s.hitPast t) = [] := List.filter_eq_nil_iff.mpr fun x hx => by simp [h x hx]
  have hkept : (s.det.hits.get r).filter (fun x => !s.hitPast t x) = s.det.hits.get r :=
    List.filter_eq_self.mpr fun x hx => by simp [h x hx]
  rw [expireHits_eq, hgone, hkept]
  exact setHits_same r s

theorem expireAxle_shrink (w : WaitingAxle) (s : State) : ListsShrink s (expireAxle w s) := by
  refine ListsShrink.trans (t := { s with axle.rowA := s.axle.rowA.filter fun u => u.id ≠ w.id })
    ⟨fun _ _ h => h, fun _ h => (List.mem_filter.mp h).1⟩ ?_
  exact completeAxle_shrink ..

theorem expireAxle_gone (w : WaitingAxle) (s : State) : ∀ v ∈ (expireAxle w s).axle.rowA, v.id ≠ w.id := by
  intro v hv
  simpa using (List.mem_filter.mp ((completeAxle_shrink w.id _ _).2 v hv)).2

theorem foldl_expireAxle (ws : List WaitingAxle) (s : State) :
    ListsShrink s (ws.foldl (fun u w => expireAxle w u) s)
      ∧ ∀ v ∈ (ws.foldl (fun u w => expireAxle w u) s).axle.rowA, v ∉ ws := by
  induction ws generalizing s with
  | nil => exact ⟨.refl s, fun _ _ => List.not_mem_nil⟩
  | cons w rest ih =>
    obtain ⟨hshrink, hgone⟩ := ih (expireAxle w s)
    refine ⟨(expireAxle_shrink w s).trans hshrink, fun v hv => ?_⟩
    rw [List.mem_cons]
    rintro (rfl | hmem)
    · exact expireAxle_gone v s v (hshrink.2 v hv) rfl
    · exact hgone v hv hmem

/-- After the expiry no waiting axle is past its horizon. -/
theorem expireAxles_waiting (t : Nat) (s : State) :
    ∀ w ∈ (expireAxles t s).axle.rowA, w ∈ s.axle.rowA ∧ ¬s.horizon w.part < 16 * t := by
  intro w hw
  obtain ⟨hshrink, hgone⟩ := foldl_expireAxle (s.axle.rowA.filter fun w => decide (s.horizon w.part < 16 * t)) s
  have hin := hshrink.2 w hw
  refine ⟨hin, fun hpast => hgone w hw (List.mem_filter.mpr ⟨hin, decide_eq_true hpast⟩)⟩

theorem expireAxles_none {t : Nat} {s : State} (h : ∀ w ∈ s.axle.rowA, 16 * t ≤ s.horizon w.part) : expireAxles t s = s := by
  have hgone : s.axle.rowA.filter (fun w => decide (s.horizon w.part < 16 * t)) = [] :=
    List.filter_eq_nil_iff.mpr fun w hw => by simpa using h w hw
  unfold expireAxles
  rw [hgone]
  rfl

/-- What the windows and horizons are reckoned from. -/
theorem horizon_of_settings {s u : State} (h : u.settings = s.settings) (p : RowAxle) : u.horizon p = s.matchHorizon p := by
  have hpar : u.axle.par = s.axle.par := congrArg Settings.weighPar h
  have hsite : u.site = s.site := congrArg Settings.site h
  unfold State.horizon State.highEnd State.spacing
  rw [hpar, hsite]
  rfl

theorem timeMark_hits (t : Nat) (s : State) (r : Row) :
    ∀ h ∈ (timeMark t s).det.hits.get r, 16 * t ≤ h.centroid + 16 * s.axle.par.window := by
  intro h hh
  have hpar : (expireHits .a t s).axle.par = s.axle.par := congrArg Settings.weighPar (expireHits_settings ..)
  obtain ⟨hb, hpastb⟩ := expireHits_held .b t _ r h ((foldl_expireAxle _ _).1.1 r h hh)
  obtain ⟨ha, hpasta⟩ := expireHits_held .a t s r h hb
  cases r with
  | a =>
    have := hpasta rfl
    unfold State.hitPast at this
    simpa using this
  | b =>
    have := hpastb rfl
    unfold State.hitPast at this
    rw [hpar] at this
    simpa using this

theorem timeMark_waiting (t : Nat) (s : State) : ∀ w ∈ (timeMark t s).axle.rowA, 16 * t ≤ s.matchHorizon w.part := by
  intro w hw
  have hsettings : (expireHits .b t (expireHits .a t s)).settings = s.settings := by simp
  rw [← horizon_of_settings hsettings]
  exact Nat.not_lt.mp (expireAxles_waiting t _ w hw).2

/-- A time mark that nothing is past changes nothing. -/
theorem timeMark_none {t : Nat} {s : State}
    (hits : ∀ r, ∀ h ∈ s.det.hits.get r, 16 * t ≤ h.centroid + 16 * s.axle.par.window)
    (waiting : ∀ w ∈ s.axle.rowA, 16 * t ≤ s.matchHorizon w.part) : timeMark t s = s := by
  have hpast (r : Row) : ∀ h ∈ s.det.hits.get r, s.hitPast t h = false := fun h hh =>
    decide_eq_false (Nat.not_lt.mpr (hits r h hh))
  unfold timeMark
  rw [expireHits_none (hpast .a), expireHits_none (hpast .b)]
  exact expireAxles_none fun w hw => by rw [horizon_of_settings rfl]; exact waiting w hw

/-- Settles O2: pairing by the candidates, expiry by the lists' own filters, entry by the place in the list. -/
theorem hitsPairAndExpire : Obligations.HitsPairAndExpire := by
  refine ⟨fun h s => ⟨offerHit_none, fun hsome => ?_⟩, fun r t s => ?_,
    fun t s => ⟨rfl, timeMark_hits t s, timeMark_waiting t s, timeMark_none⟩, fun h pre post s => ?_⟩
  · obtain ⟨c, hc, hcand, hfirst, heq⟩ := offerHit_some hsome
    obtain ⟨n, f, horder, hnear, hpair⟩ := pairAxle_eq hcand
    exact ⟨c, n, f, hc, hcand, hfirst, horder, hnear, by rw [heq, hpair]; rfl⟩
  · have hpast : s.hitPast t = fun h => decide (16 * (s.axle.par.window : Int) < 16 * (t : Int) - (h.centroid : Int)) := by
      funext h
      exact decide_eq_decide.mpr (by omega)
    have hlone : (fun (u : State) h => formRowAxle (oneWheelAxle h) u) = fun u h => formRowAxle (loneAxle h) u := by
      funext u h
      rw [oneWheelAxle_eq]
    rw [expireHits_eq, hpast, hlone]
    rfl
  · intro r listed lostOne hheld hpre hpost
    have hlisted : insertHit h (s.det.hits.get (chanRow h.chan)) = pre ++ h :: post := by
      rw [show s.det.hits.get (chanRow h.chan) = _ from hheld, insertHit_eq hpre hpost]
    refine ⟨fun hlen => enterHit_free hlisted hlen, fun hlen hnil => ?_, fun low rest hlen hpl hlow => ?_⟩
    · subst hnil
      refine enterHit_lowest (hlisted.trans ?_) ?_
      · rw [show s.det.hits.get (chanRow h.chan) = _ from hheld]
        rfl
      · rw [show s.det.hits.get (chanRow h.chan) = _ from hheld]
        simpa using hlen
    · subst hpl
      refine enterHit_pushing hlisted hlow ?_
      simp only [List.length_append, List.length_cons] at hlen ⊢
      omega

end Sys2Proof.Machine
end

section
/-!
PROOFS. Speeds, loads, flags, grades and the compensation curve (R45, R49 to R61, R75, R78).
-/

namespace Sys2Proof.Machine

/-! ### Flags -/

/-- Some flag of a mask is set. -/
theorem hasFlag_iff {w : Nat} (flags mask : BitVec w) :
    hasFlag flags mask = true ↔ ∃ i, flags.getLsbD i = true ∧ mask.getLsbD i = true := by
  unfold hasFlag
  rw [bne_iff_ne]
  constructor
  · intro h
    by_contra hno
    refine h (BitVec.eq_of_getLsbD_eq fun i _ => ?_)
    rw [BitVec.getLsbD_and]
    show _ = (0#w).getLsbD i
    rw [BitVec.getLsbD_zero]
    cases hf : flags.getLsbD i with
    | false => rfl
    | true =>
      cases hm : mask.getLsbD i with
      | false => rfl
      | true => exact absurd ⟨i, hf, hm⟩ hno
  · rintro ⟨i, hf, hm⟩ h
    have := congrArg (fun x => BitVec.getLsbD x i) h
    simp [hf, hm] at this

/-- Bit `i` of a mask whose set bits are listed. -/
theorem getLsbD_iff_mem {w : Nat} {mask : BitVec w} {ns : List Nat} (hlt : ∀ n ∈ ns, n < w)
    (h : ∀ i : Fin w, mask.getLsbD i.val = decide (i.val ∈ ns)) (i : Nat) : mask.getLsbD i = true ↔ i ∈ ns := by
  by_cases hi : i < w
  · rw [h ⟨i, hi⟩, decide_eq_true_eq]
  · rw [BitVec.getLsbD_of_ge _ _ (Nat.not_lt.mp hi)]
    exact iff_of_false (by simp) fun hmem => hi (hlt i hmem)

theorem hasFlag_poor (f : AxleFlags) : hasFlag f poorFlags = true ↔ ∃ n ∈ [0, 2, 1, 3, 4, 10, 17, 14, 15], f.getLsbD n = true := by
  rw [hasFlag_iff]
  simp only [getLsbD_iff_mem (mask := poorFlags) (ns := [0, 2, 1, 3, 4, 10, 17, 14, 15]) (by decide) (by decide), and_comm]

theorem hasFlag_fair (f : AxleFlags) : hasFlag f fairFlags = true ↔ ∃ n ∈ [11, 7, 5, 6, 8, 9, 12, 13, 16], f.getLsbD n = true := by
  rw [hasFlag_iff]
  simp only [getLsbD_iff_mem (mask := fairFlags) (ns := [11, 7, 5, 6, 8, 9, 12, 13, 16]) (by decide) (by decide), and_comm]

/-- A flag of one bit. -/
theorem getLsbD_oneFlag {f : AxleFlags} {n : Nat} (h : f = BitVec.twoPow 18 n) (hn : n < 18) (i : Nat) :
    f.getLsbD i = decide (i = n) := by
  subst h
  rw [BitVec.getLsbD_twoPow]
  by_cases hi : n = i
  · subst hi
    simp [hn]
  · simp [hi, Ne.symm hi]

/-- The flags of a row axle (R58). -/
theorem rowAxle_flags_bit (p : RowAxle) (i : Nat) :
    p.flags.getLsbD i = ((p.clipped && decide (i = 0)) || (p.gap && decide (i = 1)) || (p.long && decide (i = 2))
      || (p.settling && decide (i = 3)) || (p.oneWheel && decide (i = 4)) || (p.straddle && decide (i = 5))) := by
  simp only [RowAxle.flags, BitVec.getLsbD_or, getLsbD_flagWhen,
    getLsbD_oneFlag (f := flagClipped) (n := 0) rfl (by decide), getLsbD_oneFlag (f := flagGap) (n := 1) rfl (by decide),
    getLsbD_oneFlag (f := flagLong) (n := 2) rfl (by decide), getLsbD_oneFlag (f := flagSettling) (n := 3) rfl (by decide),
    getLsbD_oneFlag (f := flagOneWheel) (n := 4) rfl (by decide), getLsbD_oneFlag (f := flagStraddle) (n := 5) rfl (by decide)]

/-- The temperature flag of a row (R59). -/
theorem rowTemp_flag_bit (t : RowTemp) (i : Nat) :
    t.flag.getLsbD i = true ↔ (i = 12 ∧ ∃ v, t = .secondary v) ∨ (i = 13 ∧ ∃ v h, t = .held v h)
      ∨ (i = 14 ∧ ∃ v h, t = .stale v h) ∨ (i = 15 ∧ t = .none) := by
  cases t with
  | live v => simp [RowTemp.flag]
  | secondary v =>
    rw [show RowTemp.flag (.secondary v) = flagTempSecondary from rfl, getLsbD_oneFlag (f := flagTempSecondary) (n := 12) rfl (by decide)]
    simp
  | held v h =>
    rw [show RowTemp.flag (.held v h) = flagTempHeld from rfl, getLsbD_oneFlag (f := flagTempHeld) (n := 13) rfl (by decide)]
    simp
  | stale v h =>
    rw [show RowTemp.flag (.stale v h) = flagTempStale from rfl, getLsbD_oneFlag (f := flagTempStale) (n := 14) rfl (by decide)]
    simp
  | none =>
    rw [show RowTemp.flag .none = flagTempNone from rfl, getLsbD_oneFlag (f := flagTempNone) (n := 15) rfl (by decide)]
    simp

theorem faultedOrOff_iff (c : ChanState) : c.faultedOrOff = true ↔ c = .off ∨ ∃ b, c = .faulted b := by
  cases c <;> simp [ChanState.faultedOrOff]

/-- CHANNEL_FAULT is tested over the lanes of the row parts (R60). -/
theorem partsFault_iff (s : State) (x : Axle) : s.partsFault x.partA x.partB = true ↔ s.ChannelFaultOn x := by
  have hlane (l : Lane) : s.laneFault l = true
      ↔ ∃ c : Chan, c.val / 4 = l.val ∧ (s.det.chans.get c = .off ∨ ∃ b, s.det.chans.get c = .faulted b) := by
    unfold State.laneFault
    rw [List.any_eq_true]
    constructor
    · rintro ⟨c, -, h⟩
      rw [Bool.and_eq_true, decide_eq_true_eq, faultedOrOff_iff] at h
      exact ⟨c, congrArg Fin.val h.1, h.2⟩
    · rintro ⟨c, hl, h⟩
      refine ⟨c, mem_indices 16 c, ?_⟩
      rw [Bool.and_eq_true, decide_eq_true_eq, faultedOrOff_iff]
      exact ⟨Fin.ext hl, h⟩
  have hpart (l : Lane) : l ∈ partLanes x.partA x.partB ↔ ∃ p, (x.partA = some p ∨ x.partB = some p) ∧ l ∈ p.lanes := by
    unfold partLanes
    rw [List.mem_append]
    cases x.partA <;> cases x.partB <;> simp [or_and_right, exists_or]
  unfold State.partsFault State.ChannelFaultOn
  rw [List.any_eq_true]
  constructor
  · rintro ⟨l, hl, h⟩
    obtain ⟨p, hp, hlp⟩ := (hpart l).mp hl
    exact ⟨p, hp, l, hlp, (hlane l).mp h⟩
  · rintro ⟨p, hp, l, hlp, h⟩
    exact ⟨l, (hpart l).mpr ⟨p, hp, hlp⟩, (hlane l).mpr h⟩

/-! ### The grade (R61) -/

theorem partsSpoilt_iff (a b : Option RowAxle) :
    partsSpoilt a b = true ↔ (∀ p, a = some p → p.clipped = true ∨ p.long = true) ∧ ∀ p, b = some p → p.clipped = true ∨ p.long = true := by
  cases a <;> cases b <;> simp [partsSpoilt, RowAxle.spoilt]

theorem axleGrade_iff (a b : Option RowAxle) (f : AxleFlags) :
    (axleGrade true a b f = .unweighed ↔ partsSpoilt a b = true)
    ∧ (axleGrade true a b f = .poor ↔ ¬partsSpoilt a b = true ∧ hasFlag f poorFlags = true)
    ∧ (axleGrade true a b f = .fair ↔ ¬partsSpoilt a b = true ∧ ¬hasFlag f poorFlags = true ∧ hasFlag f fairFlags = true)
    ∧ (axleGrade true a b f = .good ↔ ¬partsSpoilt a b = true ∧ ¬hasFlag f poorFlags = true ∧ ¬hasFlag f fairFlags = true) := by
  unfold axleGrade
  cases partsSpoilt a b with
  | true => simp
  | false =>
    cases hasFlag f poorFlags with
    | true => simp
    | false => cases hasFlag f fairFlags <;> simp

/-! ### The curve (R75) -/

section
variable {t t0 : Int} {k0 : Nat} {pre rest : List (Int × Nat)}

/-- A curve rising in temperature is followed from any breakpoint at or below the temperature. -/
theorem curveFactor_from (hp : (pre ++ (t0, k0) :: rest).Pairwise (·.1 < ·.1)) (h : t0 ≤ t) :
    curveFactor (pre ++ (t0, k0) :: rest) t = curveFrom t0 k0 t rest := by
  have hfrom (q : Int × Nat) (pre : List (Int × Nat)) (hp : (q :: (pre ++ (t0, k0) :: rest)).Pairwise (·.1 < ·.1)) :
      curveFrom q.1 q.2 t (pre ++ (t0, k0) :: rest) = curveFrom t0 k0 t rest := by
    induction pre generalizing q with
    | nil =>
      show (if t < t0 then _ else _) = _
      rw [if_neg (not_lt.mpr h)]
    | cons r pre ih =>
      have hr : r.1 < t0 := (List.pairwise_cons.mp (List.pairwise_cons.mp hp).2).1 (t0, k0) (by simp)
      show (if t < r.1 then _ else _) = _
      rw [if_neg (by omega)]
      exact ih r (List.pairwise_cons.mp hp).2
  cases pre with
  | nil =>
    show (if t < t0 then _ else _) = _
    rw [if_neg (not_lt.mpr h)]
  | cons q pre =>
    have hq : q.1 < t0 := (List.pairwise_cons.mp hp).1 (t0, k0) (by simp)
    show (if t < q.1 then _ else _) = _
    rw [if_neg (by omega)]
    exact hfrom q pre hp

end

/-- At its lower breakpoint the interpolated factor is that breakpoint's. -/
theorem interpolate_self (t0 : Int) (k0 : Nat) (t1 : Int) (k1 : Nat) (h : t0 < t1) : interpolate t0 k0 t1 k1 t0 = k0 := by
  have hzero : roundDivInt (((k1 : Int) - k0) * (t0 - t0)) (t1 - t0).toNat = 0 := by
    unfold roundDivInt
    refine Int.ediv_eq_zero_of_lt ?_ ?_
    · rw [sub_self, mul_zero]
      omega
    · rw [sub_self, mul_zero]
      omega
  unfold interpolate
  rw [hzero, add_zero, Int.toNat_natCast]

/-- The factor between two breakpoints, as a whole number (R75). -/
theorem interpolate_cast {t0 t1 t : Int} {k0 k1 : Nat} (h0 : t0 < t) (h1 : t < t1) :
    (interpolate t0 k0 t1 k1 t : Int) = k0 + (2 * (((k1 : Int) - k0) * (t - t0)) + (t1 - t0)) / (2 * (t1 - t0)) := by
  have hden : (((t1 - t0).toNat : Nat) : Int) = t1 - t0 := Int.toNat_of_nonneg (by omega)
  have hlow : -(k0 : Int) ≤ (2 * (((k1 : Int) - k0) * (t - t0)) + (t1 - t0)) / (2 * (t1 - t0)) := by
    rw [Int.le_ediv_iff_mul_le (by omega)]
    have hk : 0 ≤ (k1 : Int) * (t - t0) := mul_nonneg (by omega) (by omega)
    have hk' : 0 ≤ (k0 : Int) * (t1 - t) := mul_nonneg (by omega) (by omega)
    nlinarith
  unfold interpolate roundDivInt
  rw [hden, Int.toNat_of_nonneg (by omega)]

/-- Kt over a curve rising in temperature. -/
theorem curveFactor_cases (points : List (Int × Nat)) (t : Int) (hp : points.Pairwise (·.1 < ·.1)) :
    (∀ p, points.head? = some p → t < p.1 → curveFactor points t = (p.2, true))
    ∧ (∀ p, points.getLast? = some p → p.1 < t → curveFactor points t = (p.2, true))
    ∧ (∀ p ∈ points, p.1 = t → curveFactor points t = (p.2, false))
    ∧ (∀ i lo hi, points[i]? = some lo → points[i + 1]? = some hi → lo.1 < t → t < hi.1 →
        ∃ k : Nat, curveFactor points t = (k, false)
          ∧ (k : Int) = lo.2 + (2 * (((hi.2 : Int) - lo.2) * (t - lo.1)) + (hi.1 - lo.1)) / (2 * (hi.1 - lo.1))) := by
  refine ⟨fun p hhead h => ?_, fun p hlast h => ?_, fun p hmem h => ?_, fun i lo hi hlo hhi h0 h1 => ?_⟩
  · obtain ⟨rest, rfl⟩ := List.head?_eq_some_iff.mp hhead
    show (if t < p.1 then _ else _) = _
    rw [if_pos h]
  · obtain ⟨pre, rfl⟩ := List.getLast?_eq_some_iff.mp hlast
    rw [curveFactor_from hp h.le]
    show (p.2, decide (p.1 < t)) = _
    rw [decide_eq_true h]
  · obtain ⟨pre, rest, rfl⟩ := List.append_of_mem hmem
    rw [curveFactor_from hp h.le]
    cases rest with
    | nil =>
      show (p.2, decide (p.1 < t)) = _
      rw [decide_eq_false (by omega)]
    | cons q rest =>
      have hq : p.1 < q.1 := (List.pairwise_cons.mp (List.pairwise_append.mp hp).2.1).1 q (by simp)
      show (if t < q.1 then _ else _) = _
      rw [if_pos (by omega), ← h, interpolate_self _ _ _ _ hq]
  · obtain ⟨hi0, hlo⟩ := List.getElem?_eq_some_iff.mp hlo
    obtain ⟨hi1, hhi⟩ := List.getElem?_eq_some_iff.mp hhi
    have hpoints : points = points.take i ++ lo :: hi :: points.drop (i + 2) := by
      rw [← hlo, ← hhi, ← List.drop_eq_getElem_cons hi1, ← List.drop_eq_getElem_cons hi0, List.take_append_drop]
    refine ⟨interpolate lo.1 lo.2 hi.1 hi.2 t, ?_, interpolate_cast h0 h1⟩
    rw [hpoints] at hp ⊢
    rw [curveFactor_from hp h0.le]
    show (if t < hi.1 then _ else _) = _
    rw [if_pos h1]

/-! ### Loads and speeds -/

theorem clampLoad_eq (w : Nat) : clampLoad w = (min w 65535, decide (65535 < w)) := by
  unfold clampLoad
  split
  · rename_i h
    rw [min_eq_right (by omega), decide_eq_true h]
  · rename_i h
    rw [min_eq_left (by omega), decide_eq_false h]

theorem sweptIntegral_eq (a v : Nat) :
    sweptIntegral a v = (min ((a * v + 4096) / 8192) 4294967295, decide (4294967295 < (a * v + 4096) / 8192)) := by
  have hround : roundDiv (a * v) 8192 = (a * v + 4096) / 8192 := by
    unfold roundDiv
    omega
  unfold sweptIntegral
  rw [hround]
  dsimp only
  split
  · rename_i h
    rw [min_eq_right (by omega), decide_eq_true h]
  · rename_i h
    rw [min_eq_left (by omega), decide_eq_false h]

/-- The four stages of a wheel (R51 to R54). -/
theorem wheelLoad_eq (s : State) (v kt : Nat) (w : Wheel) :
    let m0 := (w.area * v + 4096) / 8192
    let m := min m0 4294967295
    let r := (m * s.cal.factors.get w.chan + 8388608) / 16777216
    let x := (r * kt * s.driftFactor (chanLane w.chan) + 134217728) / 268435456
    s.wheelLoad v kt w = (min x 65535, decide (4294967295 < m0) || decide (65535 < x)) := by
  have hraw (n : Nat) : roundDiv n 16777216 = (n + 8388608) / 16777216 := by
    unfold roundDiv
    omega
  have hcomp (n : Nat) : roundDiv n 268435456 = (n + 134217728) / 268435456 := by
    unfold roundDiv
    omega
  unfold State.wheelLoad compensatedLoad rawLoad
  dsimp only
  rw [sweptIntegral_eq, clampLoad_eq, hraw, hcomp]

section
variable {s : State} {v : Nat} {x : Axle}

/-- The flags of a weighed axle, bit by bit (R58 to R60). -/
theorem weigh_flags_bit (s : State) (v : Nat) (x : Axle) (i : Nat) :
    (s.weigh v x).flags.getLsbD i = true ↔ x.flags.getLsbD i = true
      ∨ (x.partA.isSome = true ∧ (s.temp.rows.a.flag.getLsbD i = true ∨ ((rowFactor s.temp .a).2 = true ∧ i = 16)))
      ∨ (x.partB.isSome = true ∧ (s.temp.rows.b.flag.getLsbD i = true ∨ ((rowFactor s.temp .b).2 = true ∧ i = 16)))
      ∨ ((s.axleLoads v x.partA x.partB).2 = true ∧ i = 10)
      ∨ (s.axle.par.outside v = true ∧ i = 9)
      ∨ ((x.partA.isSome && x.partB.isSome && rowsDisagree s.axle.par.tolerance (s.weigh v x).loads.totalA
          (s.weigh v x).loads.totalB) = true ∧ i = 11)
      ∨ (s.partsFault x.partA x.partB = true ∧ i = 17) := by
  rw [State.weigh_flags, State.tempFlags]
  simp only [BitVec.getLsbD_or, getLsbD_flagWhen, getLsbD_oneFlag (f := flagCurveClamp) (n := 16) rfl (by decide),
    getLsbD_oneFlag (f := flagLoadSaturated) (n := 10) rfl (by decide),
    getLsbD_oneFlag (f := flagOutsideSpeedBand) (n := 9) rfl (by decide),
    getLsbD_oneFlag (f := flagRowDisagree) (n := 11) rfl (by decide),
    getLsbD_oneFlag (f := flagChannelFault) (n := 17) rfl (by decide), Bool.or_eq_true, Bool.and_eq_true, decide_eq_true_eq,
    or_assoc]

/-- The grade of a weighed axle is that of its flags. -/
theorem weigh_grade (s : State) (v : Nat) (x : Axle) :
    (s.weigh v x).grade = some (axleGrade true x.partA x.partB (s.weigh v x).flags) := rfl

end

theorem outside_iff (p : WeighPar) (v : Nat) : p.outside v = true ↔ v < p.bandLow ∨ p.bandHigh < v := by
  unfold WeighPar.outside
  rw [Bool.or_eq_true, decide_eq_true_eq, decide_eq_true_eq]

/-- Settles O56: each stage is the model's own; the flags and the grade go bit by bit. -/
theorem speedAndLoadArithmetic : Obligations.SpeedAndLoadArithmetic := by
  refine ⟨wheelLoad_eq, fun s p cB hlt hle hpos => ?_, fun s v x _ => ?_, curveFactor_cases, fun s l r => ?_, fun s v x => ?_,
    fun p i => ?_⟩
  · refine ⟨clamp_eq_bring hle _, ?_⟩
    show (decide (p.centroid + 16 * s.lowEnd p ≤ cB) && decide (cB ≤ p.centroid + 16 * s.highEnd p)) = true ↔ _
    rw [Bool.and_eq_true, decide_eq_true_eq, decide_eq_true_eq]
    show p.centroid + 16 * ((2 * (s.spacing p * 8192) + s.axle.par.vmax) / (2 * s.axle.par.vmax)) ≤ cB
      ∧ cB ≤ p.centroid + 16 * ((2 * (s.spacing p * 8192) + s.axle.par.vmin) / (2 * s.axle.par.vmin)) ↔
      16 * ((2 * (s.spacing p * 8192) + s.axle.par.vmax) / (2 * s.axle.par.vmax)) ≤ cB - p.centroid
      ∧ cB - p.centroid ≤ 16 * ((2 * (s.spacing p * 8192) + s.axle.par.vmin) / (2 * s.axle.par.vmin))
    omega
  · have h := axleGrade_iff x.partA x.partB (s.weigh v x).flags
    simp only [partsSpoilt_iff, hasFlag_poor, hasFlag_fair] at h
    simp only [weigh_grade, Option.some_inj]
    exact h
  · refine ⟨?_, ?_⟩
    · unfold State.driftFactor State.bandA
      cases s.temp.rows.a <;> rfl
    · cases r with
      | a =>
        unfold rowFactor
        rw [show PerRow.get s.temp.rows .a = s.temp.rows.a from rfl]
        cases s.temp.rows.a <;> rfl
      | b =>
        unfold rowFactor
        rw [show PerRow.get s.temp.rows .b = s.temp.rows.b from rfl]
        cases s.temp.rows.b <;> rfl
  · have hload (r : Row) (w : Option Wheel) : s.wheelLoad? v (rowFactor s.temp r).1 w = match w with
        | none => (0, false)
        | some g => s.wheelLoad v (rowFactor s.temp r).1 g := by
      cases w <;> rfl
    have hboth (a b : Option Wheel) (i j : Nat) : combine a b i j = match a, b with
        | some _, some _ => halfUp (i + j) 2
        | some _, none => i
        | none, some _ => j
        | none, none => 0 := by
      cases a <;> cases b <;> rfl
    have hloads : s.axleLoads v x.partA x.partB = ((s.weigh v x).loads, (s.axleLoads v x.partA x.partB).2) := rfl
    intro y near far load both an af bn bf n f state has
    have hsat : (s.axleLoads v x.partA x.partB).2 = (an.2 || af.2 || bn.2 || bf.2) := by
      simp only [State.axleLoads, hload]
      rfl
    refine ⟨rfl, ?_, fun i hi => ?_, ?_, ?_, ?_, ?_, ?_, ?_, ?_, ?_⟩
    · show (s.axleLoads v x.partA x.partB).1 = _
      simp only [State.axleLoads, hload, hboth]
      rfl
    · rw [Bool.eq_iff_iff]
      show (s.weigh v x).flags.getLsbD i = true ↔ _
      rw [weigh_flags_bit, rowTemp_flag_bit, rowTemp_flag_bit]
      refine ⟨fun h => h.resolve_right ?_, .inl⟩
      omega
    all_goals
      simp only [has, y, state, weigh_flags_bit, rowTemp_flag_bit, hsat, outside_iff, partsFault_iff, Bool.or_eq_true]
      simp
    all_goals tauto
  · rw [rowAxle_flags_bit]
    simp only [Bool.or_eq_true, Bool.and_eq_true, decide_eq_true_eq]
    tauto

end Sys2Proof.Machine
end

section
/-!
PROOFS. The outgoing queue (R153 to R155): entry, loss and displacement, the records a cascade makes, and what every
record created or lost leaves of the counts.
-/

namespace Sys2Proof.Machine

/-! ### Entry, loss and displacement -/

theorem handEvent_eq (e : TrigEvent) (s : State) : handEvent e s = s.told e := by
  unfold handEvent State.told
  split <;> rfl

theorem loseRecord_eq (r : Rec) (s : State) : loseRecord r s = s.lost r.kind := by
  cases hk : r.kind <;> simp only [loseRecord, hk, State.lost, handEvent_eq, satInc_eq]

theorem put_eq (lo v : Nat) : put lo v = 2 ^ lo * v := by
  unfold put
  rw [Nat.shiftLeft_eq, Nat.mul_comm]

/-- The record that `createRecord` makes. -/
theorem newRecord_eq (k : RecKind) (ws : List Nat) (s : State) :
    s.newRecord k ws = { serial := s.rw.created + 1, kind := k, words := stamped (s.rw.created + 1) ws } := by
  have hstamp (n : Nat) : put 22 n = 4194304 * n := by
    rw [put_eq]
    norm_num
  have hword : toWord = BitVec.ofNat 32 := rfl
  cases ws with
  | nil => rfl
  | cons w rest => rw [State.newRecord, stamped, hstamp, hword]

theorem raiseNoPage_of_ne_nil {s : State} (h : s.rw.queue ≠ []) :
    raiseNoPage s = { s with regs.noPage := s.regs.noPage || (s.rw.page.isNone && s.ex.resultList.isEmpty) } := by
  have hq : s.rw.queue.isEmpty = false := by simpa using h
  rw [raiseNoPage_eq, State.noPageHolds, hq]
  rfl

section
variable {s : State} {r : Rec}

/-- NO_PAGE as an entry leaves it (R155). -/
def State.noPageAtEntry (s : State) : Bool := s.regs.noPage || (s.rw.page.isNone && s.ex.resultList.isEmpty)

/-- A record enters a queue with room. -/
theorem enterRecord_free (h : s.rw.queue.length < 64) :
    enterRecord r s =
      (let u : State := { s with rw.queue := s.rw.queue ++ [r] }
       let t : State := if s.rw.queue.length = 31 then u.told (.backlog 32) else u
       { t with regs.noPage := s.noPageAtEntry }) := by
  have hne : s.rw.queue ++ [r] ≠ [] := by simp
  unfold enterRecord
  rw [if_pos (show s.rw.queue.length < queueMax from h)]
  dsimp only
  split
  · rw [handEvent_eq]
    exact raiseNoPage_of_ne_nil (s := ({ s with rw.queue := s.rw.queue ++ [r] } : State).told (.backlog 32)) hne
  · exact raiseNoPage_of_ne_nil (s := { s with rw.queue := s.rw.queue ++ [r] }) hne

/-- A full queue takes no record of another kind than a vehicle's. -/
theorem enterRecord_full (h : 64 ≤ s.rw.queue.length) (hk : r.kind ≠ .vehicle) : enterRecord r s = s.lost r.kind := by
  unfold enterRecord
  rw [if_neg (show ¬s.rw.queue.length < queueMax from Nat.not_lt.mpr h), if_neg hk, loseRecord_eq]

/-- What follows a loss for the queue, the page and NO_PAGE: nothing. -/
theorem lost_noPage (s : State) (k : RecKind) :
    (s.lost k).regs = s.regs ∧ (s.lost k).rw.queue = s.rw.queue ∧ (s.lost k).rw.page = s.rw.page ∧ (s.lost k).ex = s.ex := by
  cases k <;> exact ⟨rfl, rfl, rfl, rfl⟩

/-- A vehicle record takes the place of the record displaced. -/
theorem enterRecord_displacing {old : Rec} {rest : List Rec} (h : 64 ≤ s.rw.queue.length) (hk : r.kind = .vehicle)
    (hd : displaceable s.rw.pinned s.rw.queue = some (old, rest)) :
    enterRecord r s =
      (let t : State := ({ s with rw.queue := rest ++ [r] } : State).lost old.kind
       { t with regs.noPage := s.noPageAtEntry }) := by
  unfold enterRecord
  rw [if_neg (show ¬s.rw.queue.length < queueMax from Nat.not_lt.mpr h), if_pos hk, hd]
  dsimp only
  rw [loseRecord_eq]
  obtain ⟨hregs, hqueue, hpage, hex⟩ := lost_noPage { s with rw.queue := rest ++ [r] } old.kind
  rw [raiseNoPage_of_ne_nil (by rw [hqueue]; simp), hregs, hpage, hex]
  rfl

theorem enterRecord_undisplaced (h : 64 ≤ s.rw.queue.length) (hk : r.kind = .vehicle)
    (hd : displaceable s.rw.pinned s.rw.queue = none) : enterRecord r s = s.lost .vehicle := by
  unfold enterRecord
  rw [if_neg (show ¬s.rw.queue.length < queueMax from Nat.not_lt.mpr h), if_pos hk, hd]
  dsimp only
  rw [loseRecord_eq, hk]

end

/-! ### The record displaced -/

section
variable {pre post : List Rec} {old : Rec}

theorem takeOldestOther_eq (hpre : ∀ x ∈ pre, x.kind = .vehicle) (hold : old.kind ≠ .vehicle) :
    takeOldestOther (pre ++ old :: post) = some (old, pre ++ post) := by
  induction pre with
  | nil => rw [List.nil_append, takeOldestOther, if_neg hold, List.nil_append]
  | cons x rest ih =>
    rw [List.cons_append, takeOldestOther, if_pos (hpre x (by simp)), ih fun y hy => hpre y (by simp [hy])]
    rfl

theorem takeOldestOther_none {q : List Rec} (h : ∀ x ∈ q, x.kind = .vehicle) : takeOldestOther q = none := by
  induction q with
  | nil => rfl
  | cons x rest ih => rw [takeOldestOther, if_pos (h x (by simp)), ih fun y hy => h y (by simp [hy])]; rfl

/-- The first records of a queue, up to place `i`, are vehicle records but for a pinned head. -/
def KeptUpTo (pinned : Bool) (q : List Rec) (i : Nat) : Prop :=
  ∀ j d, j < i → q[j]? = some d → d.kind = .vehicle ∨ j = 0 ∧ pinned = true

theorem KeptUpTo.vehicles {q : List Rec} {i : Nat} (h : KeptUpTo false q i) : ∀ x ∈ q.take i, x.kind = .vehicle := by
  intro x hx
  obtain ⟨j, hj, rfl⟩ := List.getElem_of_mem hx
  rw [List.length_take] at hj
  obtain hv | ⟨_, hp⟩ := h j _ (by omega) (by rw [List.getElem?_eq_getElem (by omega)])
  · rw [List.getElem_take]
    exact hv
  · cases hp

theorem KeptUpTo.vehicles_tail {r : Rec} {q : List Rec} {i : Nat} {p : Bool} (h : KeptUpTo p (r :: q) (i + 1)) :
    ∀ x ∈ q.take i, x.kind = .vehicle := by
  intro x hx
  obtain ⟨j, hj, rfl⟩ := List.getElem_of_mem hx
  rw [List.length_take] at hj
  obtain hv | ⟨h0, _⟩ := h (j + 1) q[j] (by omega) (by rw [List.getElem?_cons_succ, List.getElem?_eq_getElem (by omega)])
  · rw [List.getElem_take]
    exact hv
  · omega

/-- The oldest record of the other kind behind a pinned head is displaced (R154). -/
theorem displaceable_eq {pinned : Bool} (hkept : KeptUpTo pinned (pre ++ old :: post) pre.length) (hold : old.kind ≠ .vehicle)
    (hpin : pinned = true → pre ≠ []) : displaceable pinned (pre ++ old :: post) = some (old, pre ++ post) := by
  cases pinned with
  | false =>
    have hpre := hkept.vehicles
    rw [List.take_left' rfl] at hpre
    exact takeOldestOther_eq hpre hold
  | true =>
    cases pre with
    | nil => exact absurd rfl (hpin rfl)
    | cons r rest =>
      have hrest : ∀ x ∈ (rest ++ old :: post).take rest.length, x.kind = .vehicle := KeptUpTo.vehicles_tail hkept
      rw [List.take_left' rfl] at hrest
      show (takeOldestOther (rest ++ old :: post)).map _ = _
      rw [takeOldestOther_eq hrest hold]
      rfl

theorem displaceable_none {pinned : Bool} {q : List Rec} (h : KeptUpTo pinned q q.length) : displaceable pinned q = none := by
  cases pinned with
  | false =>
    have hq := h.vehicles
    rw [List.take_length] at hq
    exact takeOldestOther_none hq
  | true =>
    cases q with
    | nil => rfl
    | cons r rest =>
      have hq := KeptUpTo.vehicles_tail h
      rw [List.take_length] at hq
      show (takeOldestOther rest).map _ = _
      rw [takeOldestOther_none hq]
      rfl

end

/-- Settles O42: the entry by the room in the queue, and by the record it may displace. -/
theorem queueTakesAndLoses : Obligations.QueueTakesAndLoses := by
  intro k ws s r noPage s1 kept
  have hcreate : createRecord k ws s = enterRecord r s1 := by
    rw [createRecord, show r = s.newRecord k ws from rfl, newRecord_eq]
  refine ⟨fun h => ?_, fun h hk => ?_, fun pre old post h hk hq hold hpin hkept => ?_, fun h hk hkept => ?_⟩
  · rw [hcreate]
    exact enterRecord_free (s := s1) h
  · rw [hcreate]
    exact enterRecord_full (s := s1) h hk
  · have hd : displaceable s1.rw.pinned s1.rw.queue = some (old, pre ++ post) := by
      rw [show s1.rw.queue = pre ++ old :: post from hq]
      exact displaceable_eq (by rw [← hq]; exact hkept) hold hpin
    rw [hcreate]
    exact enterRecord_displacing (s := s1) h hk hd
  · rw [hcreate]
    exact enterRecord_undisplaced (s := s1) h hk (displaceable_none hkept)

end Sys2Proof.Machine
end

section
/-!
PROOFS. The records of a cascade: each firing of a set reports once at most, and no set fires twice (R133, R135, R142).
-/

namespace Sys2Proof.Machine

/-! ### Trigger records -/

/-- `t` comes from `s` by `k` trigger records: of those, the ones that found room stand at the queue's tail, the others
are counted lost. -/
structure Reported (k : Nat) (s t : State) : Prop where
  created : t.rw.created = s.rw.created + k
  queue : ∃ more, t.rw.queue = s.rw.queue ++ more ∧ (∀ r ∈ more, r.kind = .trigger ∧ s.rw.created < r.serial) ∧ more.length ≤ k
    ∧ t.rw.lostOther = (if k = more.length then s.rw.lostOther else raised s.rw.lostOther (k - more.length))
  lostVehicle : t.rw.lostVehicle = s.rw.lostVehicle

theorem Reported.of_rw {s t : State} (h : t.rw = s.rw) : Reported 0 s t :=
  ⟨by rw [h]; rfl, ⟨[], by simp [h], by simp, le_rfl, by rw [h]; rfl⟩, by rw [h]⟩

theorem raised_raised (n j k : Nat) : raised (raised n j) k = raised n (j + k) := by
  unfold raised
  omega

theorem Reported.trans {j k : Nat} {s t u : State} (h : Reported j s t) (h' : Reported k t u) : Reported (j + k) s u := by
  obtain ⟨hc, ⟨more, hq, hmore, hlen, hlost⟩, hv⟩ := h
  obtain ⟨hc', ⟨more', hq', hmore', hlen', hlost'⟩, hv'⟩ := h'
  refine ⟨by omega, ⟨more ++ more', by rw [hq', hq, List.append_assoc], fun r hr => ?_, by rw [List.length_append]; omega, ?_⟩,
    hv'.trans hv⟩
  · obtain hr | hr := List.mem_append.mp hr
    · exact hmore r hr
    · obtain ⟨hk, hs⟩ := hmore' r hr
      exact ⟨hk, by omega⟩
  · rw [hlost', hlost, List.length_append]
    by_cases hj : j = more.length <;> by_cases hk : k = more'.length
    · rw [if_pos hk, if_pos hj, if_pos (by omega)]
    · rw [if_neg hk, if_pos hj, if_neg (by omega)]
      congr 1
      omega
    · rw [if_pos hk, if_neg hj, if_neg (by omega)]
      congr 1
      omega
    · rw [if_neg hk, if_neg hj, if_neg (by omega), raised_raised]
      congr 1
      omega

/-- A trigger record created. -/
theorem createRecord_reported (ws : List Nat) (s : State) : Reported 1 s (createRecord .trigger ws s) := by
  refine ⟨createRecord_created .trigger ws s, ?_, ?_⟩
  · unfold createRecord
    by_cases hroom : s.rw.queue.length < 64
    · refine ⟨[⟨s.rw.created + 1, .trigger, stamped (s.rw.created + 1) ws⟩], ?_, ?_, le_rfl, ?_⟩
      · rw [enterRecord_free (s := { s with rw.created := s.rw.created + 1 }) hroom]
        dsimp only
        split <;> rfl
      · intro r hr
        obtain rfl := List.mem_singleton.mp hr
        exact ⟨rfl, Nat.lt_succ_self _⟩
      · rw [enterRecord_free (s := { s with rw.created := s.rw.created + 1 }) hroom]
        dsimp only
        split <;> rfl
    · have hlost := enterRecord_full (r := ⟨s.rw.created + 1, .trigger, stamped (s.rw.created + 1) ws⟩)
        (s := { s with rw.created := s.rw.created + 1 }) (Nat.not_lt.mp hroom) (by simp)
      dsimp only
      rw [hlost]
      exact ⟨[], by simp [State.lost], by simp, by simp, rfl⟩
  · unfold createRecord
    by_cases hroom : s.rw.queue.length < 64
    · rw [enterRecord_free (s := { s with rw.created := s.rw.created + 1 }) hroom]
      dsimp only
      split <;> rfl
    · have hlost := enterRecord_full (r := ⟨s.rw.created + 1, .trigger, stamped (s.rw.created + 1) ws⟩)
        (s := { s with rw.created := s.rw.created + 1 }) (Nat.not_lt.mp hroom) (by simp)
      dsimp only
      rw [hlost]
      rfl

/-! ### A firing -/

theorem firePulse_rw (e : TrigEvent) (n : SetId) (s : State) : (firePulse e n s).1.rw = s.rw := by
  unfold firePulse
  split
  · rfl
  · unfold placePulse
    split
    · rfl
    · rfl
    · dsimp only
      split <;> rfl

theorem fireTimer_rw (n : SetId) (s : State) : (fireTimer n s).rw = s.rw := by
  unfold fireTimer
  split <;> rfl

theorem fireCapture_rw (e : TrigEvent) (n : SetId) (s : State) : (fireCapture e n s).1.rw = s.rw := by
  unfold fireCapture
  split
  · rfl
  · unfold applyCaptureAction
    split
    · rfl
    · unfold armCapture
      dsimp only
      split <;> rfl

theorem fireReport_reported (e : TrigEvent) (n : SetId) (a : Bool) (r : PulseResult) (b : Bool) (s : State) :
    ∃ k ≤ 1, Reported k s (fireReport e n a r b s) := by
  unfold fireReport
  split
  · exact ⟨1, le_rfl, createRecord_reported ..⟩
  · exact ⟨0, Nat.zero_le _, .of_rw rfl⟩

theorem fireSteps_reported (e : TrigEvent) (n : SetId) (a : Bool) (s : State) : ∃ k ≤ 1, Reported k s (fireSteps e n a s) := by
  unfold fireSteps
  dsimp only
  obtain ⟨k, hk, hreport⟩ := fireReport_reported e n a (firePulse e n s).2 (fireCapture e n (fireTimer n (firePulse e n s).1)).2
    (fireCapture e n (fireTimer n (firePulse e n s).1)).1
  have hbefore : (fireCapture e n (fireTimer n (firePulse e n s).1)).1.rw = s.rw := by
    rw [fireCapture_rw, fireTimer_rw, firePulse_rw]
  have hafter (d : TriggerDef) (u : State) :
      Reported 0 u (applyMasks d.enableMask d.disableMask (if d.once then setEnabled n false u else u)) := by
    refine .of_rw ?_
    split <;> rfl
  refine ⟨k, hk, ?_⟩
  have hall := ((Reported.of_rw hbefore).trans hreport).trans (hafter (s.trig.sets.get n).dfn _)
  rwa [Nat.zero_add, Nat.add_zero] at hall

/-! ### A chain of firings -/

/-- The sets fired. -/
def firedCount (m : BitVec 8) : Nat := ((indices 8).filter fun n => m.getLsbD n.val).length

theorem getLsbD_setBit (n m : SetId) : (setBit n).getLsbD m.val = decide (n = m) := by
  have htwo : setBit n = BitVec.twoPow 8 n.val := BitVec.eq_of_toNat_eq (by simp [setBit])
  rw [htwo, BitVec.getLsbD_twoPow, Bool.eq_iff_iff, Bool.and_eq_true, decide_eq_true_eq, decide_eq_true_eq, decide_eq_true_eq,
    Fin.ext_iff]
  exact ⟨fun h => h.2, fun h => ⟨n.isLt, h⟩⟩

theorem inMask_or_setBit (m : BitVec 8) (n k : SetId) : inMask (m ||| setBit n) k = (inMask m k || decide (n = k)) := by
  unfold inMask
  rw [BitVec.getLsbD_or, getLsbD_setBit]

/-- A list's members of a property, and one more. -/
theorem filter_or_length {α : Type} [DecidableEq α] {l : List α} (hl : l.Nodup) {a : α} (ha : a ∈ l) {p : α → Bool}
    (hp : p a = false) : (l.filter fun x => p x || decide (a = x)).length = (l.filter p).length + 1 := by
  induction l with
  | nil => cases ha
  | cons b rest ih =>
    obtain ⟨hb, hrest⟩ := List.nodup_cons.mp hl
    by_cases hab : a = b
    · subst hab
      have hsame : rest.filter (fun x => p x || decide (a = x)) = rest.filter p := by
        refine List.filter_congr fun x hx => ?_
        rw [decide_eq_false (p := a = x) (by rintro rfl; exact hb hx), Bool.or_false]
      rw [List.filter_cons_of_pos (by simp), List.filter_cons_of_neg (by simp [hp]), hsame, List.length_cons]
    · have hmem : a ∈ rest := (List.mem_cons.mp ha).resolve_left hab
      have ih := ih hrest hmem
      by_cases hpb : p b = true
      · rw [List.filter_cons_of_pos (by simp [hpb]), List.filter_cons_of_pos hpb, List.length_cons, List.length_cons, ih]
      · rw [List.filter_cons_of_neg (by simp [hpb, hab]), List.filter_cons_of_neg hpb, ih]

theorem indices8_nodup : (indices 8).Nodup := by decide

/-- A set that fires for the first time is one more. -/
theorem firedCount_setBit {m : BitVec 8} {n : SetId} (h : inMask m n = false) : firedCount (m ||| setBit n) = firedCount m + 1 := by
  have hor := filter_or_length indices8_nodup (mem_indices 8 n) (p := fun k => m.getLsbD k.val) h
  unfold firedCount
  rw [← hor]
  congr 1
  refine List.filter_congr fun k _ => ?_
  exact inMask_or_setBit m n k

/-- From `s` on, no more trigger records were made than sets have fired. -/
def ReportsFired (s : State) (a : State × BitVec 8) : Prop := ∃ k ≤ firedCount a.2, Reported k s a.1

theorem ReportsFired.foldl {s : State} {l : List SetId} {f : State × BitVec 8 → SetId → State × BitVec 8}
    (hf : ∀ a n, ReportsFired s a → ReportsFired s (f a n)) {a : State × BitVec 8} (h : ReportsFired s a) :
    ReportsFired s (l.foldl f a) := by
  induction l generalizing a with
  | nil => exact h
  | cons n rest ih => exact ih (hf a n h)

theorem mayFire_unfired {s : State} {m : BitVec 8} {n : SetId} (h : mayFire s m n = true) : inMask m n = false := by
  rw [mayFire, Bool.and_eq_true, Bool.not_eq_true'] at h
  exact h.2

/-- The firing of a set not fired yet, with its chain. -/
theorem fire_reported {s : State} {e : TrigEvent} {depth : Nat} {n : SetId} {activated : Bool} {a : State × BitVec 8}
    (hn : inMask a.2 n = false) (h : ReportsFired s a) : ReportsFired s (fire e depth n activated a) := by
  induction depth generalizing n activated a with
  | zero => exact h
  | succ depth ih =>
    obtain ⟨k, hk, hreport⟩ := h
    obtain ⟨j, hj, hsteps⟩ := fireSteps_reported e n activated a.1
    rw [fire]
    refine ReportsFired.foldl (fun b m hb => ?_) ⟨k + j, ?_, hreport.trans hsteps⟩
    · split
      · rename_i hm
        exact ih (mayFire_unfired (Bool.and_eq_true _ _ ▸ hm).2) hb
      · exact hb
    · dsimp only
      rw [firedCount_setBit hn]
      omega

theorem runCascade_reported (e : TrigEvent) (s : State) : ReportsFired s (runCascade e s) := by
  have hstart : ReportsFired s (s, 0) := ⟨0, Nat.zero_le _, .of_rw rfl⟩
  unfold runCascade
  split
  · refine ReportsFired.foldl (fun a n ha => ?_) hstart
    split
    · rename_i hn
      exact fire_reported (mayFire_unfired (Bool.and_eq_true _ _ ▸ hn).1) ha
    · exact ha
  · exact hstart

/-- Settles O37: a firing adds its set to those fired, and its record at most. -/
theorem cascadeReportsEachFiredSetOnce : Obligations.CascadeReportsEachFiredSetOnce := by
  intro e s
  obtain ⟨k, hk, hcreated, ⟨more, hqueue, hmore, _, _⟩, _⟩ := runCascade_reported e s
  refine ⟨?_, by omega, fun r hr => ?_⟩
  · rw [hcreated]
    exact Nat.add_le_add_left hk _
  · rw [hqueue, List.mem_append] at hr
    exact hr.imp_right (hmore r)

end Sys2Proof.Machine
end

section
/-!
PROOFS. Assignment, joining, splitting and completion of axles (R88 to R93).
-/

namespace Sys2Proof.Machine

/-! ### Times and speeds of a context, as chapter 5 words them -/

section
variable {s : State}

theorem setContext_withSlot (l : Lane) (k : Slot) (c : Context) (s : State) : setContext l k (some c) s = s.withSlot l k c := rfl

theorem provTime_eq (s : State) (x : Axle) (last : Option Nat) : s.provTime x last = s.provisional x last := by
  unfold State.provTime State.provisional
  cases x.partA <;> cases x.partB <;> rfl

theorem idleTime_eq (s : State) (v : Option Nat) : s.idleTime v = s.idleTicks v := by
  cases v <;> rfl

theorem closeMargin_eq (s : State) (l : Lane) (v : Option Nat) : s.closeMargin l v = marginOf (s.site.geom.get l) v := by
  cases v with
  | none => rfl
  | some v => exact clamp_eq_bring (by omega) _

theorem meanOwnSpeed_eq (xs : List Axle) (d : Nat) : (meanOwnSpeed xs).getD d = ownMeanOr d xs := by
  unfold meanOwnSpeed ownSpeeds ownMeanOr
  cases xs.filterMap (·.own) <;> rfl

theorem latestProv_eq_none {xs : List Axle} : latestProv xs = none ↔ xs = [] := by
  cases xs with
  | nil => exact iff_of_true rfl rfl
  | cons x rest =>
    rw [latestProv]
    split <;> simp

theorem latestProv_eq_some {xs : List Axle} {t : Int} : latestProv xs = some t ↔ IsLatest xs t := by
  induction xs generalizing t with
  | nil => exact iff_of_false (by simp [latestProv]) fun h => by simp [IsLatest] at h
  | cons x rest ih =>
    rw [latestProv]
    cases hr : latestProv rest with
    | none =>
      rw [latestProv_eq_none] at hr
      subst hr
      rw [Option.some_inj]
      constructor
      · rintro rfl
        exact ⟨⟨x, by simp, rfl⟩, fun y hy => by rw [List.mem_singleton.mp hy]⟩
      · rintro ⟨⟨y, hy, rfl⟩, -⟩
        rw [List.mem_singleton.mp hy]
    | some u =>
      obtain ⟨⟨y, hy, hyu⟩, hle⟩ := ih.mp hr
      dsimp only
      rw [Option.some_inj]
      constructor
      · rintro rfl
        refine ⟨?_, fun z hz => ?_⟩
        · obtain hxu | hux := le_total x.prov u
          · exact ⟨y, by simp [hy], by rw [max_eq_right hxu, hyu]⟩
          · exact ⟨x, by simp, by rw [max_eq_left hux]⟩
        · obtain rfl | hz := List.mem_cons.mp hz
          · exact le_max_left ..
          · exact (hle z hz).trans (le_max_right ..)
      · rintro ⟨⟨z, hz, rfl⟩, hall⟩
        have hx := hall x (by simp)
        have hy := hall y (by simp [hy])
        refine le_antisymm (max_le hx (hyu ▸ hy)) ?_
        obtain rfl | hz := List.mem_cons.mp hz
        · exact le_max_left ..
        · exact (hle z hz).trans (le_max_right ..)

/-- An axle stands behind those of no later provisional time. -/
theorem insertAxle_eq {x : Axle} {pre post : List Axle} (hpre : ∀ y ∈ pre, y.prov ≤ x.prov)
    (hpost : ∀ y, post.head? = some y → x.prov < y.prov) : insertAxle x (pre ++ post) = pre ++ x :: post := by
  induction pre with
  | nil =>
    cases post with
    | nil => rfl
    | cons y rest =>
      rw [List.nil_append, insertAxle, if_neg (not_le.mpr (hpost y rfl))]
      rfl
  | cons y rest ih =>
    rw [List.cons_append, insertAxle, if_pos (hpre y (by simp)), ih fun z hz => hpre z (by simp [hz]), List.cons_append]

theorem lastSpeedOf_eq (xs : List Axle) : lastSpeedOf xs = (xs.filterMap (·.own)).getLast? := by
  induction xs with
  | nil => rfl
  | cons x rest ih =>
    rw [lastSpeedOf, ih]
    cases hx : x.own with
    | none =>
      rw [List.filterMap_cons_none hx]
      cases (rest.filterMap (·.own)).getLast? <;> rfl
    | some v =>
      rw [List.filterMap_cons_some hx, List.getLast?_cons]
      cases (rest.filterMap (·.own)).getLast? <;> rfl

/-! ### The primary lane (R88) -/

theorem laneHolds_iff (s : State) (l : Lane) : s.laneHolds l = true ↔ s.Holds l := by
  unfold State.laneHolds State.Holds
  rw [Bool.or_eq_true, Option.isSome_iff_exists, Option.isSome_iff_exists]
  constructor
  · rintro (⟨c, h⟩ | ⟨c, h⟩)
    · exact ⟨_, c, h⟩
    · exact ⟨_, c, h⟩
  · rintro ⟨k, c, h⟩
    cases k with
    | openSlot => exact .inl ⟨c, h⟩
    | closingSlot => exact .inr ⟨c, h⟩

theorem laneAxles_eq (s : State) (l : Lane) : s.laneAxles l = s.axlesOf l := by
  unfold State.laneAxles State.axlesOf
  cases s.context l .closingSlot <;> cases s.context l .openSlot <;> rfl

theorem laneOnset_eq (s : State) (l : Lane) : s.laneOnset l = s.onsetOf l := by
  unfold State.laneOnset State.onsetOf
  cases s.context l .openSlot <;> cases s.context l .closingSlot <;> rfl

theorem natAbs_lt_iff (a b : Int) : a.natAbs < b.natAbs ↔ |a| < |b| := by
  rw [Int.abs_eq_natAbs, Int.abs_eq_natAbs]
  omega

/-- With contexts in both lanes the nearer axles choose, then the earlier onset. -/
theorem straddleUpper_both {n m : Lane} {ref : Nat} (hn : s.laneHolds n = true) (hm : s.laneHolds m = true) :
    s.straddleUpper n m ref = true ↔
      (∃ tn tm, IsLatest (s.axlesOf n) tn ∧ IsLatest (s.axlesOf m) tm ∧ |(ref : Int) - tm| < |(ref : Int) - tn|)
      ∨ (s.axlesOf n = [] ∧ s.axlesOf m ≠ [])
      ∨ (s.axlesOf n = [] ∧ s.axlesOf m = []
        ∧ ∃ a b, s.onsetOf n = some a ∧ s.onsetOf m = some b ∧ tickOffset s.clock b < tickOffset s.clock a) := by
  unfold State.straddleUpper
  rw [hn, hm]
  dsimp only
  rw [laneAxles_eq, laneAxles_eq, laneOnset_eq, laneOnset_eq]
  simp only [← latestProv_eq_some, ← latestProv_eq_none, ne_eq]
  cases latestProv (s.axlesOf n) with
  | some tn =>
    cases latestProv (s.axlesOf m) with
    | some tm => simp [natAbs_lt_iff]
    | none => simp
  | none =>
    cases latestProv (s.axlesOf m) with
    | some tm => simp
    | none => cases s.onsetOf n <;> cases s.onsetOf m <;> simp

theorem straddleUpper_iff (s : State) (n m : Lane) (ref : Nat) : s.straddleUpper n m ref = true ↔ s.UpperLane n m ref := by
  unfold State.UpperLane
  rw [← laneHolds_iff, ← laneHolds_iff]
  cases hn : s.laneHolds n with
  | true =>
    cases hm : s.laneHolds m with
    | true => simp [straddleUpper_both hn hm]
    | false => simp [State.straddleUpper, hn, hm]
  | false =>
    cases hm : s.laneHolds m with
    | true => simp [State.straddleUpper, hn, hm]
    | false => simp [State.straddleUpper, hn, hm]

theorem primaryLane_eq {p : RowAxle} {l : Lane} (h : s.PrimaryLane p l) : s.primaryLane p = l := by
  unfold State.primaryLane
  obtain ⟨hp, rfl⟩ | ⟨hp, m, hm, h⟩ := h
  · rw [hp]
    rfl
  · have hnext : p.lane + 1 = m := by
      rw [Fin.ext_iff, Fin.val_add_one, hm]
      have := m.isLt
      split
      · rename_i hlast
        rw [hlast] at hm
        simp at hm
        omega
      · rfl
    rw [hp, hnext, Bool.true_and]
    obtain ⟨hup, rfl⟩ | ⟨hup, rfl⟩ := h
    · rw [if_pos ((straddleUpper_iff ..).mpr hup)]
    · rw [if_neg fun e => hup ((straddleUpper_iff ..).mp e)]

/-! ### Opening (R90) -/

theorem joined_first (x : Axle) {c : Context} (s : State) (hc : c.axles = []) (ht : c.total = 0) (hl : c.lastSpeed = none)
    (hi : c.idleDeadline = none) : s.joined x c = s.firstOf x c := by
  unfold State.joined State.firstOf
  rw [hc, ht, hl, hi, provTime_eq]
  rfl

/-- A context opened by an axle holds it alone. -/
theorem openWithAxle_eq (l : Lane) (k : Slot) {mk : Nat → Context} (x : Axle) (s : State)
    (hmk : ∀ n, (mk n).axles = [] ∧ (mk n).total = 0 ∧ (mk n).lastSpeed = none ∧ (mk n).idleDeadline = none) :
    openWithAxle l k mk x s = ({ s with veh.serial := nextSerial s.veh.serial } : State).withSlot l k
      (s.firstOf x (mk (nextSerial s.veh.serial))) := by
  obtain ⟨ha, ht, hl, hi⟩ := hmk (nextSerial s.veh.serial)
  rw [← joined_first x s ha ht hl hi]
  rfl

/-! ### Assignment (R89, R90) -/

theorem loopStuck_iff (s : State) (l : Lane) : s.loopStuck l = true ↔ ∃ n, s.loops.get l = .stuck n := by
  unfold State.loopStuck
  cases s.loops.get l <;> simp

section
variable {x : Axle} {p : RowAxle} {l : Lane}

theorem assignAxle_slot {k : Slot} (hp : x.leadPart = some p) (hl : s.primaryLane p = l)
    (hk : s.chooseSlot l x p.centroid = some k) : assignAxle x s = joinSlot l k x s := by
  subst hl
  unfold assignAxle
  rw [hp]
  dsimp only
  rw [hk]

theorem assignAxle_opens (hp : x.leadPart = some p) (hl : s.primaryLane p = l) (hk : s.chooseSlot l x p.centroid = none)
    (hm : s.mayOpen = true) :
    assignAxle x s = openWithAxle l .openSlot (fun n => Context.onAxle n (s.loopStuck l)) x s := by
  subst hl
  unfold assignAxle
  rw [hp]
  dsimp only
  rw [hk]
  exact if_pos hm

theorem assignAxle_discards (hp : x.leadPart = some p) (hl : s.primaryLane p = l) (hk : s.chooseSlot l x p.centroid = none)
    (hm : s.mayOpen = false) : assignAxle x s = s := by
  subst hl
  unfold assignAxle
  rw [hp]
  dsimp only
  rw [hk]
  exact if_neg (by simp [hm])

end

/-- Settles O19: the lane by the straddle's tables, the context by the two slots. -/
theorem axleChoosesLaneAndContext : Obligations.AxleChoosesLaneAndContext := by
  intro x p l s hx hlane isStuck serial opened
  have hlead : x.leadPart = some p := by
    unfold Axle.leadPart
    obtain h | ⟨ha, hb⟩ := hx
    · rw [h]
    · rw [ha, hb]
  have hprimary := primaryLane_eq hlane
  have hopen (stuck : Bool) (hs : s.loopStuck l = stuck) (hk : s.chooseSlot l x p.centroid = none) (hm : s.mayOpen = true) :
      assignAxle x s = opened stuck := by
    rw [assignAxle_opens hlead hprimary hk hm, openWithAxle_eq _ _ _ _ fun n => ⟨rfl, rfl, rfl, rfl⟩, hs]
    rfl
  refine ⟨fun ho hc => ?_, fun c ho hc => ?_, fun o ho hc => ?_, fun o c ho hc => ?_⟩
  · have hk : s.chooseSlot l x p.centroid = none := by
      unfold State.chooseSlot
      rw [ho, hc]
    exact ⟨fun hm => assignAxle_discards hlead hprimary hk hm, fun hm hs => hopen true ((loopStuck_iff s l).mpr hs) hk hm,
      fun hm hs => hopen false (Bool.not_eq_true _ ▸ fun e => hs ((loopStuck_iff s l).mp e)) hk hm⟩
  · have hk : s.chooseSlot l x p.centroid = if s.loopStuck l && s.mayOpen then none else some .closingSlot := by
      unfold State.chooseSlot
      rw [ho, hc]
    refine ⟨fun hm hs => ?_, fun h => ?_⟩
    · have hstuck := (loopStuck_iff s l).mpr hs
      exact hopen true hstuck (by rw [hk, hstuck, hm]; rfl) hm
    · refine assignAxle_slot hlead hprimary ?_
      rw [hk, if_neg]
      rw [Bool.and_eq_true, loopStuck_iff]
      rintro ⟨hs, hm⟩
      obtain h | h := h
      · rw [hm] at h
        cases h
      · exact h hs
  · refine assignAxle_slot hlead hprimary ?_
    unfold State.chooseSlot
    rw [ho, hc]
  · have hreach : s.frontReach l x.partA.isSome c = halfUp ((if x.partA = none then (s.site.geom.get l).dOA + (s.site.geom.get l).d
        else (s.site.geom.get l).dOA) * 8192) (ownMeanOr s.axle.par.vmax c.axles) := by
      unfold State.frontReach
      rw [meanOwnSpeed_eq]
      cases x.partA <;> rfl
    intro g reach
    refine ⟨fun t ht => ⟨fun h => ?_, fun h => ?_⟩, fun ht => ?_⟩
    · refine assignAxle_slot hlead hprimary ?_
      unfold State.chooseSlot
      rw [ho, hc]
      dsimp only
      rw [ht]
      dsimp only
      rw [hreach]
      exact if_pos h
    · refine assignAxle_slot hlead hprimary ?_
      unfold State.chooseSlot
      rw [ho, hc]
      dsimp only
      rw [ht]
      dsimp only
      rw [hreach]
      exact if_neg (Nat.not_lt.mpr h)
    · refine assignAxle_slot hlead hprimary ?_
      unfold State.chooseSlot
      rw [ho, hc]
      dsimp only
      rw [ht]

/-! ### Joining, splitting, completing (R91 to R93) -/

theorem splits_iff (s : State) (x : Axle) (c : Context) : s.splits x c = true ↔
    s.mayOpen = true ∧ ∃ v last, c.lastSpeed = some v ∧ IsLatest c.axles last ∧ last < s.provisional x c.lastSpeed
      ∧ s.veh.splitDist < halfUp ((s.provisional x c.lastSpeed - last).toNat * v) 131072 := by
  unfold State.splits
  rw [Bool.and_eq_true, provTime_eq]
  refine and_congr_right fun _ => ?_
  simp only [← latestProv_eq_some]
  cases hv : c.lastSpeed with
  | none => simp
  | some v =>
    cases hl : latestProv c.axles with
    | none => simp
    | some last =>
      dsimp only
      rw [Bool.and_eq_true, decide_eq_true_eq, decide_eq_true_eq]
      constructor
      · rintro ⟨h1, h2⟩
        exact ⟨v, last, rfl, rfl, h1, h2⟩
      · rintro ⟨w, z, hw, hz, h1, h2⟩
        cases hw
        cases hz
        exact ⟨h1, h2⟩

/-- A held axle's place is found where it alone is. -/
theorem findAxle_eq {id : Nat} {l : Lane} {k : Slot} {c : Context} (hc : s.context l k = some c) (hx : ∃ x ∈ c.axles, x.id = id)
    (honly : ∀ m j d, s.context m j = some d → (∃ x ∈ d.axles, x.id = id) → m = l ∧ j = k) : s.findAxle id = some (l, k) := by
  have hhere (m : Lane) (j : Slot) (q : Lane × Slot) :
      (match s.context m j with
        | some c => if c.axles.any (fun x => decide (x.id = id)) then some (m, j) else none
        | none => none) = some q → q = (l, k) := by
    cases hd : s.context m j with
    | none => intro h; cases h
    | some d =>
      dsimp only
      split
      · rename_i hany
        obtain ⟨y, hy, hid⟩ := List.any_eq_true.mp hany
        obtain ⟨rfl, rfl⟩ := honly m j d hd ⟨y, hy, of_decide_eq_true hid⟩
        intro h
        exact (Option.some.inj h).symm
      · intro h; cases h
  have hany : c.axles.any (fun x => decide (x.id = id)) = true := by
    obtain ⟨x, hx, hid⟩ := hx
    exact List.any_eq_true.mpr ⟨x, hx, decide_eq_true hid⟩
  unfold State.findAxle
  cases hf : (indices 4).findSome? _ with
  | some q =>
    obtain ⟨m, -, hm⟩ := List.exists_of_findSome?_eq_some hf
    obtain ⟨j, -, hj⟩ := List.exists_of_findSome?_eq_some hm
    rw [hhere m j q hj]
  | none =>
    have hm := List.findSome?_eq_none_iff.mp hf l (mem_indices 4 l)
    have hj := List.findSome?_eq_none_iff.mp hm k (by cases k <;> simp)
    rw [hc] at hj
    dsimp only at hj
    rw [if_pos hany] at hj
    cases hj

theorem findAxle_none {id : Nat} (h : ∀ m j d, s.context m j = some d → ∀ x ∈ d.axles, x.id ≠ id) : s.findAxle id = none := by
  unfold State.findAxle
  refine List.findSome?_eq_none_iff.mpr fun m _ => List.findSome?_eq_none_iff.mpr fun j _ => ?_
  cases hd : s.context m j with
  | none => rfl
  | some d =>
    dsimp only
    rw [if_neg]
    intro hany
    obtain ⟨y, hy, hid⟩ := List.any_eq_true.mp hany
    exact h m j d hd y hy (of_decide_eq_true hid)

/-- A context's deadlines after its last speed (R92, R94, R95). -/
theorem redeadline_eq (s : State) (l : Lane) (c : Context) :
    s.redeadline l c =
      (let v := (c.axles.filterMap (·.own)).getLast?
       { c with
         lastSpeed := v
         closeDeadline := if v = c.lastSpeed then c.closeDeadline else match c.loopEnd with
           | some t => some ((t + marginOf (s.site.geom.get l) v) % 281474976710656)
           | none => c.closeDeadline
         idleDeadline := if v ≠ c.lastSpeed ∧ c.noLoop = true then some ((c.lastJoin + s.idleTicks v) % 281474976710656)
           else c.idleDeadline }) := by
  unfold State.redeadline
  rw [lastSpeedOf_eq]
  dsimp only
  by_cases hv : (c.axles.filterMap (·.own)).getLast? = c.lastSpeed
  · rw [if_pos hv, if_pos hv, if_neg (by simp [hv]), hv]
  · rw [if_neg hv, if_neg hv, closeMargin_eq, idleTime_eq]
    cases hn : c.noLoop with
    | true =>
      rw [if_pos rfl, if_pos ⟨hv, rfl⟩]
      rfl
    | false =>
      rw [if_neg (by simp), if_neg (by simp)]
      rfl

/-- Settles O24: the join by the split test, the completion by the place of the axle. -/
theorem axleJoinsOrSplits : Obligations.AxleJoinsOrSplits := by
  refine ⟨fun l k x c s hc => ⟨fun hno pre post haxles hpre hpost => ?_, fun hparts => ?_⟩, fun id f l k c s hc hx honly => ?_,
    fun id f s h => ?_⟩
  · have hsplit : ¬s.splits x c = true := fun e => hno ((splits_iff s x c).mp e)
    have hinsert := insertAxle_eq (x := { x with prov := s.provisional x c.lastSpeed }) hpre hpost
    unfold joinSlot
    rw [hc]
    dsimp only
    rw [if_neg hsplit, setContext_withSlot, State.joined, provTime_eq, satInc_eq, idleTime_eq]
    simp only [haxles, hinsert]
    rfl
  · have hsplit : s.splits x c = true := (splits_iff s x c).mpr hparts
    unfold joinSlot
    rw [hc]
    dsimp only
    rw [if_pos hsplit, openWithAxle_eq _ _ _ _ fun n => ⟨rfl, rfl, rfl, rfl⟩]
    rfl
  · unfold completeAxle
    rw [findAxle_eq hc hx honly]
    dsimp only
    rw [hc]
    exact congrArg (fun c => closeTest l k (setContext l k (some c) s)) (redeadline_eq ..)
  · unfold completeAxle
    rw [findAxle_none h]

end

end Sys2Proof.Machine
end

section
/-!
PROOFS. Loop onsets and loop ends in the measuring states, and the deadlines that close contexts (R86, R87, R94, R95, R97).
-/

namespace Sys2Proof.Machine

/-! ### What a close leaves of the Vehicle Assembler and the counts -/

section
variable {s : State} {l : Lane} {k : Slot} {c : Context}

theorem captureClosed_veh (n : Nat) (s : State) : (captureClosed n s).veh = s.veh := by
  unfold captureClosed
  repeat' first | rfl | split

theorem captureClosed_idle {n : Nat} (h : s.capturing = false) : captureClosed n s = s := by
  unfold captureClosed
  unfold State.capturing at h
  split
  · rename_i hc
    rw [hc] at h
    cases h
  · rfl

theorem captureClosed_rw (n : Nat) (s : State) : (captureClosed n s).rw = s.rw := by
  unfold captureClosed
  repeat' first | rfl | split

theorem testDrain_of_ne (h : s.run ≠ .draining) : testDrain s = s := if_neg fun e => h e.1

/-- The stages of a close with axles count the vehicle and its axles (R107). -/
theorem closeStages_veh (l : Lane) (c : Context) (x : CloseCause) (s : State) :
    (closeStages l c x s).veh =
      { s.veh with vehicles := satInc s.veh.vehicles, axles := satAdd s.veh.axles c.total } := by
  unfold closeStages
  dsimp only
  rw [recordStage_veh, offerStage_veh]
  rfl

theorem driftUpdate_created (l : Lane) (b : Fin 8) (c : Cell) (s : State) : s.rw.created ≤ (driftUpdate l b c s).rw.created := by
  have hrecord (k i n : Nat) (w x y z : Nat) : s.rw.created
      ≤ (calibrationRecord k i 0 n w x y z c.updates (setCell l b c s)).rw.created := by
    rw [calibrationRecord_created]
    exact Nat.le_succ _
  unfold driftUpdate
  dsimp only
  split
  · obtain ⟨j, _, hcreated, _⟩ := runCascade_reported (.driftLimit l b.val _ _) (calibrationRecord _ _ _ _ _ _ _ _ _ (setCell l b _ s))
    rw [hcreated, calibrationRecord_created]
    exact (Nat.le_succ _).trans (Nat.le_add_right _ _)
  · rw [calibrationRecord_created]
    exact Nat.le_succ _

theorem offerStage_created (v : ClosedVehicle) (e : Option ClassEntry) (s : State) :
    s.rw.created ≤ (offerStage v e s).rw.created := by
  unfold offerStage
  split
  · split
    · unfold takeOffer
      split
      · dsimp only
        split
        · split
          · exact driftUpdate_created ..
          · exact le_rfl
        · exact le_rfl
      · exact le_rfl
    · exact le_rfl
  · exact le_rfl

/-- A close with axles creates its record (R107). -/
theorem closeStages_created (l : Lane) (c : Context) (x : CloseCause) (s : State) :
    s.rw.created < (closeStages l c x s).rw.created := by
  have hrecord (v : ClosedVehicle) (u : State) : u.rw.created < (recordStage v u).rw.created := by
    have hcascade (e : TrigEvent) : u.rw.created ≤ (runCascade e u).1.rw.created := by
      obtain ⟨j, _, hcreated, _⟩ := runCascade_reported e u
      exact hcreated ▸ Nat.le_add_right _ _
    unfold recordStage
    dsimp only
    rw [createRecord_created]
    exact Nat.lt_succ_of_le (hcascade _)
  unfold closeStages
  exact lt_of_le_of_lt (offerStage_created _ _ (releaseWaiting c s)) (hrecord _ _)

/-! ### The close conditions (R94, R95) -/

theorem loopClear_iff (s : State) (l : Lane) : s.loopClear l = true ↔ ∀ onset n, s.loops.get l ≠ .occupied onset n := by
  unfold State.loopClear
  cases s.loops.get l <;> simp

theorem settled_iff (c : Context) : c.settled = true ↔ ∀ x ∈ c.axles, x.stage ≠ .waiting := by
  simp [Context.settled]

theorem due_iff (s : State) (o : Option Nat) : s.due o = true ↔ ∃ d, o = some d ∧ reached s.clock d = true := by
  cases o <;> simp [State.due]

/-- A context that can close by itself: NO_LOOP, or CLOSING. -/
theorem closeReady_iff (h : c.noLoop = true ∨ k = .closingSlot) : s.closeReady l k c = true ↔
    (∀ x ∈ c.axles, x.stage ≠ .waiting)
      ∧ (∃ d, (if c.noLoop then c.idleDeadline else c.closeDeadline) = some d ∧ reached s.clock d = true)
      ∧ (c.noLoop = true ∨ ∀ onset n, s.loops.get l ≠ .occupied onset n) := by
  unfold State.closeReady
  rw [← settled_iff, ← due_iff, ← loopClear_iff]
  cases hn : c.noLoop with
  | true =>
    rw [if_pos rfl, if_pos rfl, Bool.and_eq_true]
    tauto
  | false =>
    have hk : k = .closingSlot := h.resolve_left (by simp [hn])
    rw [if_neg (by simp), if_neg (by simp), Bool.and_eq_true, Bool.and_eq_true, Bool.and_eq_true, decide_eq_true_eq]
    simp only [hk, true_and, Bool.false_eq_true, false_or]
    tauto

theorem closeTest_ready (hc : s.context l k = some c) (hr : s.closeReady l k c = true) :
    closeTest l k s = closeContext l k .normal s := by
  unfold closeTest
  rw [hc]
  exact if_pos hr

theorem closeTest_unready (hc : s.context l k = some c) (hr : ¬s.closeReady l k c = true) : closeTest l k s = s := by
  unfold closeTest
  rw [hc]
  exact if_neg hr

theorem closeTest_none (hc : s.context l k = none) : closeTest l k s = s := by
  unfold closeTest
  rw [hc]

theorem exec_idleDeadline (hc : s.context l k = some c) (hn : c.noLoop = true) :
    exec (.idleDeadline l k) s = .next (settleDown (closeTest l k s)) := by
  show execIdleDeadline l k s = _
  unfold execIdleDeadline
  rw [hc]
  exact answerNext_eq (if_pos hn)

theorem exec_deadline {cmd : Instr} (hc : s.context l k = some c)
    (hcmd : cmd = .idleDeadline l k ∧ c.noLoop = true ∨ cmd = .closeDeadline l ∧ k = .closingSlot) :
    exec cmd s = .next (settleDown (closeTest l k s)) := by
  obtain ⟨rfl, hn⟩ | ⟨rfl, rfl⟩ := hcmd
  · exact exec_idleDeadline hc hn
  · rfl

/-- The close of a context without axles, outside a drain and a capture, empties its slot. -/
theorem closeContext_empty {x : CloseCause} (hc : s.context l k = some c) (ha : c.axles = []) (hrun : s.run ≠ .draining)
    (hcap : s.capturing = false) :
    closeContext l k x s = { s with veh.lanes := s.veh.lanes.set l ((s.veh.lanes.get l).set k none) } := by
  have hidle : captureClosed c.serial (setContext l k none s) = setContext l k none s := captureClosed_idle hcap
  unfold closeContext
  rw [hc]
  dsimp only
  rw [ha, show (if List.isEmpty ([] : List Axle) = true then s else closeStages l c x s) = s from rfl, hidle]
  exact testDrain_of_ne hrun

/-- The close of a context with axles, outside a drain. -/
theorem closeContext_axles {x : CloseCause} (hc : s.context l k = some c) (ha : c.axles ≠ []) (hrun : s.run ≠ .draining) :
    closeContext l k x s = captureClosed c.serial (setContext l k none (closeStages l c x s)) := by
  have hcond : ¬(c.axles.isEmpty = true) := by simpa using ha
  have hclose := closeContext_close l k x s hrun
  unfold closeContext at hclose ⊢
  rw [hc] at hclose ⊢
  dsimp only at hclose ⊢
  rw [if_neg hcond] at hclose ⊢
  refine testDrain_of_ne ?_
  have hrunKept : (captureClosed c.serial (setContext l k none (closeStages l c x s))).run = (closeStages l c x s).run := by
    unfold captureClosed
    repeat' first | rfl | split
  rw [hrunKept, closeStages_close l c x s]
  exact hrun

/-- Settles O34: a deadline command is the close test of its slot, and a close with axles counts and records them. -/
theorem deadlinesCloseContexts : Obligations.DeadlinesCloseContexts := by
  refine ⟨fun l k c d cmd s hrun hcap hc hsettled hd hcmd => ?_, fun l k c cmd s hc hcmd => ?_, fun l k s => ⟨fun h => ?_, fun h => ?_⟩⟩
  · have hkind : cmd = .idleDeadline l k ∧ c.noLoop = true ∨ cmd = .closeDeadline l ∧ k = .closingSlot := by tauto
    have hready : s.closeReady l k c = true := by
      rw [closeReady_iff (by tauto)]
      refine ⟨(settled_iff c).mp hsettled, ⟨d, ?_, hd⟩, ?_⟩
      · obtain ⟨_, hn, hi⟩ | ⟨_, _, hn, hi, _⟩ := hcmd
        · rw [if_pos hn, hi]
        · rw [if_neg (by simp [hn]), hi]
      · obtain ⟨_, hn, _⟩ | ⟨_, _, _, _, hl⟩ := hcmd
        · exact .inl hn
        · exact .inr ((loopClear_iff s l).mp hl)
    have hexec : exec cmd s = .next (settleDown (closeContext l k .normal s)) := by
      rw [exec_deadline hc hkind, closeTest_ready hc hready]
    refine ⟨fun ha => by rw [hexec, closeContext_empty hc ha hrun hcap], fun ha => ⟨_, hexec, ?_, ?_, fun m j h => ?_, ?_⟩⟩
    · simp
    · rw [settleDown_context, closeContext_context_same]
    · rw [settleDown_context, closeContext_context_ne _ _ _ _ _ _ h]
    · have hclose := closeContext_axles (x := .normal) hc ha hrun
      have hframe := closeContext_close l k .normal s hrun
      have hveh : (closeContext l k .normal s).veh.vehicles = satInc s.veh.vehicles
          ∧ (closeContext l k .normal s).veh.axles = satAdd s.veh.axles c.total
          ∧ (closeContext l k .normal s).veh.serial = s.veh.serial := by
        rw [hclose, captureClosed_veh]
        show (closeStages l c .normal s).veh.vehicles = _ ∧ (closeStages l c .normal s).veh.axles = _
          ∧ (closeStages l c .normal s).veh.serial = _
        rw [closeStages_veh]
        exact ⟨rfl, rfl, rfl⟩
      have hcreated : s.rw.created < (closeContext l k .normal s).rw.created := by
        rw [hclose, captureClosed_rw]
        exact closeStages_created l c .normal s
      obtain ⟨hv, ha', hserial⟩ := hveh
      rw [settleDown_veh, hv, ha', hserial, settleDown_rw_created, settleDown_run, settleDown_det, hframe]
      refine ⟨rfl, (satAdd_eq ..), ?_, rfl, rfl, rfl⟩
      rw [← hframe]
      exact hcreated
  · have hiff := closeReady_iff (s := s) (l := l) (k := k) (c := c) (by tauto)
    rw [exec_deadline hc hcmd]
    exact ⟨fun h => by rw [closeTest_ready hc (hiff.mpr h)], fun h => by rw [closeTest_unready hc fun e => h (hiff.mp e)]⟩
  · exact answerNext_eq (closeTest_none h)
  · show execIdleDeadline l k s = _
    unfold execIdleDeadline
    split
    · rename_i c hc
      rw [if_neg (by simp [h c hc])]
      rfl
    · rfl

end

end Sys2Proof.Machine
end

section
/-!
PROOFS. Loop onsets and loop ends in the measuring states: the contexts they open, move and close (R86, R87, R94, R175).
-/

namespace Sys2Proof.Machine

theorem tab_set_set {n : Nat} {α : Type} (t : Tab n α) (i : Fin n) (a b : α) : (t.set i a).set i b = t.set i b := by
  refine Tab.ext_get fun j => ?_
  rw [Tab.get_set, Tab.get_set, Tab.get_set]
  split <;> rfl

/-! ### The parts of an onset and of a loop end -/

section
variable {s : State} {l : Lane} {c : Context}

/-- Both slots of a lane replaced. -/
def State.withLane (s : State) (l : Lane) (slots : LaneSlots) : State := { s with veh.lanes := s.veh.lanes.set l slots }

/-- The OPEN context moves to the CLOSING slot, whatever stood there. -/
theorem moveToClosing_some (f : Context → Context) (h : s.context l .openSlot = some c) :
    moveToClosing l f s = s.withLane l { opened := none, closing := some (f c) } := by
  unfold moveToClosing
  rw [h]
  simp only [setContext, Tab.modify, Tab.get_set_same, tab_set_set]
  rfl

theorem moveToClosing_none (f : Context → Context) (h : s.context l .openSlot = none) : moveToClosing l f s = s := by
  unfold moveToClosing
  rw [h]

/-- A capture unit not armed for the lane takes no notice of its onset (R35). -/
theorem captureOpening_unarmed (n : Nat) (h : ∀ req, s.cap.st = .armed req → req.lane ≠ l) : captureOpening l n s = s := by
  unfold captureOpening
  split
  · rename_i req hc
    exact if_neg (h req hc)
  · rfl

/-- An onset in a lane without OPEN context. -/
theorem onsetContext_fresh (tick : Nat) (h : s.context l .openSlot = none) : onsetContext l tick s =
    captureOpening l (nextSerial s.veh.serial)
      (setContext l .openSlot (some (contextAtOnset (nextSerial s.veh.serial) tick))
        { s with veh.serial := nextSerial s.veh.serial }) := by
  unfold onsetContext
  dsimp only
  rw [if_neg (by simp [h]), moveToClosing_none id h]
  rfl

/-- An onset in a lane with an OPEN context: the CLOSING one closes TRUNCATED, the OPEN one moves (R86, steps 1 to 3). -/
theorem onsetContext_moving (tick : Nat) (h : s.context l .openSlot = some c) : onsetContext l tick s =
    captureOpening l (nextSerial (closeContext l .closingSlot .truncated s).veh.serial)
      ({ closeContext l .closingSlot .truncated s with
          veh.serial := nextSerial (closeContext l .closingSlot .truncated s).veh.serial }.withLane l
        { opened := some (contextAtOnset (nextSerial (closeContext l .closingSlot .truncated s).veh.serial) tick),
          closing := some c }) := by
  have hopen : (closeContext l .closingSlot .truncated s).context l .openSlot = some c := by
    rw [closeContext_context_ne _ _ _ _ _ _ (.inr (by decide)), h]
  unfold onsetContext
  dsimp only
  rw [if_pos (by simp [h]), moveToClosing_some id hopen]
  simp only [setContext, Tab.modify, State.withLane, Tab.get_set_same, tab_set_set]
  rfl

theorem wake_of_quiet (h : s.run = .quiet) (hidle : s.powerIdle = true) :
    wake s = { s with run := .waking, ctrl.settle := some (0, s.ctrl.settleCount) } := if_pos ⟨h, hidle⟩

theorem wake_of_ne (h : s.run ≠ .quiet) : wake s = s := if_neg fun e => h e.1

/-- The trace writer looks at the capture unit, the history, the registers and the trace empty list. -/
theorem advanceTrace_cap_congr {s t : State} (hcap : t.cap = s.cap) (hhistory : t.history = s.history)
    (hregs : t.regs = s.regs) (hex : t.ex = s.ex) : (advanceTrace t).cap = (advanceTrace s).cap := by
  unfold advanceTrace
  rw [hcap, hhistory, hregs, hex]
  split
  · split
    · exact hcap
    · split
      · rfl
      · exact hcap
  · exact hcap

/-- The loop unit of a lane has seen its onset, its readers not yet. -/
def State.sawOnset (s : State) (l : Lane) : State :=
  { s with pins.lp := s.pins.lp.set l true, loops := s.loops.set l (.occupied s.clock 0) }

/-- An onset reaches a tracked VACANT loop where contexts may open. -/
theorem exec_loopOnset_opening (hrun : s.run = .running ∨ s.run = .quiet ∨ s.run = .waking) (hidle : s.powerIdle = true)
    (hlane : l.val < s.site.laneCount) (hvacant : s.loops.get l = .vacant) :
    exec (.loopOnset l) s
      = .next (settleDown (handEvent (.loopOnset l s.clock) (wake (onsetContext l s.clock (s.sawOnset l))))) := by
  have hworks : s.run.works = true := by obtain h | h | h := hrun <;> rw [h] <;> rfl
  have hopens : s.mayOpen = true := by
    unfold State.mayOpen
    rw [hidle]
    obtain h | h | h := hrun <;> rw [h] <;> rfl
  refine answerNext_eq ?_
  rw [if_pos ⟨(tracked_iff s l).mpr ⟨hlane, hworks⟩, hvacant⟩]
  have honset (u : State) (h : u.mayOpen = true) : loopOnset l u = handEvent (.loopOnset l u.clock)
      (wake (onsetContext l u.clock (setLoop l (.occupied u.clock 0) u))) := by
    unfold loopOnset
    dsimp only
    rw [if_pos h]
  exact honset _ hopens

/-- The state an onset leaves in a lane without OPEN context, apart from the wake. -/
theorem onset_fresh_woken (tick : Nat) (hopen : s.context l .openSlot = none)
    (harmed : ∀ req, s.cap.st = .armed req → req.lane ≠ l) :
    onsetContext l tick s = { s with
      veh.serial := nextSerial s.veh.serial
      veh.lanes := s.veh.lanes.modify l (·.set .openSlot (some (contextAtOnset (nextSerial s.veh.serial) tick))) } := by
  rw [onsetContext_fresh tick hopen]
  exact captureOpening_unarmed _ harmed

theorem captureOpening_run (n : Nat) (s : State) : (captureOpening l n s).run = s.run := by
  unfold captureOpening
  repeat' first | rfl | split

theorem captureOpening_ctrl (n : Nat) (s : State) : (captureOpening l n s).ctrl = s.ctrl := by
  unfold captureOpening
  repeat' first | rfl | split

/-- The loop end of a lane that measures reaches its contexts. -/
theorem exec_loopEnd_occupied {onset n : Nat} (hrun : s.run.measures = true) (hlane : l.val < s.site.laneCount)
    (hloop : s.loops.get l = .occupied onset n) :
    exec (.loopEnd l) s = .next (settleDown (loopEndContext l s.clock false
      { s with pins.lp := s.pins.lp.set l false, loops := s.loops.set l .vacant })) := by
  have hworks : s.run.works = true := by cases hr : s.run <;> rw [hr] at hrun <;> first | rfl | cases hrun
  refine answerNext_eq ?_
  rw [if_pos ((tracked_iff s l).mpr ⟨hlane, hworks⟩), hloop]
  exact if_pos hrun

theorem exec_stuckExpiry_occupied {onset n : Nat} (hrun : s.run.measures = true) (hlane : l.val < s.site.laneCount)
    (hloop : s.loops.get l = .occupied onset n) (hn : 491520 ≤ n) :
    exec (.stuckExpiry l) s = .next (settleDown (loopEndContext l s.clock true
      { s with loops := s.loops.set l (.stuck onset) })) := by
  have hworks : s.run.works = true := by cases hr : s.run <;> rw [hr] at hrun <;> first | rfl | cases hrun
  show execStuckExpiry l s = _
  unfold execStuckExpiry
  rw [hloop]
  refine answerNext_eq ((if_pos ⟨(tracked_iff s l).mpr ⟨hlane, hworks⟩, hn⟩).trans ?_)
  exact if_pos hrun

/-- The OPEN context at its loop end. -/
def State.ended (s : State) (l : Lane) (stuck : Bool) (c : Context) : Context :=
  { c with
    loopEnd := some s.clock
    stuckLoop := c.stuckLoop || stuck
    closeDeadline := some ((s.clock + marginOf (s.site.geom.get l) c.lastSpeed) % 281474976710656) }

theorem atLoopEnd_eq {u : State} (hsite : u.site = s.site) (stuck : Bool) (c : Context) :
    u.atLoopEnd l s.clock stuck c = s.ended l stuck c := by
  unfold State.atLoopEnd State.ended
  rw [closeMargin_eq, hsite]
  rfl

theorem loopEndContext_alone (stuck : Bool) (hopen : s.context l .openSlot = some c) (hclosing : s.context l .closingSlot = none) :
    loopEndContext l s.clock stuck s = s.withLane l { opened := none, closing := some (s.ended l stuck c) } := by
  unfold loopEndContext
  rw [hopen]
  dsimp only
  rw [hclosing]
  dsimp only
  rw [moveToClosing_some _ hopen, atLoopEnd_eq rfl]

/-- The loop end with a CLOSING context beside the OPEN one, which closes first. -/
theorem loopEndContext_beside {d : Context} (stuck : Bool) (hopen : s.context l .openSlot = some c)
    (hclosing : s.context l .closingSlot = some d) : loopEndContext l s.clock stuck s =
    (closeContext l .closingSlot (if s.closeReady l .closingSlot d then .normal else .truncated) s).withLane l
      { opened := none, closing := some (s.ended l stuck c) } := by
  have hkept (x : CloseCause) : (closeContext l .closingSlot x s).context l .openSlot = some c := by
    rw [closeContext_context_ne _ _ _ _ _ _ (.inr (by decide)), hopen]
  have hsite (x : CloseCause) : (closeContext l .closingSlot x s).site = s.site :=
    congrArg Settings.site (closeContext_settings l .closingSlot x s)
  unfold loopEndContext
  rw [hopen]
  dsimp only
  rw [hclosing]
  dsimp only
  rw [moveToClosing_some _ (hkept _), atLoopEnd_eq (hsite _)]

theorem loopEndContext_closing (stuck : Bool) (tick : Nat) (hopen : s.context l .openSlot = none) :
    loopEndContext l tick stuck s = closeTest l .closingSlot s := by
  unfold loopEndContext
  rw [hopen]

/-- The CLOSING context of a lane whose loop is clear is ready to close. -/
theorem closeReady_closing {d : Context} (hclear : ∀ onset n, s.loops.get l ≠ .occupied onset n) :
    s.closeReady l .closingSlot d = true ↔ (∀ a ∈ d.axles, a.stage ≠ .waiting)
      ∧ ∃ t, (if d.noLoop then d.idleDeadline else d.closeDeadline) = some t ∧ reached s.clock t = true := by
  rw [closeReady_iff (.inr rfl)]
  tauto

end

/-! ### The obligation -/

section
variable {s : State} {l : Lane} {onset n : Nat}

/-- What a loop end with both slots taken leaves, in a state whose loop is clear. -/
theorem loopEndContext_both {u : State} {x c : Context} (stuck : Bool) (hopen : u.context l .openSlot = some x)
    (hclosing : u.context l .closingSlot = some c) (hclear : ∀ onset n, u.loops.get l ≠ .occupied onset n) :
    let ready : Prop := (∀ a ∈ c.axles, a.stage ≠ .waiting)
      ∧ ∃ d, (if c.noLoop then c.idleDeadline else c.closeDeadline) = some d ∧ reached u.clock d = true
    let slots : LaneSlots := { opened := none, closing := some (u.ended l stuck x) }
    (ready → loopEndContext l u.clock stuck u = (closeContext l .closingSlot .normal u).withLane l slots)
      ∧ (¬ready → loopEndContext l u.clock stuck u = (closeContext l .closingSlot .truncated u).withLane l slots) := by
  have hready := closeReady_closing (d := c) hclear
  exact ⟨fun h => by rw [loopEndContext_beside stuck hopen hclosing, if_pos (hready.mpr h)],
    fun h => by rw [loopEndContext_beside stuck hopen hclosing, if_neg fun e => h (hready.mp e)]⟩

/-- What a loop end without OPEN context leaves, in a state whose loop is clear. -/
theorem loopEndContext_without {u : State} (stuck : Bool) (hopen : u.context l .openSlot = none)
    (hclear : ∀ onset n, u.loops.get l ≠ .occupied onset n) :
    (u.context l .closingSlot = none → loopEndContext l u.clock stuck u = u)
      ∧ ∀ c, u.context l .closingSlot = some c →
        let ready : Prop := (∀ a ∈ c.axles, a.stage ≠ .waiting)
          ∧ ∃ d, (if c.noLoop then c.idleDeadline else c.closeDeadline) = some d ∧ reached u.clock d = true
        (ready → loopEndContext l u.clock stuck u = closeContext l .closingSlot .normal u)
          ∧ (¬ready → loopEndContext l u.clock stuck u = u) := by
  rw [loopEndContext_closing stuck _ hopen]
  refine ⟨closeTest_none, fun c hc => ?_⟩
  have hready := closeReady_closing (d := c) hclear
  exact ⟨fun h => closeTest_ready hc (hready.mpr h), fun h => closeTest_unready hc fun e => h (hready.mp e)⟩

end

/-- The wake, and the event handed on, of an onset in a state that may open contexts. -/
theorem told_woken {u : State} (e : TrigEvent) (hrun : u.run = .running ∨ u.run = .quiet ∨ u.run = .waking)
    (hidle : u.powerIdle = true) : handEvent e (wake u) =
      { u with
        run := if u.run = .quiet then .waking else u.run
        ctrl.settle := if u.run = .quiet then some (0, u.ctrl.settleCount) else u.ctrl.settle
        trig.waiting := u.trig.waiting ++ [e] } := by
  by_cases hq : u.run = .quiet
  · rw [wake_of_quiet hq hidle, if_pos hq, if_pos hq]
    exact handEvent_works e _ rfl
  · rw [wake_of_ne hq, if_neg hq, if_neg hq]
    exact handEvent_works e u (by obtain h | h | h := hrun <;> rw [h] <;> rfl)

/-- The same, the run state and the Run Controller being those of an earlier state. -/
theorem told_woken_like {s u : State} (e : TrigEvent) (hlike : u.run = s.run ∧ u.ctrl = s.ctrl)
    (hrun : s.run = .running ∨ s.run = .quiet ∨ s.run = .waking) (hidle : s.powerIdle = true) : handEvent e (wake u) =
      let woken : State := if s.run = .quiet then { u with run := .waking, ctrl.settle := some (0, s.ctrl.settleCount) } else u
      { woken with trig.waiting := woken.trig.waiting ++ [e] } := by
  obtain ⟨hr, hctrl⟩ := hlike
  have hpower : u.powerIdle = true := (congrArg (fun c => c.power.isNone) hctrl).trans hidle
  dsimp only
  by_cases hq : s.run = .quiet
  · rw [wake_of_quiet (hr.trans hq) hpower, if_pos hq, hctrl]
    exact handEvent_works e _ rfl
  · rw [wake_of_ne (hr ▸ hq), if_neg hq]
    exact handEvent_works e u (by rw [hr]; obtain h | h | h := hrun <;> rw [h] <;> rfl)

/-- Settles O23: the onset's and the loop end's equations, slot by slot. -/
theorem onsetOpensContext : Obligations.OnsetOpensContext := by
  refine ⟨fun l s hrun hidle hlane hvacant hopen harmed => ?_, fun l onset n c s hrun hlane hloop hopen hclosing => ?_,
    fun l x s hrun hidle hlane hvacant hopen => ?_, fun l onset n x c s hrun hlane hloop hopen hclosing => ?_,
    fun l onset n s hrun hlane hloop hopen => ?_⟩
  · refine ⟨_, exec_loopOnset_opening hrun hidle hlane hvacant, ?_⟩
    rw [onset_fresh_woken (s := s.sawOnset l) s.clock hopen harmed, told_woken]
    case hrun => exact hrun
    case hidle => exact hidle
    dsimp only [State.sawOnset]
    refine ⟨?_, ?_, ⟨contextAtOnset (nextSerial s.veh.serial) s.clock, ?_, ?_, rfl, rfl, rfl, rfl, rfl, rfl, rfl⟩, ?_,
      fun m k hm => ?_, ?_, fun hq => ?_, ?_, ?_, ?_, ?_, ?_, ?_, ?_, ?_⟩
    · exact settleDown_settings _
    · rw [settleDown_veh]
      rfl
    · rw [settleDown_context]
      simp [State.context, LaneSlots.get, LaneSlots.set]
    · rw [settleDown_veh]
      rfl
    · rw [settleDown_context]
      simp [State.context, LaneSlots.get, LaneSlots.set]
    · rw [settleDown_context]
      simp [State.context, Ne.symm hm]
    · exact settleDown_run _
    · rw [settleDown_ctrl_settle]
      exact if_pos hq
    · exact settleDown_loops _
    · exact congrArg TriggerUnit.waiting (settleDown_trig _)
    · exact settleDown_det _
    · exact settleDown_axle _
    · exact settleDown_cal _
    · exact settleDown_rw_queue _
    · exact settleDown_rw_created _
    · rw [settleDown_cap]
      exact advanceTrace_cap_congr rfl rfl rfl rfl
  · have hend := loopEndContext_alone (s := { s with pins.lp := s.pins.lp.set l false, loops := s.loops.set l .vacant }) (l := l)
      (c := c) false hopen hclosing
    have hexpiry := loopEndContext_alone (s := { s with loops := s.loops.set l (.stuck onset) }) (l := l) (c := c) true hopen hclosing
    simp only [State.withLane, State.ended, Bool.or_false, Bool.or_true] at hend hexpiry
    exact ⟨(exec_loopEnd_occupied hrun hlane hloop).trans (answerNext_eq hend),
      fun hn => (exec_stuckExpiry_occupied hrun hlane hloop hn).trans (answerNext_eq hexpiry)⟩
  · have hclose : CloseFrame (s.sawOnset l) (closeContext l .closingSlot .truncated (s.sawOnset l)) :=
      closeContext_close l .closingSlot .truncated (s.sawOnset l)
        (by show s.run ≠ .draining; obtain h | h | h := hrun <;> rw [h] <;> decide)
    have hvrun : (closeContext l .closingSlot .truncated (s.sawOnset l)).run = s.run := by
      rw [hclose]
      rfl
    have hvctrl : (closeContext l .closingSlot .truncated (s.sawOnset l)).ctrl = s.ctrl := by
      rw [hclose]
      rfl
    refine ⟨?_, fun hc => ?_, fun m k hm => closeContext_context_ne _ _ _ _ _ _ (.inl hm)⟩
    · rw [exec_loopOnset_opening hrun hidle hlane hvacant]
      refine answerNext_eq ?_
      rw [onsetContext_moving s.clock (show (s.sawOnset l).context l .openSlot = some x from hopen)]
      exact told_woken_like _ ⟨(captureOpening_run ..).trans hvrun, (captureOpening_ctrl ..).trans hvctrl⟩ hrun hidle
    · show (closeContext l .closingSlot .truncated (s.sawOnset l)).veh = s.veh
      have hnone (u : State) (h : u.context l .closingSlot = none) : closeContext l .closingSlot .truncated u = u := by
        unfold closeContext
        rw [h]
      rw [hnone (s.sawOnset l) hc]
      rfl
  · have hend := loopEndContext_both (u := { s with pins.lp := s.pins.lp.set l false, loops := s.loops.set l .vacant }) (x := x) (c := c)
      false hopen hclosing (by simp)
    have hexpiry := loopEndContext_both (u := { s with loops := s.loops.set l (.stuck onset) }) (x := x) (c := c)
      true hopen hclosing (by simp)
    exact ⟨⟨_, exec_loopEnd_occupied hrun hlane hloop, fun h => congrArg settleDown (hend.1 h), fun h => congrArg settleDown (hend.2 h)⟩,
      fun hn => ⟨_, exec_stuckExpiry_occupied hrun hlane hloop hn, fun h => congrArg settleDown (hexpiry.1 h),
        fun h => congrArg settleDown (hexpiry.2 h)⟩⟩
  · have hend := loopEndContext_without (l := l) (u := { s with pins.lp := s.pins.lp.set l false, loops := s.loops.set l .vacant })
      false hopen (by simp)
    have hexpiry := loopEndContext_without (l := l) (u := { s with loops := s.loops.set l (.stuck onset) }) true hopen (by simp)
    exact ⟨⟨_, exec_loopEnd_occupied hrun hlane hloop, fun h => congrArg settleDown (hend.1 h),
        fun c hc => ⟨fun h => congrArg settleDown ((hend.2 c hc).1 h), fun h => congrArg settleDown ((hend.2 c hc).2 h)⟩⟩,
      fun hn => ⟨_, exec_stuckExpiry_occupied hrun hlane hloop hn, fun h => congrArg settleDown (hexpiry.1 h),
        fun c hc => ⟨fun h => congrArg settleDown ((hexpiry.2 c hc).1 h), fun h => congrArg settleDown ((hexpiry.2 c hc).2 h)⟩⟩⟩

end Sys2Proof.Machine
end

section
/-!
PROOFS. The values of a closing vehicle: order, spacings, flags, grade and class (R97 to R102), and the borrowed speed of
a single-row axle (R50, R62).
-/

namespace Sys2Proof.Machine

/-! ### The final order (R98) -/

section

theorem eqTime_eq (s : State) (x : Axle) : s.eqTime x = s.equivalent x := by
  unfold State.eqTime State.equivalent
  cases x.partA with
  | some p => rfl
  | none => cases x.partB <;> cases x.speed? <;> rfl

theorem insertByTime_perm (p : Int × Axle) (l : List (Int × Axle)) : (insertByTime p l).Perm (p :: l) := by
  induction l with
  | nil => exact .refl _
  | cons q rest ih =>
    rw [insertByTime]
    split
    · exact (ih.cons q).trans (.swap p q rest)
    · exact .refl _

theorem insertByTime_sorted {p : Int × Axle} {l : List (Int × Axle)} (h : l.Pairwise fun a b => a.1 ≤ b.1) :
    (insertByTime p l).Pairwise fun a b => a.1 ≤ b.1 := by
  induction h with
  | nil => exact List.pairwise_singleton ..
  | @cons q rest hq hrest ih =>
    rw [insertByTime]
    split
    · rename_i hle
      refine List.pairwise_cons.mpr ⟨fun a ha => ?_, ih⟩
      obtain rfl | ha := List.mem_cons.mp ((insertByTime_perm p rest).mem_iff.mp ha)
      · exact hle
      · exact hq a ha
    · rename_i hlt
      refine List.pairwise_cons.mpr ⟨fun a ha => ?_, List.pairwise_cons.mpr ⟨hq, hrest⟩⟩
      obtain rfl | ha := List.mem_cons.mp ha
      · omega
      · exact (by omega : p.1 ≤ q.1).trans (hq a ha)

/-- An axle goes behind those of its time. -/
theorem insertByTime_filter {p : Int × Axle} {l : List (Int × Axle)} (h : l.Pairwise fun a b => a.1 ≤ b.1) (t : Int) :
    (insertByTime p l).filter (fun q => decide (q.1 = t))
      = l.filter (fun q => decide (q.1 = t)) ++ if p.1 = t then [p] else [] := by
  induction h with
  | nil =>
    rw [insertByTime]
    by_cases ht : p.1 = t <;> simp [ht]
  | @cons q rest hq hrest ih =>
    rw [insertByTime]
    split
    · rw [List.filter_cons, ih, List.filter_cons]
      split <;> rfl
    · rename_i hlt
      by_cases ht : p.1 = t
      · have hnone : (q :: rest).filter (fun q => decide (q.1 = t)) = [] := by
          refine List.filter_eq_nil_iff.mpr fun a ha => ?_
          have : q.1 ≤ a.1 := by
            obtain rfl | ha := List.mem_cons.mp ha
            · exact le_rfl
            · exact hq a ha
          rw [decide_eq_true_eq]
          omega
        rw [List.filter_cons, hnone, if_pos (by simpa using ht), if_pos ht]
        rfl
      · rw [List.filter_cons, if_neg (by simpa using ht), if_neg ht, List.append_nil]

/-- What a list of timed axles entered one after another into a sorted one gives. -/
theorem foldl_insertByTime (ps l : List (Int × Axle)) (h : l.Pairwise fun a b => a.1 ≤ b.1) :
    let out := ps.foldl (fun acc p => insertByTime p acc) l
    out.Perm (l ++ ps) ∧ (out.Pairwise fun a b => a.1 ≤ b.1)
      ∧ ∀ t, out.filter (fun q => decide (q.1 = t)) = (l ++ ps).filter (fun q => decide (q.1 = t)) := by
  induction ps generalizing l with
  | nil => simpa using h
  | cons p rest ih =>
    obtain ⟨hperm, hsorted, hfilter⟩ := ih (insertByTime p l) (insertByTime_sorted h)
    refine ⟨?_, hsorted, fun t => ?_⟩
    · exact hperm.trans (((insertByTime_perm p l).append_right rest).trans List.perm_middle.symm)
    · rw [List.foldl_cons, hfilter t, List.filter_append, insertByTime_filter h, List.filter_append, List.filter_cons]
      by_cases ht : p.1 = t <;> simp [ht]

/-- The axles of the final order. -/
def State.ordered (s : State) (held : List Axle) : List Axle := (s.finalOrder held).map (·.2)

theorem finalOrder_spec (s : State) (held : List Axle) :
    s.finalOrder held = (s.ordered held).map (fun x => (s.equivalent x, x))
      ∧ (s.ordered held).Perm held
      ∧ ((s.ordered held).Pairwise fun x y => s.equivalent x ≤ s.equivalent y)
      ∧ ∀ t, (s.ordered held).filter (fun x => decide (s.equivalent x = t))
          = held.filter fun x => decide (s.equivalent x = t) := by
  obtain ⟨hperm, hsorted, hfilter⟩ := foldl_insertByTime (held.map fun x => (s.eqTime x, x)) [] List.Pairwise.nil
  rw [List.nil_append] at hperm
  have htimes : ∀ p ∈ s.finalOrder held, p.1 = s.equivalent p.2 := by
    intro p hp
    obtain ⟨x, _, rfl⟩ := List.mem_map.mp (hperm.mem_iff.mp hp)
    exact eqTime_eq s x
  have hfst : s.finalOrder held = (s.ordered held).map (fun x => (s.equivalent x, x)) := by
    rw [State.ordered, List.map_map]
    refine (List.map_id _).symm.trans (List.map_congr_left fun p hp => ?_)
    exact Prod.ext (htimes p hp) rfl
  refine ⟨hfst, ?_, ?_, fun t => ?_⟩
  · have := hperm.map (·.2)
    rw [List.map_map] at this
    exact this.trans (.of_eq (List.map_id _))
  · have := hsorted
    rw [show (held.map fun x => (s.eqTime x, x)).foldl (fun acc p => insertByTime p acc) [] = s.finalOrder held from rfl, hfst,
      List.pairwise_map] at this
    exact this
  · have := congrArg (List.map (·.2)) (hfilter t)
    rw [show (held.map fun x => (s.eqTime x, x)).foldl (fun acc p => insertByTime p acc) [] = s.finalOrder held from rfl, hfst,
      List.nil_append, List.filter_map, List.filter_map, List.map_map, List.map_map] at this
    simpa [Function.comp_def, eqTime_eq] using this

end

/-! ### Spacings (R99) -/

section
variable (s : State)

theorem spacingsFrom_get (p : Int × Axle) (l : List (Int × Axle)) (i : Nat) :
    (spacingsFrom p l)[i]? = match (p :: l)[i]?, l[i]? with
      | some a, some b => some (spacingOf a b)
      | _, _ => none := by
  induction l generalizing p i with
  | nil => cases i <;> rfl
  | cons q rest ih =>
    cases i with
    | zero => rfl
    | succ i => exact ih q i

/-- The spacings of axles in final order are their gaps. -/
theorem spacings_eq (xs : List Axle) :
    spacings (xs.map fun x => (s.equivalent x, x)) = (List.range xs.length).map (s.gap xs) := by
  cases xs with
  | nil => rfl
  | cons x rest =>
    refine List.ext_getElem? fun i => ?_
    rw [List.getElem?_map]
    by_cases hi : i < (x :: rest).length
    · rw [List.getElem?_range hi]
      cases i with
      | zero => rfl
      | succ i =>
        show (spacingsFrom (s.equivalent x, x) (rest.map fun x => (s.equivalent x, x)))[i]? = some (s.gap (x :: rest) (i + 1))
        have hlt : i < rest.length := by simpa using hi
        have hcur : ((rest.map fun x => (s.equivalent x, x)) : List (Int × Axle))[i]? = some (s.equivalent rest[i], rest[i]) := by
          simp [hlt]
        have hprev : (((s.equivalent x, x) :: rest.map fun x => (s.equivalent x, x)) : List (Int × Axle))[i]?
            = some (s.equivalent ((x :: rest)[i]), (x :: rest)[i]) := by
          cases i with
          | zero => rfl
          | succ j => simp [show j < rest.length by omega]
        rw [spacingsFrom_get, hprev, hcur]
        have hgap : s.gap (x :: rest) (i + 1) = spacingOf (s.equivalent ((x :: rest)[i]), (x :: rest)[i])
            (s.equivalent rest[i], rest[i]) := by
          unfold State.gap spacingOf
          rw [if_neg (Nat.succ_ne_zero i), Nat.add_sub_cancel, List.getElem?_eq_getElem (by simp; omega),
            List.getElem?_eq_getElem (by simpa using hlt)]
          dsimp only [List.getElem_cons_succ]
          cases ((x :: rest)[i]).speed? with
          | none => rfl
          | some v =>
            cases (rest[i]).speed? with
            | none => rfl
            | some w => exact congrArg some (min_comm ..)
        exact congrArg some hgap.symm
    · have hlen : (spacings ((x :: rest).map fun x => (s.equivalent x, x))).length ≤ i := by
        have hfrom (p : Int × Axle) (l : List (Int × Axle)) : (spacingsFrom p l).length = l.length := by
          induction l generalizing p with
          | nil => rfl
          | cons q l ih => exact congrArg Nat.succ (ih q)
        rw [List.map_cons, spacings, List.length_cons, hfrom, List.length_map]
        simpa using hi
      rw [List.getElem?_eq_none hlen, List.getElem?_eq_none (by simpa using hi)]
      rfl

/-- A stored axle's spacings of a vehicle in its final order. -/
theorem finalSpacings_eq (held : List Axle) :
    spacings (s.finalOrder held) = (List.range (s.ordered held).length).map (s.gap (s.ordered held)) := by
  rw [(finalOrder_spec s held).1, spacings_eq]

end

/-! ### Flags and grade (R101) -/

section
variable {c : Context} {cause : CloseCause} {xs : List Axle}

theorem vehicleFlags_bits (lock : Bool) : let f := c.vehicleFlags cause lock xs
    f.getLsbD 0 = decide (cause = .truncated) ∧ f.getLsbD 1 = decide (cause = .splitAfter)
      ∧ f.getLsbD 2 = c.splitBefore ∧ f.getLsbD 3 = c.noLoop ∧ f.getLsbD 4 = c.stuckLoop
      ∧ f.getLsbD 5 = decide (12 < c.total) ∧ f.getLsbD 6 = xs.any (fun x => x.flags.getLsbD 5)
      ∧ f.getLsbD 7 = xs.any (fun x => x.flags.getLsbD 6) ∧ f.getLsbD 8 = lock ∧ f.getLsbD 9 = false := by
  have hstraddle (x : Axle) : hasFlag x.flags flagStraddle = x.flags.getLsbD 5 := by
    rw [Bool.eq_iff_iff, hasFlag_iff]
    refine ⟨fun ⟨i, hx, hi⟩ => ?_, fun h => ⟨5, h, by decide⟩⟩
    rw [getLsbD_oneFlag (n := 5) (by decide) (by decide), decide_eq_true_eq] at hi
    exact hi ▸ hx
  have hchange (x : Axle) : hasFlag x.flags flagLaneChange = x.flags.getLsbD 6 := by
    rw [Bool.eq_iff_iff, hasFlag_iff]
    refine ⟨fun ⟨i, hx, hi⟩ => ?_, fun h => ⟨6, h, by decide⟩⟩
    rw [getLsbD_oneFlag (n := 6) (by decide) (by decide), decide_eq_true_eq] at hi
    exact hi ▸ hx
  simp only [Context.vehicleFlags, BitVec.getLsbD_or, getLsbD_flagWhen, hstraddle, hchange]
  simp [vehTruncated, vehSplitAfter, vehSplitBefore, vehNoLoop, vehStuckLoop, vehAxleOverflow, vehStraddle, vehLaneChange, vehLocked]

theorem worse_code (g h : Grade) : (g.worse h).code = max g.code h.code := by
  unfold Grade.worse
  split <;> omega

theorem foldl_worse_code (g : Grade) :
    (xs.foldl (fun (g : Grade) x => g.worse (x.grade.getD .good)) g).code
      = (xs.map fun x => (x.grade.getD .good).code).foldl max g.code := by
  induction xs generalizing g with
  | nil => rfl
  | cons x rest ih => rw [List.foldl_cons, List.map_cons, List.foldl_cons, ih, worse_code]

theorem rowTemp_degraded_iff (t : RowTemp) : t.degraded = true ↔ t.code = 4 ∨ t.code = 0 := by
  cases t <;> simp [RowTemp.degraded, RowTemp.code]

theorem vehicleGrade_code (lock : Bool) (a b : RowTemp) :
    (vehicleGrade (c.vehicleFlags cause lock xs) a b xs).code
      = max ((xs.map fun x => (x.grade.getD .good).code).foldl max 0)
          (max (if cause = .splitAfter ∨ c.splitBefore = true ∨ c.noLoop = true ∨ c.stuckLoop = true then 1 else 0)
            (if cause = .truncated ∨ 12 < c.total ∨ a.code = 4 ∨ a.code = 0 ∨ b.code = 4 ∨ b.code = 0 then 2 else 0)) := by
  obtain ⟨h0, h1, h2, h3, h4, h5, -⟩ := vehicleFlags_bits (c := c) (cause := cause) (xs := xs) lock
  have hfair : hasFlag (c.vehicleFlags cause lock xs) (vehSplitBefore ||| vehSplitAfter ||| vehNoLoop ||| vehStuckLoop) = true
      ↔ cause = .splitAfter ∨ c.splitBefore = true ∨ c.noLoop = true ∨ c.stuckLoop = true := by
    have hmask := getLsbD_iff_mem (mask := vehSplitBefore ||| vehSplitAfter ||| vehNoLoop ||| vehStuckLoop) (ns := [1, 2, 3, 4])
      (by decide) (by decide)
    simp only [hasFlag_iff, hmask, List.mem_cons, List.not_mem_nil, or_false, and_or_left, exists_or, exists_eq_right, h1, h2, h3, h4,
      decide_eq_true_eq]
  have hpoor : (hasFlag (c.vehicleFlags cause lock xs) (vehTruncated ||| vehAxleOverflow) || (a.degraded || b.degraded)) = true
      ↔ cause = .truncated ∨ 12 < c.total ∨ a.code = 4 ∨ a.code = 0 ∨ b.code = 4 ∨ b.code = 0 := by
    have hmask := getLsbD_iff_mem (mask := vehTruncated ||| vehAxleOverflow) (ns := [0, 5]) (by decide) (by decide)
    simp only [Bool.or_eq_true, hasFlag_iff, hmask, List.mem_cons, List.not_mem_nil, or_false, and_or_left, exists_or, exists_eq_right,
      h0, h5, decide_eq_true_eq, rowTemp_degraded_iff]
    tauto
  unfold vehicleGrade
  dsimp only
  rw [worse_code, worse_code, foldl_worse_code, max_assoc]
  congr 2
  · by_cases hf : cause = .splitAfter ∨ c.splitBefore = true ∨ c.noLoop = true ∨ c.stuckLoop = true
    · rw [if_pos hf, if_pos (hfair.mpr hf)]
      rfl
    · rw [if_neg hf, if_neg fun e => hf (hfair.mp e)]
      rfl
  · by_cases hp : cause = .truncated ∨ 12 < c.total ∨ a.code = 4 ∨ a.code = 0 ∨ b.code = 4 ∨ b.code = 0
    · rw [if_pos hp, if_pos (hpoor.mpr hp)]
      rfl
    · rw [if_neg hp, if_neg fun e => hp (hpoor.mp e)]
      rfl

end

/-! ### Classing (R102) -/

section

theorem windowHolds_iff (w : Nat × Nat) (g : Option Nat) : windowHolds w g = true ↔ match g with
    | some g => w.1 ≤ g ∧ g ≤ w.2
    | none => w = (0, 65535) := by
  cases g <;> simp [windowHolds]

theorem weightHolds_iff (e : ClassEntry) (grade : Grade) (gross first : Nat) : e.weightHolds grade gross first = true
    ↔ (∀ lo hi, e.gross = some (lo, hi) → grade ≠ .unweighed ∧ lo ≤ gross ∧ gross ≤ hi)
      ∧ (∀ m, e.firstMin = some m → grade ≠ .unweighed ∧ m ≤ first) := by
  unfold ClassEntry.weightHolds
  obtain hg | ⟨lo, hi, hg⟩ : e.gross = none ∨ ∃ lo hi, e.gross = some (lo, hi) := by
    cases h : e.gross with
    | none => exact .inl rfl
    | some g => exact .inr ⟨g.1, g.2, rfl⟩
  · cases hf : e.firstMin <;> simp [hg]
  · cases hf : e.firstMin <;> simp [hg, and_assoc]
    tauto

/-- An entry fits by the gaps of the stored axles behind the first. -/
theorem fits_iff (e : ClassEntry) (total n : Nat) (gap : Nat → Option Nat) (grade : Grade) (gross first : Nat) :
    e.fits total ((((List.range n).map gap).take 12).drop 1) grade gross first = true
      ↔ e.Takes (min total 12) (min 12 n) gap grade gross first := by
  have hgaps (k : Nat) : ((((List.range n).map gap).take 12).drop 1)[k]? = if k + 1 < min 12 n then some (gap (k + 1)) else none := by
    rw [List.getElem?_drop, Nat.add_comm 1 k]
    by_cases h12 : k + 1 < 12
    · rw [List.getElem?_take_of_lt h12, List.getElem?_map]
      by_cases hn : k + 1 < n
      · rw [List.getElem?_range hn, if_pos (by omega)]
        rfl
      · rw [List.getElem?_eq_none (by simpa using hn), if_neg (by omega)]
        rfl
    · rw [List.getElem?_take_eq_none (by omega), if_neg (by omega)]
  have hwindows : ((e.windows.zip ((((List.range n).map gap).take 12).drop 1)).all fun p => windowHolds p.1 p.2) = true
      ↔ ∀ k w, e.windows[k]? = some w → k + 1 < min 12 n → windowHolds w (gap (k + 1)) = true := by
    rw [List.all_eq_true]
    constructor
    · intro h k w hw hk
      refine h (w, gap (k + 1)) (List.mem_iff_getElem?.mpr ⟨k, ?_⟩)
      rw [List.getElem?_zip_eq_some, hgaps, if_pos hk]
      exact ⟨hw, rfl⟩
    · intro h p hp
      obtain ⟨k, hk⟩ := List.mem_iff_getElem?.mp hp
      rw [List.getElem?_zip_eq_some, hgaps] at hk
      obtain ⟨hw, hg⟩ := hk
      split at hg
      · rename_i hlt
        have := h k p.1 hw hlt
        rwa [Option.some.inj hg] at this
      · cases hg
  unfold ClassEntry.fits ClassEntry.Takes
  dsimp only
  rw [Bool.and_eq_true, Bool.and_eq_true, Bool.and_eq_true, hwindows, weightHolds_iff, decide_eq_true_eq, decide_eq_true_eq]
  simp only [windowHolds_iff]
  constructor
  · rintro ⟨⟨hax, hw⟩, hgross, hfirst⟩
    refine ⟨hax, fun k w hk hlt => ?_, hgross, hfirst⟩
    have := hw k w hk hlt
    cases hg : gap (k + 1) <;> rw [hg] at this <;> exact this
  · rintro ⟨hax, hw, hgross, hfirst⟩
    refine ⟨⟨hax, fun k w hk hlt => ?_⟩, hgross, hfirst⟩
    have := hw k w hk hlt
    cases hg : gap (k + 1) <;> rw [hg] at this <;> exact this

end

end Sys2Proof.Machine
end

section
/-!
PROOFS. The speed a single-row axle borrows (R50, R62), and the close of a context as a whole (R97 to R102).
-/

namespace Sys2Proof.Machine

/-! ### Lenders (R50) -/

section

/-- What axle `m` offers to `x`: distance, centroid and own speed. -/
def lent (x m : Axle) : Option (Nat × Nat × Nat) :=
  match m.own, sameRow x m with
  | some v, some (cx, cm) => some (absDiff cx cm, cm, v)
  | _, _ => none

theorem lent_iff (x m : Axle) (d k v : Nat) : lent x m = some (d, k, v) ↔ Lends x m d k v := by
  have hdist (a b : Nat) : (d : Int) = |(a : Int) - b| ↔ absDiff a b = d := by
    rw [← natCast_absDiff]
    omega
  unfold lent Lends sameRow
  simp only [hdist]
  cases m.own <;> cases x.partA <;> cases m.partA <;> cases x.partB <;> cases m.partB <;> simp <;> tauto

/-- The better of the lender so far and one more (R50). -/
def pick (best : Option (Nat × Nat × Nat)) (next : Option (Nat × Nat × Nat)) : Option (Nat × Nat × Nat) :=
  match next with
  | some (d, k, v) => betterLender best d k v
  | none => best

theorem borrowedSpeed_eq (held : List Axle) (x : Axle) :
    borrowedSpeed held x = ((held.map (lent x)).foldl pick none).map (·.2.2) := by
  unfold borrowedSpeed
  rw [List.foldl_map]
  refine congrArg (Option.map _) (congrArg (fun f => held.foldl f none) ?_)
  funext best m
  unfold pick lent
  cases m.own <;> cases sameRow x m <;> rfl

/-- Lenders that are all farther, or as far with a higher centroid, give way. -/
theorem foldl_pick_worse {os : List (Option (Nat × Nat × Nat))} {d k v : Nat} (best : Option (Nat × Nat × Nat))
    (hbest : ∀ d' k' v', best = some (d', k', v') → d < d' ∨ d = d' ∧ k < k')
    (h : ∀ o ∈ os, ∀ d' k' v', o = some (d', k', v') → d < d' ∨ d = d' ∧ k < k') :
    pick (os.foldl pick best) (some (d, k, v)) = some (d, k, v) := by
  induction os generalizing best with
  | nil =>
    cases best with
    | none => rfl
    | some b => exact if_pos (hbest b.1 b.2.1 b.2.2 rfl)
  | cons o rest ih =>
    refine ih _ (fun d' k' v' hb => ?_) fun o ho => h o (List.mem_cons_of_mem _ ho)
    cases o with
    | none => exact hbest d' k' v' hb
    | some o =>
      have ho := h (some o) List.mem_cons_self o.1 o.2.1 o.2.2 rfl
      cases best with
      | none =>
        cases hb
        exact ho
      | some b =>
        simp only [pick, betterLender] at hb
        split at hb
        · cases hb
          exact ho
        · exact hbest d' k' v' hb

/-- A lender stays where the later ones are no nearer, nor as near with a lower centroid. -/
theorem foldl_pick_kept {os : List (Option (Nat × Nat × Nat))} {d k v : Nat}
    (h : ∀ o ∈ os, ∀ d' k' v', o = some (d', k', v') → d < d' ∨ d = d' ∧ k ≤ k') :
    os.foldl pick (some (d, k, v)) = some (d, k, v) := by
  induction os with
  | nil => rfl
  | cons o rest ih =>
    rw [List.foldl_cons, show pick (some (d, k, v)) o = some (d, k, v) from ?_, ih fun o ho => h o (List.mem_cons_of_mem _ ho)]
    cases o with
    | none => rfl
    | some o =>
      obtain ⟨d', k', v'⟩ := o
      have ho := h _ List.mem_cons_self d' k' v' rfl
      exact if_neg (by omega)

theorem borrowedSpeed_some {xs pre post : List Axle} {x m : Axle} {d k v : Nat} (hxs : xs = pre ++ m :: post) (hm : Lends x m d k v)
    (hpre : ∀ y ∈ pre, ∀ d' k' v', Lends x y d' k' v' → d < d' ∨ d = d' ∧ k < k')
    (hpost : ∀ y ∈ post, ∀ d' k' v', Lends x y d' k' v' → d < d' ∨ d = d' ∧ k ≤ k') : borrowedSpeed xs x = some v := by
  have hbefore : ∀ o ∈ pre.map (lent x), ∀ d' k' v', o = some (d', k', v') → d < d' ∨ d = d' ∧ k < k' := by
    intro o ho d' k' v' e
    obtain ⟨y, hy, rfl⟩ := List.mem_map.mp ho
    exact hpre y hy d' k' v' ((lent_iff ..).mp e)
  have hafter : ∀ o ∈ post.map (lent x), ∀ d' k' v', o = some (d', k', v') → d < d' ∨ d = d' ∧ k ≤ k' := by
    intro o ho d' k' v' e
    obtain ⟨y, hy, rfl⟩ := List.mem_map.mp ho
    exact hpost y hy d' k' v' ((lent_iff ..).mp e)
  rw [borrowedSpeed_eq, hxs, List.map_append, List.map_cons, List.foldl_append, List.foldl_cons, (lent_iff ..).mpr hm,
    foldl_pick_worse none (by simp) hbefore, foldl_pick_kept hafter]
  rfl

theorem borrowedSpeed_none {xs : List Axle} {x : Axle} (h : ∀ m ∈ xs, ∀ d k v, ¬Lends x m d k v) : borrowedSpeed xs x = none := by
  have hnone : ∀ os : List (Option (Nat × Nat × Nat)), (∀ o ∈ os, o = none) → os.foldl pick none = none := by
    intro os hos
    induction os with
    | nil => rfl
    | cons o rest ih =>
      rw [List.foldl_cons, hos o List.mem_cons_self]
      exact ih fun o ho => hos o (List.mem_cons_of_mem _ ho)
  rw [borrowedSpeed_eq, hnone]
  · rfl
  · intro o ho
    obtain ⟨y, hy, rfl⟩ := List.mem_map.mp ho
    cases hl : lent x y with
    | none => rfl
    | some o => exact absurd ((lent_iff x y o.1 o.2.1 o.2.2).mp hl) (h y hy _ _ _)

theorem closeOut_other {s : State} {xs : List Axle} {x : Axle} (h : x.stage ≠ .singleRow) : s.closeOut xs x = x := by
  unfold State.closeOut
  split
  · rename_i hs
    exact absurd hs h
  · rfl

theorem closeOut_borrowing {s : State} {xs : List Axle} {x : Axle} {v : Nat} (h : x.stage = .singleRow)
    (hv : borrowedSpeed xs x = some v) : s.closeOut xs x
      = { s.weigh v { x with borrowed := some v, flags := x.flags ||| 0x00100 } with stage := .closedOut } := by
  unfold State.closeOut
  rw [h]
  dsimp only
  rw [hv]
  rfl

theorem closeOut_unweighed {s : State} {xs : List Axle} {x : Axle} (h : x.stage = .singleRow)
    (hv : borrowedSpeed xs x = none) : s.closeOut xs x =
      { x with
        loads := Loads.zero
        flags := x.flags ||| flagWhen (s.partsFault x.partA x.partB) flagChannelFault
        grade := some .unweighed
        stage := .closedOut } := by
  unfold State.closeOut
  rw [h]
  dsimp only
  rw [hv]

end

/-! ### The close as a whole (R97) -/

theorem releaseWaiting_eq (c : Context) (s : State) :
    releaseWaiting c s = { s with axle.rowA := s.axle.rowA.filter fun w => decide (∀ x ∈ c.axles, x.id ≠ w.id) } := by
  have hfilter : (fun w : WaitingAxle => !(c.axles.any fun x => decide (x.id = w.id)))
      = fun w => decide (∀ x ∈ c.axles, x.id ≠ w.id) := by
    funext w
    rw [Bool.eq_iff_iff]
    simp
  unfold releaseWaiting
  rw [hfilter]

theorem closeContext_some {s : State} {l : Lane} {k : Slot} {c : Context} (x : CloseCause) (hc : s.context l k = some c) :
    closeContext l k x s = testDrain (captureClosed c.serial (setContext l k none
      (if c.axles.isEmpty then s else closeStages l c x s))) := by
  unfold closeContext
  rw [hc]

theorem find_first {α : Type} {p : α → Bool} {pre post : List α} {a : α} (hpre : ∀ x ∈ pre, ¬p x = true) (ha : p a = true) :
    (pre ++ a :: post).find? p = some a :=
  List.find?_eq_some_iff_append.mpr ⟨ha, pre, post, rfl, fun x hx => by simpa using hpre x hx⟩

/-- Settles O25: the parts of a close, then its values, then its axles. -/
theorem closingValues : Obligations.ClosingValues := by
  refine ⟨fun l k cause c s hc => ⟨fun ha => ?_, fun ha => ?_⟩, fun l cause c held s => ?_, fun c s => ?_⟩
  · rw [closeContext_some cause hc, ha]
    rfl
  · rw [closeContext_some cause hc, if_neg (by simpa using ha), closeStages, releaseWaiting_eq]
    rfl
  · obtain ⟨_, hperm, hsorted, hstable⟩ := finalOrder_spec s held
    have hgaps := finalSpacings_eq s held
    have hlen : ((s.closeValues l c cause held).1.stored).length = min 12 (s.ordered held).length := by
      simp [State.closeValues, hgaps, State.ordered]
    refine ⟨rfl, rfl, rfl, rfl, rfl, rfl, rfl, s.ordered held, hperm, hsorted, hstable, ?_, rfl, rfl, ?_, ?_, vehicleFlags_bits _,
      vehicleGrade_code .., ?_⟩
    · simp only [State.closeValues, hgaps, List.map_map]
      rfl
    · simp only [State.closeValues, hgaps, List.map_map]
      rfl
    · exact meanOwnSpeed_eq _ _
    · have hfits (e : ClassEntry) : e.fits c.total (((spacings (s.finalOrder held)).take 12).drop 1)
          (s.closeValues l c cause held).1.grade (s.closeValues l c cause held).1.gross
          (match s.ordered held with | [] => 0 | x :: _ => x.loads.load) = true
          ↔ e.Takes (min c.total 12) (s.closeValues l c cause held).1.stored.length (s.gap (s.ordered held))
            (s.closeValues l c cause held).1.grade (s.closeValues l c cause held).1.gross
            (((s.ordered held).map (·.loads.load)).headD 0) := by
        rw [hlen, hgaps, fits_iff]
        cases s.ordered held <;> rfl
      have hentry : (s.closeValues l c cause held).2 = s.cls.active.find? fun e =>
          e.fits c.total (((spacings (s.finalOrder held)).take 12).drop 1) (s.closeValues l c cause held).1.grade
            (s.closeValues l c cause held).1.gross (match s.ordered held with | [] => 0 | x :: _ => x.loads.load) := rfl
      have hcode : (s.closeValues l c cause held).1.cls
          = match (s.closeValues l c cause held).2 with | some e => e.code | none => 0 := rfl
      refine ⟨fun pre e post hactive hpre he => ?_, fun hnone => ?_⟩
      · have hfind := hentry
        rw [hactive, find_first (fun d hd hf => hpre d hd ((hfits d).mp hf)) ((hfits e).mpr he)] at hfind
        rw [hcode, hfind]
        exact ⟨rfl, rfl⟩
      · have hfind := hentry
        rw [List.find?_eq_none.mpr fun e he hf => hnone e he ((hfits e).mp hf)] at hfind
        rw [hcode, hfind]
        exact ⟨rfl, rfl⟩
  · refine ⟨s.closeOut _, rfl, fun x hx => ⟨closeOut_other, fun hs hno => ?_, fun pre m post d k v hs hxs hm hpre hpost => ?_⟩⟩
    · have hout := closeOut_unweighed (s := s) hs (borrowedSpeed_none hno)
      refine ⟨fun h => hout.trans ?_, fun h => hout.trans ?_⟩
      · rw [(partsFault_iff s x).mpr h]
        rfl
      · rw [show s.partsFault x.partA x.partB = false from by simpa using fun e => h ((partsFault_iff s x).mp e),
          show x.flags ||| flagWhen false flagChannelFault = x.flags from BitVec.or_zero]
        rfl
    · exact closeOut_borrowing hs (borrowedSpeed_some hxs hm hpre hpost)

end Sys2Proof.Machine
end

section
/-!
PROOFS. What a close hands on: the vehicle record and its counters (R106, R107), reference offers and drift updates
(R115 to R118, R122).
-/

namespace Sys2Proof.Machine

/-! ### Words and records made now (10.4) -/

theorem calRecord_eq (s : State) (kind limit cause lane band w3 w4 w5 w6 : Nat) :
    s.newRecord .other (calibrationWords s kind limit cause lane band w3 w4 w5 w6)
      = s.calRecord kind limit cause lane band w3 w4 w5 w6 := by
  unfold State.calRecord calibrationWords
  simp only [put_eq]
  norm_num [tickLow, tickHigh, b2n]

/-- The queue, with room, after a record is created (R153, R154). -/
theorem createRecord_queue_free {s : State} (k : RecKind) (ws : List Nat) (h : s.rw.queue.length < 64) :
    (createRecord k ws s).rw.queue = s.rw.queue ++ [s.newRecord k ws] := by
  unfold createRecord
  dsimp only
  rw [enterRecord_free (s := { s with rw.created := s.rw.created + 1 }) h, newRecord_eq]
  dsimp only
  split <;> rfl

/-- What a cascade leaves behind the records that were queued. -/
theorem runCascade_queue (e : TrigEvent) (s : State) :
    ∃ more, (runCascade e s).1.rw.queue = s.rw.queue ++ more ∧ ∀ r ∈ more, r.kind = .trigger := by
  obtain ⟨j, _, _, hqueue, _⟩ := runCascade_reported e s
  obtain ⟨more, hmore, hkinds, _⟩ := hqueue
  exact ⟨more, hmore, fun r hr => (hkinds r hr).1⟩

/-! ### The vehicle record (R106, R107; 10.4) -/

section

/-- Entry `i` of a list laid out in threes. -/
theorem threes_get {α β : Type} {f : α → List β} (hf : ∀ a, (f a).length = 3) {l : List α} {i : Nat} {a : α} (tail : List β)
    (h : l[i]? = some a) : ((l.flatMap f ++ tail).drop (3 * i)).take 3 = f a := by
  induction l generalizing i with
  | nil => cases h
  | cons b rest ih =>
    rw [List.flatMap_cons, List.append_assoc]
    cases i with
    | zero =>
      obtain rfl := Option.some.inj h
      rw [Nat.mul_zero, List.drop_zero, ← hf b, List.take_left]
    | succ i =>
      rw [show 3 * (i + 1) = (f b).length + 3 * i by rw [hf b]; omega, ← List.drop_drop, List.drop_left]
      exact ih h

theorem threes_length {α β : Type} {f : α → List β} (hf : ∀ a, (f a).length = 3) (l : List α) :
    (l.flatMap f).length = 3 * l.length := by
  induction l with
  | nil => rfl
  | cons b rest ih => rw [List.flatMap_cons, List.length_append, hf, ih, List.length_cons]; omega

/-- The twelve header words of a vehicle record. -/
def vehicleHeader (v : ClosedVehicle) (calGen clsGen : Nat) (screened : BitVec 8) (reduced : Bool) : List Nat :=
  let onset := v.onset.getD 0
  [ 1 + 8 * v.grade.code + 32 * (v.lane.val + 1) + 256 * v.stored.length, v.serial, onset % 4294967296, v.closeTick % 4294967296,
    v.total, v.cls + 65536 * calGen,
    clsGen + 65536 * screened.toNat + 16777216 * v.rowA.code + 268435456 * v.rowB.code, v.gross, v.length,
    v.meanSpeed + 65536 * (if reduced then v.flags ||| 0x200 else v.flags).toNat,
    (v.rowA.valueOr % 65536).toNat + 65536 * (v.rowB.valueOr % 65536).toNat,
    onset / 4294967296 % 65536 + 65536 * (v.closeTick / 4294967296 % 65536) ]

theorem vehicleWords_eq (v : ClosedVehicle) (calGen clsGen : Nat) (screened : BitVec 8) (reduced : Bool) :
    vehicleWords v calGen clsGen screened reduced = vehicleHeader v calGen clsGen screened reduced
      ++ (v.stored.flatMap (fun p => axleEntry p.1 p.2)
        ++ if reduced then [] else v.stored.flatMap fun p => wheelDetail p.1) := by
  have hflags : v.flags ||| flagWhen reduced vehReduced = if reduced then v.flags ||| 0x200 else v.flags := by
    cases reduced
    · exact BitVec.or_zero
    · rfl
  unfold vehicleWords vehicleHeader
  dsimp only
  rw [hflags, List.append_assoc]
  simp only [put_eq]
  norm_num [tickLow, tickHigh, low16]

theorem axleEntry_eq (x : Axle) (g : Nat) : axleEntry x g =
    [x.loads.load + 16777216 * (x.grade.getD .good).code, g + 65536 * (x.speed?.getD 0), x.flags.toNat] := by
  unfold axleEntry Axle.gradeCode
  simp only [put_eq]
  norm_num

theorem wheelDetail_eq (x : Axle) : wheelDetail x = [x.loads.near + 65536 * x.loads.far, x.loads.totalA, x.loads.totalB] := by
  unfold wheelDetail
  simp only [put_eq]
  norm_num

theorem recordStage_eq {v : ClosedVehicle} {s : State} {row : Option Nat}
    (hrow : (match v.stored with | [] => none | p :: _ => s.rowBTime p.1) = row) : recordStage v s =
      let a := runCascade (.vehicle (v.event row)) s
      let w := createRecord .vehicle (vehicleWords v a.1.cal.gen a.1.cls.gen a.2 (decide (32 < a.1.rw.queue.length))) a.1
      { w with veh.vehicles := raised w.veh.vehicles 1, veh.axles := raised w.veh.axles v.total } := by
  subst hrow
  dsimp only
  rw [← satInc_eq, ← satAdd_eq]
  rfl

/-- Settles O28: the record's words part by part. -/
theorem vehicleRecordWords : Obligations.VehicleRecordWords := by
  intro v s rowB event u screened n reduced onset
  have hentry (p : Axle × Nat) : (axleEntry p.1 p.2).length = 3 := rfl
  have hdetail (p : Axle × Nat) : (wheelDetail p.1).length = 3 := rfl
  have hrow : (match v.stored with | [] => none | p :: _ => s.rowBTime p.1) = rowB := by
    show _ = (match v.stored.head? with | none => none | some (x, _) => _)
    cases v.stored with
    | nil => rfl
    | cons p rest =>
      obtain ⟨x, g⟩ := p
      show s.rowBTime x = match x.partB, x.partA, x.speed? with
        | some p, _, _ => some p.centroid
        | none, some p, some w => some (p.centroid + halfUp ((s.site.geom.get p.lane).d * 131072) w)
        | _, _, _ => none
      unfold State.rowBTime
      cases x.partB <;> cases x.partA <;> cases x.speed? <;> rfl
  refine ⟨vehicleWords v u.cal.gen u.cls.gen screened reduced, ?_, ?_, ?_, fun i x g hi => ⟨?_, fun hr => ?_⟩⟩
  · exact recordStage_eq hrow
  · rw [vehicleWords_eq, List.length_append, List.length_append, threes_length hentry]
    cases reduced
    · rw [if_neg (by simp), if_neg (by simp), threes_length hdetail]
      show 12 + _ = 12 + 6 * v.stored.length
      omega
    · rfl
  · rw [vehicleWords_eq]
    rfl
  · rw [vehicleWords_eq, ← List.drop_drop, show ∀ l, (vehicleHeader v u.cal.gen u.cls.gen screened reduced ++ l).drop 12 = l from
      fun _ => rfl, threes_get hentry _ hi, axleEntry_eq]
  · rw [vehicleWords_eq, hr, if_neg (by simp), Nat.add_assoc, ← List.drop_drop,
      show ∀ l, (vehicleHeader v u.cal.gen u.cls.gen screened false ++ l).drop 12 = l from fun _ => rfl, ← List.drop_drop,
      show 3 * n = (v.stored.flatMap fun p => axleEntry p.1 p.2).length from (threes_length hentry _).symm, List.drop_left]
    have := threes_get hdetail [] hi
    rw [List.append_nil] at this
    rw [this, wheelDetail_eq]

end

/-! ### Reference offers (R106, R115) -/

section

theorem offerOpen_iff (s : State) (o : Offer) : s.offerOpen o = true ↔
    o.grade = .good ∧ (s.axle.par.bandLow ≤ o.meanSpeed ∧ o.meanSpeed ≤ s.axle.par.bandHigh)
      ∧ s.cal.frozen = false ∧ s.cal.enables.get o.lane = true := by
  have hband : s.axle.par.outside o.meanSpeed = false ↔ s.axle.par.bandLow ≤ o.meanSpeed ∧ o.meanSpeed ≤ s.axle.par.bandHigh := by
    rw [← Bool.not_eq_true, outside_iff]
    omega
  unfold State.offerOpen
  simp [hband]

theorem load_eq_some (o : Offer) (n : Nat) : o.load? = some n ↔ ∃ x, (o.axle = some x ∧ x.flags.getLsbD 5 = false ∧ x.flags.getLsbD 6 = false)
    ∧ (o.target ≤ 2 * x.loads.load ∧ 2 * x.loads.load ≤ 3 * o.target) ∧ x.loads.load = n := by
  have hflags (x : Axle) : hasFlag x.flags (flagStraddle ||| flagLaneChange) = true
      ↔ x.flags.getLsbD 5 = true ∨ x.flags.getLsbD 6 = true := by
    have hmask := getLsbD_iff_mem (mask := flagStraddle ||| flagLaneChange) (ns := [5, 6]) (by decide) (by decide)
    simp only [hasFlag_iff, hmask, List.mem_cons, List.not_mem_nil, or_false, and_or_left, exists_or, exists_eq_right]
  unfold Offer.load?
  cases o.axle with
  | none => simp
  | some x =>
    dsimp only
    by_cases hx : hasFlag x.flags (flagStraddle ||| flagLaneChange) = true
    · rw [if_pos hx]
      rw [hflags] at hx
      refine iff_of_false (by simp) ?_
      rintro ⟨y, ⟨hy, h5, h6⟩, -⟩
      obtain rfl := Option.some.inj hy
      obtain h | h := hx
      · exact absurd (h.symm.trans h5) (by decide)
      · exact absurd (h.symm.trans h6) (by decide)
    · rw [if_neg hx]
      rw [hflags, not_or, Bool.not_eq_true, Bool.not_eq_true] at hx
      constructor
      · intro h
        split at h
        · rename_i hload
          exact ⟨x, ⟨rfl, hx⟩, hload, Option.some.inj h⟩
        · cases h
      · rintro ⟨y, ⟨hy, -⟩, hload, rfl⟩
        obtain rfl := Option.some.inj hy
        exact if_pos hload

theorem value_eq_some (t : RowTemp) (i : Int) : t.value? = some i ↔
    match t with | .none => False | .live v => v = i | .secondary v => v = i | .held v _ => v = i | .stale v _ => v = i := by
  cases t <;> simp [RowTemp.value?]

theorem accepts_iff (c : Cell) (target : Nat) : c.accepts target = true ↔ c.count = 0 ∨ c.target = some target := by
  simp [Cell.accepts]

/-- An offer with a load and a temperature. -/
theorem takeOffer_some {o : Offer} {s : State} {n : Nat} {t : Int} (hload : o.load? = some n) (ht : o.rowA.value? = some t) :
    takeOffer o s =
      let c := (s.cal.cells.get o.lane).get (bandOf s.temp.bounds t)
      if s.offerOpen o && c.accepts o.target then
        let c' : Cell :=
          { c with count := c.count + 1, sum := c.sum + n, target := some (if c.count = 0 then o.target else c.target.getD o.target) }
        if c'.count = s.cal.window then driftUpdate o.lane (bandOf s.temp.bounds t) c' s
        else setCell o.lane (bandOf s.temp.bounds t) c' s
      else rejectOffer s := by
  have hband : s.offerBand o = some (bandOf s.temp.bounds t) := by
    unfold State.offerBand
    rw [ht]
  unfold takeOffer
  rw [hload, hband]

theorem takeOffer_rejected {o : Offer} {s : State} (h : o.load? = none ∨ o.rowA.value? = none) : takeOffer o s = rejectOffer s := by
  unfold takeOffer
  split
  · rename_i n b hload hband
    obtain h | h := h
    · rw [h] at hload
      cases hload
    · rw [State.offerBand, h] at hband
      cases hband
  · rfl

end

/-! ### Drift updates (R116 to R118) -/

section
variable {s : State} {lane : Lane} {band : Fin 8} {c : Cell}

/-- The cell a drift update leaves (R117). -/
def updatedCell (s : State) (c : Cell) : Cell :=
  let proposed := driftProposed c.kd (driftStep (driftRatio (c.target.getD 0) (driftMean c s.cal.window)) s.cal.maxStep)
  { c.clearTally with
    kd := clamp s.cal.lower s.cal.upper proposed
    updates := satInc c.updates
    lastTick := s.clock
    limit := decide (proposed ≤ s.cal.lower) || decide (s.cal.upper ≤ proposed) }

/-- The state of a drift update whose record is created. -/
def updateRecorded (lane : Lane) (band : Fin 8) (c : Cell) (s : State) : State :=
  let mean := driftMean c s.cal.window
  let step := driftStep (driftRatio (c.target.getD 0) mean) s.cal.maxStep
  let proposed := driftProposed c.kd step
  calibrationRecord (if (updatedCell s c).limit then 2 else 1) (b2n ((updatedCell s c).limit && !decide (proposed ≤ s.cal.lower))) 0
    (lane.val + 1) band.val (c.kd + put 16 (updatedCell s c).kd) mean (c.target.getD 0 + put 16 (low16 step)) (updatedCell s c).updates
    (setCell lane band (updatedCell s c) s)

/-- A drift update: its cell and its record, and where it strikes a limit the cascade of DRIFT_LIMIT. -/
theorem driftUpdate_eq : ∃ e, driftUpdate lane band c s =
    if (updatedCell s c).limit then (runCascade e (updateRecorded lane band c s)).1 else updateRecorded lane band c s :=
  ⟨_, rfl⟩

theorem driftUpdate_cells : (driftUpdate lane band c s).cal.cells
    = s.cal.cells.set lane ((s.cal.cells.get lane).set band (updatedCell s c)) := by
  obtain ⟨e, h⟩ := driftUpdate_eq (s := s) (lane := lane) (band := band) (c := c)
  have hrecorded : (updateRecorded lane band c s).cal.cells
      = s.cal.cells.set lane ((s.cal.cells.get lane).set band (updatedCell s c)) := by
    unfold updateRecorded
    dsimp only
    rw [calibrationRecord_cal]
    rfl
  rw [h]
  split
  · rw [runCascade_firing e (updateRecorded lane band c s)]
    exact hrecorded
  · exact hrecorded

/-- The records of a drift update: its own, and behind it those of the cascade where a limit was struck. -/
theorem driftUpdate_records : s.rw.created + 1 ≤ (driftUpdate lane band c s).rw.created
    ∧ ((updatedCell s c).limit = false → (driftUpdate lane band c s).rw.created = s.rw.created + 1) := by
  obtain ⟨e, h⟩ := driftUpdate_eq (s := s) (lane := lane) (band := band) (c := c)
  have hrecorded : (updateRecorded lane band c s).rw.created = s.rw.created + 1 := calibrationRecord_created ..
  rw [h]
  refine ⟨?_, fun hl => by rw [hl]; exact hrecorded⟩
  split
  · obtain ⟨j, _, hcreated, _⟩ := runCascade_reported e (updateRecorded lane band c s)
    rw [hcreated, hrecorded]
    exact Nat.le_add_right _ _
  · exact hrecorded.ge

theorem driftUpdate_queue : ∃ more, (driftUpdate lane band c s).rw.queue
      = (updateRecorded lane band c s).rw.queue ++ more
    ∧ ((updatedCell s c).limit = false → more = []) ∧ ∀ r ∈ more, r.kind = .trigger := by
  obtain ⟨e, h⟩ := driftUpdate_eq (s := s) (lane := lane) (band := band) (c := c)
  rw [h]
  split
  · rename_i hl
    obtain ⟨more, hmore, hkinds⟩ := runCascade_queue e (updateRecorded lane band c s)
    exact ⟨more, hmore, fun hf => absurd (hf.symm.trans hl) (by decide), hkinds⟩
  · exact ⟨[], (List.append_nil _).symm, fun _ => rfl, by simp⟩

theorem satInc_bound (n : Nat) : satInc n = if n < 4294967295 then n + 1 else 4294967295 := by
  rw [satInc_eq, raised]
  split <;> omega

end

theorem clampInt_eq {lo hi : Int} (h : lo ≤ hi) (v : Int) : clampInt lo hi v = max lo (min hi v) := by
  unfold clampInt
  split
  · omega
  · split <;> omega

theorem roundDiv_16384 (n : Nat) : roundDiv n 16384 = (n + 8192) / 16384 := by
  unfold roundDiv
  omega

/-- Settles O60: the offer, then the update's cell and records. -/
theorem driftUpdateArithmetic : Obligations.DriftUpdateArithmetic := by
  refine ⟨fun o s => ⟨fun x t h => ?_, fun h => ?_⟩, fun v s => ⟨rfl, fun e => ⟨fun hr => ?_, fun idx target hr => ?_⟩⟩,
    fun lane band c target s htarget hw hsum hmax hle => ?_⟩
  · obtain ⟨hgrade, hband, hx, hopen, ht, hload, hcell⟩ := h
    have hn : o.load? = some x.loads.load := (load_eq_some o _).mpr ⟨x, hx, hload, rfl⟩
    have hvalue : o.rowA.value? = some t := by
      rw [value_eq_some]
      generalize o.rowA = a at ht ⊢
      cases a <;> exact ht
    have hcond : (s.offerOpen o && ((s.cal.cells.get o.lane).get (bandOf s.temp.bounds t)).accepts o.target) = true := by
      rw [Bool.and_eq_true, offerOpen_iff, accepts_iff]
      exact ⟨⟨hgrade, hband, hopen⟩, hcell⟩
    have htally : (if ((s.cal.cells.get o.lane).get (bandOf s.temp.bounds t)).count = 0 then o.target
        else ((s.cal.cells.get o.lane).get (bandOf s.temp.bounds t)).target.getD o.target) = o.target := by
      split
      · rfl
      · rename_i hcount
        rw [hcell.resolve_left hcount]
        rfl
    rw [takeOffer_some hn hvalue]
    dsimp only
    rw [if_pos hcond, htally]
    exact ⟨fun hne => if_neg hne, fun he => if_pos he⟩
  · have hreject : rejectOffer s = { s with cal.rejected := raised s.cal.rejected 1 } := by
      rw [← satInc_eq]
      rfl
    rw [← hreject]
    cases hn : o.load? with
    | none => exact takeOffer_rejected (.inl hn)
    | some n =>
      cases hvalue : o.rowA.value? with
      | none => exact takeOffer_rejected (.inr hvalue)
      | some t =>
        rw [takeOffer_some hn hvalue]
        refine if_neg fun hcond => ?_
        rw [Bool.and_eq_true, offerOpen_iff, accepts_iff] at hcond
        obtain ⟨⟨hgrade, hband, hopen⟩, hcell⟩ := hcond
        obtain ⟨x, hx, hload, _⟩ := (load_eq_some o n).mp hn
        refine h x t ⟨hgrade, hband, hx, hopen, ?_, hload, hcell⟩
        have ht := (value_eq_some o.rowA t).mp hvalue
        generalize o.rowA = a at ht ⊢
        cases a <;> exact ht
  · unfold offerStage
    dsimp only
    rw [hr]
  · unfold offerStage
    dsimp only
    rw [hr]
    rfl
  · intro mean ratio step proposed u d
    have hstep : driftStep (driftRatio (c.target.getD 0) (driftMean c s.cal.window)) s.cal.maxStep = step := by
      rw [htarget]
      exact clampInt_eq (by omega) _
    have hproposed : driftProposed c.kd (driftStep (driftRatio (c.target.getD 0) (driftMean c s.cal.window)) s.cal.maxStep)
        = proposed := by
      rw [hstep]
      exact roundDiv_16384 _
    have hupdated : updatedCell s c = { c.clearTally with
        kd := bring s.cal.lower s.cal.upper proposed
        updates := satInc c.updates
        lastTick := s.clock
        limit := decide (proposed ≤ s.cal.lower) || decide (s.cal.upper ≤ proposed) } := by
      unfold updatedCell
      dsimp only
      rw [hproposed, clamp_eq_bring hle]
    have hcell : d = updatedCell s c := by
      show ((driftUpdate lane band c s).cal.cells.get lane).get band = _
      rw [driftUpdate_cells, Tab.get_set_same, Tab.get_set_same]
    obtain ⟨hcreated, hone⟩ := driftUpdate_records (s := s) (lane := lane) (band := band) (c := c)
    refine ⟨by rw [hcell, hupdated], by rw [hcell, hupdated]; rfl, by rw [hcell, hupdated]; rfl, by rw [hcell, hupdated],
      by rw [hcell, hupdated, satInc_bound], by rw [hcell, hupdated], fun l b h => ?_, driftUpdate_settings .., hcreated,
      fun h => hone (hcell ▸ h), fun hroom => ?_⟩
    · show ((driftUpdate lane band c s).cal.cells.get l).get b = _
      rw [driftUpdate_cells, Tab.get_set]
      split
      · rename_i hl
        subst hl
        rw [Tab.get_set_ne _ _ fun e => h.elim (fun hne => hne rfl) fun hne => hne e.symm]
      · rfl
    · obtain ⟨more, hmore, hnil, hkinds⟩ := driftUpdate_queue (s := s) (lane := lane) (band := band) (c := c)
      refine ⟨more, ?_, fun h => hnil (hcell ▸ h), hkinds⟩
      have hlimit : b2n ((updatedCell s c).limit && !decide (proposed ≤ s.cal.lower))
          = if s.cal.lower < proposed ∧ s.cal.upper ≤ proposed then 1 else 0 := by
        have hbit : ((updatedCell s c).limit && !decide (proposed ≤ s.cal.lower))
            = decide (s.cal.lower < proposed ∧ s.cal.upper ≤ proposed) := by
          rw [hupdated, Bool.eq_iff_iff]
          simp
          omega
        rw [hbit, b2n]
        simp only [decide_eq_true_eq]
      have hrecorded : (updateRecorded lane band c s).rw.queue = s.rw.queue ++ [s.calRecord (if d.limit then 2 else 1)
          (if s.cal.lower < proposed ∧ s.cal.upper ≤ proposed then 1 else 0) 0 (lane.val + 1) band.val (c.kd + 65536 * d.kd) mean
          (target + 65536 * half step) d.updates] := by
        unfold updateRecorded calibrationRecord
        dsimp only
        rw [createRecord_queue_free (s := setCell lane band (updatedCell s c) s) _ _ hroom, calRecord_eq, hproposed, hlimit, hstep, hcell, put_eq, put_eq, htarget]
        norm_num
        rfl
      rw [hmore, hrecorded, List.append_assoc]
      rfl

end Sys2Proof.Machine
end

section
/-!
PROOFS. The records made along cascades and closes: each is queued, or counted lost under its kind (R153, R154, R166).
-/

namespace Sys2Proof.Machine

/-! ### Records queued or lost, by kind -/

/-- The records queued of one kind of loss. -/
def queuedOf (vehicle : Bool) (q : List Rec) : Nat := q.countP fun r => decide (r.kind = .vehicle) == vehicle

/-- The records of one kind of loss counted lost and queued. -/
def State.owed (s : State) (vehicle : Bool) : Nat :=
  (if vehicle then s.rw.lostVehicle else s.rw.lostOther) + queuedOf vehicle s.rw.queue

theorem queuedOf_append (v : Bool) (p q : List Rec) : queuedOf v (p ++ q) = queuedOf v p + queuedOf v q := List.countP_append

theorem queuedOf_perm {v : Bool} {p q : List Rec} (h : p.Perm q) : queuedOf v p = queuedOf v q := h.countP_eq _

theorem queuedOf_both (q : List Rec) : queuedOf true q + queuedOf false q = q.length := by
  induction q with
  | nil => rfl
  | cons r rest ih =>
    rw [queuedOf, queuedOf, List.countP_cons, List.countP_cons, List.length_cons]
    change queuedOf true rest + _ + (queuedOf false rest + _) = _
    cases hk : decide (r.kind = .vehicle) <;> simp <;> omega

theorem queuedOf_one (v : Bool) (r : Rec) : queuedOf v [r] = if decide (r.kind = .vehicle) == v then 1 else 0 := by
  simp [queuedOf, List.countP_cons]

/-- What making records does to the Record Writer: each is queued or counted lost under its kind, and no queued record is
forgotten. -/
structure Counted (s t : State) : Prop where
  created : s.rw.created ≤ t.rw.created
  queue : s.rw.queue.length ≤ t.rw.queue.length
  owed : s.owed true + s.owed false + (t.rw.created - s.rw.created) ≤ 4294967295 →
    s.owed true ≤ t.owed true ∧ s.owed false ≤ t.owed false
      ∧ t.owed true + t.owed false = s.owed true + s.owed false + (t.rw.created - s.rw.created)

theorem Counted.refl (s : State) : Counted s s := ⟨le_rfl, le_rfl, fun _ => ⟨le_rfl, le_rfl, by omega⟩⟩

theorem Counted.trans {s t u : State} (h : Counted s t) (k : Counted t u) : Counted s u := by
  refine ⟨h.created.trans k.created, h.queue.trans k.queue, fun hb => ?_⟩
  have h1 := h.created
  have h2 := k.created
  obtain ⟨hv, ho, ht⟩ := h.owed (by omega)
  obtain ⟨kv, ko, kt⟩ := k.owed (by omega)
  exact ⟨by omega, by omega, by omega⟩

/-- What a step that leaves counts, queue and stream serial of the Record Writer brings about. -/
theorem Counted.of_same {s t : State} (hcreated : t.rw.created = s.rw.created) (hqueue : t.rw.queue = s.rw.queue)
    (hvehicle : t.rw.lostVehicle = s.rw.lostVehicle) (hother : t.rw.lostOther = s.rw.lostOther) : Counted s t := by
  have howed (v : Bool) : t.owed v = s.owed v := by
    unfold State.owed
    rw [hqueue, hvehicle, hother]
  exact ⟨hcreated.ge, (congrArg List.length hqueue).ge, fun _ => ⟨(howed _).ge, (howed _).ge, by rw [howed, howed]; omega⟩⟩

/-- The same, the page in hand is the same, and a record pinned at the head of the queue stays there. -/
structure Made (s t : State) : Prop extends Counted s t where
  page : t.rw.page = s.rw.page
  head : s.rw.pinned = true → ∀ r rest, s.rw.queue = r :: rest → t.rw.pinned = true ∧ ∃ rest', t.rw.queue = r :: rest'

theorem Made.refl (s : State) : Made s s := ⟨.refl s, rfl, fun hpin _ rest hq => ⟨hpin, rest, hq⟩⟩

theorem Made.trans {s t u : State} (h : Made s t) (k : Made t u) : Made s u := by
  refine ⟨h.toCounted.trans k.toCounted, k.page.trans h.page, fun hpin r rest hq => ?_⟩
  obtain ⟨hpin', rest', hq'⟩ := h.head hpin r rest hq
  exact k.head hpin' r rest' hq'

theorem Made.of_rw {s t : State} (h : t.rw = s.rw) : Made s t :=
  ⟨.of_same (by rw [h]) (by rw [h]) (by rw [h]) (by rw [h]), by rw [h],
    fun hpin _ rest hq => ⟨by rw [h, hpin], rest, by rw [h, hq]⟩⟩

theorem Made.foldl {α : Type} {s : State} {f : State × BitVec 8 → α → State × BitVec 8}
    (hf : ∀ a n, Made s a.1 → Made s (f a n).1) (l : List α) {a : State × BitVec 8} (h : Made s a.1) : Made s (l.foldl f a).1 := by
  induction l generalizing a with
  | nil => exact h
  | cons n rest ih => exact ih (hf a n h)

/-! ### A record created -/

theorem displaceable_some {pinned : Bool} {q rest : List Rec} {old : Rec} (h : displaceable pinned q = some (old, rest)) :
    q.Perm (old :: rest) ∧ old.kind ≠ .vehicle := by
  have htake : ∀ (q rest : List Rec), takeOldestOther q = some (old, rest) → q.Perm (old :: rest) ∧ old.kind ≠ .vehicle := by
    intro q
    induction q with
    | nil => intro rest h; cases h
    | cons r q ih =>
      intro rest h
      rw [takeOldestOther] at h
      split at h
      · cases hq : takeOldestOther q with
        | none => rw [hq] at h; cases h
        | some x =>
          rw [hq] at h
          obtain ⟨rfl, rfl⟩ := Prod.mk.inj (Option.some.inj h)
          obtain ⟨hperm, hkind⟩ := ih x.2 hq
          exact ⟨(hperm.cons r).trans (.swap _ _ _), hkind⟩
      · rename_i hk
        obtain ⟨rfl, rfl⟩ := Prod.mk.inj (Option.some.inj h)
        exact ⟨.refl _, hk⟩
  cases pinned with
  | false => exact htake q rest h
  | true =>
    cases q with
    | nil => cases h
    | cons r q =>
      cases hq : takeOldestOther q with
      | none => simp [displaceable, hq] at h
      | some x =>
        simp only [displaceable, hq, Option.map_some] at h
        obtain ⟨rfl, rfl⟩ := Prod.mk.inj (Option.some.inj h)
        obtain ⟨hperm, hkind⟩ := htake q x.2 hq
        exact ⟨(hperm.cons r).trans (.swap _ _ _), hkind⟩

/-- A loss is counted under its kind. -/
theorem lost_owed (s : State) (k : RecKind) :
    (s.lost k).rw.created = s.rw.created ∧ (s.lost k).rw.queue = s.rw.queue ∧ (s.lost k).rw.page = s.rw.page
      ∧ (s.rw.lostVehicle + s.rw.lostOther < 4294967295 → ∀ v, (s.lost k).owed v = s.owed v + if decide (k = .vehicle) == v then 1 else 0) := by
  refine ⟨by cases k <;> rfl, by cases k <;> rfl, by cases k <;> rfl, fun hb v => ?_⟩
  have hv : raised s.rw.lostVehicle 1 = s.rw.lostVehicle + 1 := Nat.min_eq_right (by omega)
  have ho : raised s.rw.lostOther 1 = s.rw.lostOther + 1 := Nat.min_eq_right (by omega)
  cases k <;> cases v <;> simp [State.owed, State.lost, State.told, hv, ho] <;> omega

/-- A record pinned at the head of the queue is not displaced (R154). -/
theorem createRecord_head (k : RecKind) (ws : List Nat) (s : State) (hpin : s.rw.pinned = true) (r : Rec) (rest : List Rec)
    (hq : s.rw.queue = r :: rest) :
    (createRecord k ws s).rw.pinned = true ∧ ∃ rest', (createRecord k ws s).rw.queue = r :: rest' := by
  have hlost (u : State) (k : RecKind) : (u.lost k).rw.pinned = u.rw.pinned ∧ (u.lost k).rw.queue = u.rw.queue := by
    cases k <;> exact ⟨rfl, rfl⟩
  have hrw (u : State) : (if s.rw.queue.length = 31 then u.told (.backlog 32) else u).rw = u.rw := by split <;> rfl
  unfold createRecord
  dsimp only
  generalize hnew : ({ serial := s.rw.created + 1, kind := k, words := stamped (s.rw.created + 1) ws } : Rec) = new
  have hkind : new.kind = k := by rw [← hnew]
  by_cases hroom : s.rw.queue.length < 64
  · rw [enterRecord_free (s := { s with rw.created := s.rw.created + 1 }) hroom]
    dsimp only
    rw [hrw]
    exact ⟨hpin, rest ++ [new], by rw [hq]; rfl⟩
  · have hfull := Nat.not_lt.mp hroom
    by_cases hk : new.kind = .vehicle
    · cases hd : displaceable s.rw.pinned s.rw.queue with
      | none =>
        rw [enterRecord_undisplaced (s := { s with rw.created := s.rw.created + 1 }) hfull hk hd]
        dsimp only
        rw [(hlost _ _).1, (hlost _ _).2]
        exact ⟨hpin, rest, hq⟩
      | some x =>
        obtain ⟨old, left⟩ := x
        rw [enterRecord_displacing (s := { s with rw.created := s.rw.created + 1 }) hfull hk hd]
        dsimp only
        rw [(hlost _ _).1, (hlost _ _).2]
        rw [hpin, hq] at hd
        obtain ⟨⟨old', left'⟩, -, heq⟩ := Option.map_eq_some_iff.mp hd
        cases heq
        exact ⟨hpin, left' ++ [new], rfl⟩
    · rw [enterRecord_full (s := { s with rw.created := s.rw.created + 1 }) hfull hk]
      dsimp only
      rw [(hlost _ _).1, (hlost _ _).2]
      exact ⟨hpin, rest, hq⟩

theorem createRecord_made (k : RecKind) (ws : List Nat) (s : State) : Made s (createRecord k ws s) := by
  have hcreated := createRecord_created k ws s
  suffices h : s.rw.queue.length ≤ (createRecord k ws s).rw.queue.length ∧ (createRecord k ws s).rw.page = s.rw.page
      ∧ (s.owed true + s.owed false + 1 ≤ 4294967295 →
        ∀ v, (createRecord k ws s).owed v = s.owed v + if decide (k = .vehicle) == v then 1 else 0) by
    obtain ⟨hqueue, hpage, howed⟩ := h
    refine ⟨⟨by omega, hqueue, fun hb => ?_⟩, hpage, createRecord_head k ws s⟩
    have := howed (by omega)
    rw [this true, this false, hcreated]
    cases hk : decide (k = .vehicle) <;> simp <;> omega
  have hboth := queuedOf_both s.rw.queue
  unfold createRecord
  by_cases hroom : s.rw.queue.length < 64
  · have hsame (v : Bool) : queuedOf v (s.rw.queue ++ [⟨s.rw.created + 1, k, stamped (s.rw.created + 1) ws⟩])
        = queuedOf v s.rw.queue + if decide (k = .vehicle) == v then 1 else 0 := by rw [queuedOf_append, queuedOf_one]
    dsimp only
    rw [enterRecord_free (s := { s with rw.created := s.rw.created + 1 }) hroom]
    dsimp only
    have hrw : ∀ u : State, (if s.rw.queue.length = 31 then u.told (.backlog 32) else u).rw = u.rw := by
      intro u
      split <;> rfl
    refine ⟨?_, ?_, fun _ v => ?_⟩
    · rw [hrw]
      simp
    · rw [hrw]
    · unfold State.owed
      dsimp only
      rw [hrw, hsame]
      exact (Nat.add_assoc ..).symm
  · by_cases hk : k = .vehicle
    · subst hk
      cases hd : displaceable s.rw.pinned s.rw.queue with
      | none =>
        have hkept := enterRecord_undisplaced (r := ⟨s.rw.created + 1, .vehicle, stamped (s.rw.created + 1) ws⟩)
          (s := { s with rw.created := s.rw.created + 1 }) (Nat.not_lt.mp hroom) rfl hd
        obtain ⟨_, hqueue, hpage, howed⟩ := lost_owed { s with rw.created := s.rw.created + 1 } .vehicle
        dsimp only
        rw [hkept, hqueue, hpage]
        refine ⟨le_rfl, rfl, fun hb => howed ?_⟩
        have h1 : s.owed true = s.rw.lostVehicle + queuedOf true s.rw.queue := rfl
        have h2 : s.owed false = s.rw.lostOther + queuedOf false s.rw.queue := rfl
        show s.rw.lostVehicle + s.rw.lostOther < _
        omega
      | some x =>
        obtain ⟨old, rest⟩ := x
        obtain ⟨hperm, hold⟩ := displaceable_some hd
        have hout := enterRecord_displacing (r := ⟨s.rw.created + 1, .vehicle, stamped (s.rw.created + 1) ws⟩)
          (s := { s with rw.created := s.rw.created + 1 }) (Nat.not_lt.mp hroom) rfl hd
        have hlen := hperm.length_eq
        obtain ⟨_, hqueue, hpage, howed⟩ := lost_owed
          { s with
            rw.created := s.rw.created + 1
            rw.queue := rest ++ [⟨s.rw.created + 1, .vehicle, stamped (s.rw.created + 1) ws⟩] } old.kind
        dsimp only
        rw [hout]
        refine ⟨?_, ?_, fun hb v => ?_⟩
        · dsimp only
          rw [hqueue]
          simp at hlen ⊢
          omega
        · exact hpage
        · have hqueued : queuedOf v s.rw.queue = queuedOf v rest + if decide (old.kind = .vehicle) == v then 1 else 0 := by
            rw [queuedOf_perm (hperm.trans (List.perm_append_singleton old rest).symm), queuedOf_append, queuedOf_one]
          have h1 : s.owed true = s.rw.lostVehicle + queuedOf true s.rw.queue := rfl
          have h2 : s.owed false = s.rw.lostOther + queuedOf false s.rw.queue := rfl
          have h3 : 1 ≤ queuedOf true s.rw.queue + queuedOf false s.rw.queue := by
            rw [hboth, hlen]
            simp
          have := howed (show s.rw.lostVehicle + s.rw.lostOther < _ by omega) v
          refine this.trans ?_
          unfold State.owed
          dsimp only
          rw [queuedOf_append, queuedOf_one, hqueued]
          dsimp only
          omega
    · have hfull := enterRecord_full (r := ⟨s.rw.created + 1, k, stamped (s.rw.created + 1) ws⟩)
        (s := { s with rw.created := s.rw.created + 1 }) (Nat.not_lt.mp hroom) hk
      obtain ⟨_, hqueue, hpage, howed⟩ := lost_owed { s with rw.created := s.rw.created + 1 } k
      dsimp only
      rw [hfull, hqueue, hpage]
      refine ⟨le_rfl, rfl, fun hb => howed ?_⟩
      have h1 : s.owed true = s.rw.lostVehicle + queuedOf true s.rw.queue := rfl
      have h2 : s.owed false = s.rw.lostOther + queuedOf false s.rw.queue := rfl
      show s.rw.lostVehicle + s.rw.lostOther < _
      omega

/-! ### Along a cascade and a close -/

theorem fireSteps_made (e : TrigEvent) (n : SetId) (a : Bool) (s : State) : Made s (fireSteps e n a s) := by
  have hbefore : (fireCapture e n (fireTimer n (firePulse e n s).1)).1.rw = s.rw := by
    rw [fireCapture_rw, fireTimer_rw, firePulse_rw]
  have hreport (r : PulseResult) (b : Bool) (u : State) : Made u (fireReport e n a r b u) := by
    unfold fireReport
    split
    · exact createRecord_made ..
    · exact .refl u
  have hafter (d : TriggerDef) (u : State) :
      Made u (applyMasks d.enableMask d.disableMask (if d.once then setEnabled n false u else u)) := by
    refine .of_rw ?_
    split <;> rfl
  unfold fireSteps
  dsimp only
  exact ((Made.of_rw hbefore).trans (hreport ..)).trans (hafter (s.trig.sets.get n).dfn _)

theorem fire_made {s : State} {e : TrigEvent} {depth : Nat} {n : SetId} {activated : Bool} {a : State × BitVec 8}
    (h : Made s a.1) : Made s (fire e depth n activated a).1 := by
  induction depth generalizing n activated a with
  | zero => exact h
  | succ depth ih =>
    rw [fire]
    refine Made.foldl (fun b m hb => ?_) _ (h.trans (fireSteps_made e n activated a.1))
    split
    · exact ih hb
    · exact hb

theorem runCascade_made (e : TrigEvent) (s : State) : Made s (runCascade e s).1 := by
  unfold runCascade
  split
  · refine Made.foldl (fun a n ha => ?_) _ (Made.refl s)
    split
    · exact fire_made ha
    · exact ha
  · exact .refl s

theorem driftUpdate_made (l : Lane) (b : Fin 8) (c : Cell) (s : State) : Made s (driftUpdate l b c s) := by
  obtain ⟨e, h⟩ := driftUpdate_eq (s := s) (lane := l) (band := b) (c := c)
  have hrecorded : Made s (updateRecorded l b c s) :=
    (Made.of_rw (s := s) (t := setCell l b (updatedCell s c) s) rfl).trans (createRecord_made ..)
  rw [h]
  split
  · exact hrecorded.trans (runCascade_made ..)
  · exact hrecorded

theorem offerStage_made (v : ClosedVehicle) (e : Option ClassEntry) (s : State) : Made s (offerStage v e s) := by
  unfold offerStage
  split
  · split
    · unfold takeOffer
      split
      · dsimp only
        split
        · split
          · exact driftUpdate_made ..
          · exact .of_rw rfl
        · exact .of_rw rfl
      · exact .of_rw rfl
    · exact .refl s
  · exact .refl s

theorem recordStage_made (v : ClosedVehicle) (s : State) : Made s (recordStage v s) := by
  have hcounted (u : State) (n m : Nat) : Made u { u with veh.vehicles := n, veh.axles := m } := .of_rw rfl
  rw [recordStage_eq rfl]
  exact ((runCascade_made _ s).trans (createRecord_made ..)).trans (hcounted ..)

theorem closeStages_made (l : Lane) (c : Context) (x : CloseCause) (s : State) : Made s (closeStages l c x s) :=
  Made.trans (t := releaseWaiting c s) (.of_rw rfl) ((offerStage_made ..).trans (recordStage_made ..))

theorem captureClosed_run (n : Nat) (s : State) : (captureClosed n s).run = s.run := by
  unfold captureClosed
  repeat' first | rfl | split

theorem CloseFrame.run {s t : State} (h : CloseFrame s t) : t.run = s.run := by rw [h]

theorem closeBody_frame (l : Lane) (k : Slot) (c : Context) (x : CloseCause) (s : State) :
    CloseFrame s (captureClosed c.serial (setContext l k none (if c.axles.isEmpty then s else closeStages l c x s))) := by
  have hempty (u : State) : CloseFrame u (setContext l k none u) := rfl
  have hcapture (n : Nat) (u : State) : CloseFrame u (captureClosed n u) := by
    unfold captureClosed
    repeat' first | rfl | split
  refine CloseFrame.trans (t := if c.axles.isEmpty then s else closeStages l c x s) ?_ ((hempty _).trans (hcapture ..))
  split
  · exact .refl s
  · exact closeStages_close ..

/-- A close before the drain is tested. -/
theorem closeBody_made (l : Lane) (k : Slot) (c : Context) (x : CloseCause) (s : State) :
    Made s (captureClosed c.serial (setContext l k none (if c.axles.isEmpty then s else closeStages l c x s))) := by
  refine Made.trans (t := if c.axles.isEmpty then s else closeStages l c x s) ?_ (.of_rw (captureClosed_rw ..))
  split
  · exact .refl s
  · exact closeStages_made ..

theorem fixOutcome_rw (o : OrderOutcome) (d : Nat) (s : State) : (fixOutcome o d s).rw = s.rw := by
  unfold fixOutcome
  split
  · split <;> rfl
  · rfl

theorem answerStop_rw (s : State) : (answerStop s).rw = s.rw := by
  unfold answerStop
  split
  · split
    · exact fixOutcome_rw ..
    · rfl
  · rfl

theorem testDrain_counted (s : State) : Counted s (testDrain s) := by
  unfold testDrain endDrain
  split
  · exact .of_same (by rw [answerStop_rw]; rfl) (by rw [answerStop_rw]; rfl) (by rw [answerStop_rw]; rfl) (by rw [answerStop_rw]; rfl)
  · exact .refl s

theorem closeContext_counted (l : Lane) (k : Slot) (x : CloseCause) (s : State) : Counted s (closeContext l k x s) := by
  cases hc : s.context l k with
  | none =>
    unfold closeContext
    rw [hc]
    exact .refl s
  | some c =>
    rw [closeContext_some x hc]
    exact (closeBody_made l k c x s).toCounted.trans (testDrain_counted _)

theorem truncateAll_counted (s : State) : Counted s (truncateAll s) := by
  have hfold (ls : List Lane) (u : State) : Counted u (ls.foldl (fun t l => truncateLane l t) u) := by
    induction ls generalizing u with
    | nil => exact .refl u
    | cons l rest ih => exact ((closeContext_counted ..).trans (closeContext_counted ..)).trans (ih _)
  exact hfold _ s

/-- Outside a drain a close keeps the page in hand. -/
theorem closeContext_made {l : Lane} {k : Slot} {x : CloseCause} {s : State} (hrun : s.run ≠ .draining) :
    Made s (closeContext l k x s) ∧ (closeContext l k x s).run = s.run := by
  have hframe := closeContext_close l k x s hrun
  refine ⟨?_, by rw [hframe]⟩
  cases hc : s.context l k with
  | none =>
    unfold closeContext
    rw [hc]
    exact .refl s
  | some c =>
    have hbody := (closeBody_frame l k c x s).run
    rw [closeContext_some x hc, testDrain_of_ne (hbody ▸ hrun)]
    exact closeBody_made l k c x s

end Sys2Proof.Machine
end

section
/-!
PROOFS. The Run Controller's timers: the drain, quiet entry and the settle counter, and the quiet condition (R170, R174,
R175).
-/

namespace Sys2Proof.Machine

/-! ### What follows a command, for the Record Writer and the Run Controller -/

section
variable {s : State} {p : ResultPage}

theorem settleDown_rw (s : State) : (settleDown s).rw = (advanceWriter (quietUpdate s)).rw := by
  unfold settleDown
  obtain ⟨_, h1⟩ := arbitrate_frame (advanceSweeper (advanceTrace (advanceWriter (quietUpdate s))))
  obtain ⟨_, _, _, h2⟩ := advanceSweeper_frame (advanceTrace (advanceWriter (quietUpdate s)))
  obtain ⟨_, h3⟩ := advanceTrace_frame (advanceWriter (quietUpdate s))
  rw [h1, h2, h3]

theorem settleDown_ctrl (s : State) : (settleDown s).ctrl = (quietUpdate s).ctrl := by
  unfold settleDown
  obtain ⟨_, h1⟩ := arbitrate_frame (advanceSweeper (advanceTrace (advanceWriter (quietUpdate s))))
  obtain ⟨_, _, _, h2⟩ := advanceSweeper_frame (advanceTrace (advanceWriter (quietUpdate s)))
  obtain ⟨_, h3⟩ := advanceTrace_frame (advanceWriter (quietUpdate s))
  obtain ⟨_, _, h4⟩ := advanceWriter_frame (quietUpdate s)
  rw [h1, h2, h3, h4]

/-- The Record Writer takes up nothing during a bus fault or a resumption (R163). -/
theorem advanceWriter_stopped (h : s.regs.busFault = true ∨ s.ex.resuming = true) : advanceWriter s = s := by
  unfold advanceWriter
  split
  · rfl
  · rename_i p _
    exact if_neg fun ⟨_, hb, hr⟩ => by
      rw [hb, hr] at h
      simp at h

theorem advanceWriter_none (h : s.rw.page = none) : advanceWriter s = s := by
  unfold advanceWriter
  rw [h]

theorem advanceWriter_busy (hp : s.rw.page = some p) (h : p.phase ≠ .rest) : advanceWriter s = s := by
  unfold advanceWriter
  rw [hp]
  exact if_neg fun e => h e.1

/-- A page asked to close begins its CLOSED entry once it is at rest (R157). -/
theorem advanceWriter_closing (hp : s.rw.page = some p) (hb : s.regs.busFault = false) (hr : s.ex.resuming = false)
    (hc : p.closeWith.isSome = true) :
    advanceWriter s = { s with rw.page := some { p with phase := if p.phase = .rest then .closeEntry else p.phase } } := by
  by_cases hph : p.phase = .rest
  · unfold advanceWriter
    rw [hp]
    dsimp only
    rw [if_pos ⟨hph, hb, hr⟩, if_pos hc, if_pos hph]
  · rw [advanceWriter_busy hp hph, if_neg hph, ← hp]

theorem settleDown_page_stopped (h : s.regs.busFault = true ∨ s.ex.resuming = true) : (settleDown s).rw.page = s.rw.page := by
  rw [settleDown_rw, advanceWriter_stopped (s := quietUpdate s) h]
  rfl

theorem settleDown_page_none (h : s.rw.page = none) : (settleDown s).rw.page = none := by
  rw [settleDown_rw, advanceWriter_none (s := quietUpdate s) h]
  exact h

theorem settleDown_page_closing (hp : s.rw.page = some p) (hb : s.regs.busFault = false) (hr : s.ex.resuming = false)
    (hc : p.closeWith.isSome = true) :
    (settleDown s).rw.page = some { p with phase := if p.phase = .rest then .closeEntry else p.phase } := by
  rw [settleDown_rw, advanceWriter_closing (s := quietUpdate s) hp hb hr hc]

end

/-! ### The end of a drain (R170) -/

section

/-- The order in hand at the end of a drain: a STOP held is answered DONE. -/
def OrderPage.stopAnswered (x : OrderPage) : OrderPage :=
  match x.phase with
  | .holding len => { x with phase := .outcome len .done 0 false }
  | _ => x

theorem taken_self {s : State} {x : Option OrderPage} (h : s.ex.taken = x) : s = { s with ex.taken := x } := by rw [← h]

theorem answerStop_eq (s : State) : answerStop s = { s with ex.taken := s.ex.taken.map OrderPage.stopAnswered } := by
  unfold answerStop
  cases ht : s.ex.taken with
  | none => exact taken_self ht
  | some x =>
    dsimp only
    cases hph : x.phase with
    | holding len =>
      unfold fixOutcome
      rw [ht]
      dsimp only
      rw [hph]
      simp only [ReadPhase.orderLen, Option.map_some, OrderPage.stopAnswered, hph]
    | _ =>
      simp only [Option.map_some, OrderPage.stopAnswered, hph]
      exact taken_self ht

theorem endDrain_eq (s : State) : endDrain s =
    { s with
      run := .ready
      ctrl.drain := none
      det.chans := Tab.fill 16 .off
      det.hits := { a := [], b := [] }
      axle.rowA := []
      axle.rowB := []
      rw.page := s.rw.page.map (ResultPage.askClose s.regs.busFault s.ex.resuming dirDrain)
      ex.taken := s.ex.taken.map OrderPage.stopAnswered } := answerStop_eq _

theorem testDrain_ends {s : State} (h : s.run = .draining ∧ s.ctrl.drain.isSome = true ∧ s.noContext = true) :
    testDrain s = endDrain s := if_pos h

/-- A drain in progress in `t` that began in `s`: the page and the order in hand are those of `s`. -/
structure DrainGoes (s t : State) : Prop where
  run : t.run = .draining
  drain : t.ctrl.drain.isSome = true
  page : t.rw.page = s.rw.page
  ex : t.ex = s.ex
  busFault : t.regs.busFault = s.regs.busFault

/-- A drain of `s` has ended in `t` (R170). -/
structure DrainEnded (s t : State) : Prop where
  run : t.run = .ready
  empty : t.noContext = true
  det : t.DetectorStopped
  rowA : t.axle.rowA = []
  drain : t.ctrl.drain = none
  page : t.rw.page = s.rw.page.map (ResultPage.askClose s.regs.busFault s.ex.resuming dirDrain)
  taken : t.ex.taken = s.ex.taken.map OrderPage.stopAnswered
  busFault : t.regs.busFault = s.regs.busFault
  resuming : t.ex.resuming = s.ex.resuming

theorem DrainGoes.tested {s t : State} (h : DrainGoes s t) :
    testDrain t = t ∧ t.noContext = false ∨ DrainEnded s (testDrain t) := by
  cases hno : t.noContext with
  | false => exact .inl ⟨if_neg (by simp [hno]), rfl⟩
  | true =>
    refine .inr ?_
    rw [testDrain_ends ⟨h.run, h.drain, hno⟩, endDrain_eq]
    refine ⟨rfl, hno, ⟨fun _ => Tab.get_fill .., rfl, rfl⟩, rfl, rfl, ?_, ?_, h.busFault, ?_⟩
    · show t.rw.page.map _ = _
      rw [h.page, h.busFault, h.ex]
    · show t.ex.taken.map _ = _
      rw [h.ex]
    · show t.ex.resuming = _
      rw [h.ex]

/-- A close in a drain: the drain goes on, or it has ended. -/
theorem DrainGoes.closeContext {s t : State} (l : Lane) (k : Slot) (x : CloseCause) (h : DrainGoes s t ∨ DrainEnded s t) :
    DrainGoes s (closeContext l k x t) ∨ DrainEnded s (closeContext l k x t) := by
  have hnone (hc : t.context l k = none) : Machine.closeContext l k x t = t := by
    unfold Machine.closeContext
    rw [hc]
  obtain h | h := h
  · cases hc : t.context l k with
    | none =>
      rw [hnone hc]
      exact .inl h
    | some c =>
      have hbody : DrainGoes s
          (captureClosed c.serial (setContext l k none (if c.axles.isEmpty then t else closeStages l c x t))) := by
        have hframe := closeBody_frame l k c x t
        have hmade := closeBody_made l k c x t
        exact ⟨hframe.run.trans h.run, by rw [hframe]; exact h.drain, hmade.page.trans h.page, by rw [hframe]; exact h.ex,
          by rw [hframe]; exact h.busFault⟩
      rw [closeContext_some x hc]
      obtain ⟨hsame, _⟩ | hended := hbody.tested
      · exact .inl (hsame.symm ▸ hbody)
      · exact .inr hended
  · rw [hnone (((State.noContext_iff t).mp h.empty) l k)]
    exact .inr h

/-- The drain limit closes what contexts there are, and the drain has ended (R170). -/
theorem drain_ended {s : State} (hrun : s.run = .draining) (hdrain : s.ctrl.drain.isSome = true) :
    DrainEnded s (testDrain (truncateAll s)) := by
  have hfold (ls : List Lane) (t : State) (h : DrainGoes s t ∨ DrainEnded s t) :
      DrainGoes s (ls.foldl (fun t l => truncateLane l t) t) ∨ DrainEnded s (ls.foldl (fun t l => truncateLane l t) t) := by
    induction ls generalizing t with
    | nil => exact h
    | cons l rest ih => exact ih _ (DrainGoes.closeContext _ _ _ (DrainGoes.closeContext _ _ _ h))
  have hall := hfold (indices 4) s (.inl ⟨hrun, hdrain, rfl, rfl, rfl⟩)
  have hempty := truncateAll_noContext s
  rw [truncateAll_eq] at hempty ⊢
  obtain h | h := hall
  · obtain ⟨_, hno⟩ | hended := h.tested
    · exact absurd (hno.symm.trans hempty) (by decide)
    · exact hended
  · rw [testDrain_of_ne (by rw [h.run]; decide)]
    exact h

end

/-! ### The quiet condition (R174) -/

theorem active_iff (c : ChanState) : c.active = false ↔
    c = .off ∨ (∃ n b, c = .learning n b) ∨ (∃ b, c = .idle b) ∨ ∃ b, c = .faulted b := by
  cases c <;> simp [ChanState.active]

theorem quietHolds_iff (s : State) : s.quietHolds = true ↔
    (∀ l : Lane, s.run.works = true → l.val < s.site.laneCount → s.loops.get l = .vacant ∨ ∃ onset, s.loops.get l = .stuck onset)
      ∧ (∀ l k, s.context l k = none)
      ∧ ∀ c, s.det.chans.get c = .off ∨ (∃ n b, s.det.chans.get c = .learning n b) ∨ (∃ b, s.det.chans.get c = .idle b)
        ∨ ∃ b, s.det.chans.get c = .faulted b := by
  have hloop (l : Lane) : (!s.tracked l || s.loopClear l) = true ↔
      (s.run.works = true → l.val < s.site.laneCount → s.loops.get l = .vacant ∨ ∃ onset, s.loops.get l = .stuck onset) := by
    have hclear : s.loopClear l = true ↔ s.loops.get l = .vacant ∨ ∃ onset, s.loops.get l = .stuck onset := by
      unfold State.loopClear
      cases s.loops.get l <;> simp
    have htracked := tracked_iff s l
    rw [Bool.or_eq_true, hclear, Bool.not_eq_true', ← Bool.not_eq_true, htracked]
    tauto
  have hchans : (s.det.chans.items.all fun c => !c.active) = true ↔ ∀ c, (s.det.chans.get c).active = false := by
    rw [List.all_eq_true, Tab.forall_mem s.det.chans fun c => (!c.active) = true]
    simp only [Bool.not_eq_true']
  unfold State.quietHolds
  rw [Bool.and_eq_true, Bool.and_eq_true, State.noContext_iff, hchans, List.all_eq_true]
  simp only [hloop, active_iff]
  exact and_congr_left' ⟨fun h l => h l (mem_indices 4 l), fun h l _ => h l⟩

theorem quietUpdate_counts {s : State}
    (h : s.run = .running ∧ s.ctrl.quietEnable = true ∧ s.powerIdle = true ∧ s.quietHolds = true) :
    quietUpdate s = { s with ctrl.quietTimer := some (s.ctrl.quietTimer.getD 0) } := by
  obtain ⟨h1, h2, h3, h4⟩ := h
  simp [quietUpdate, h1, h2, h3, h4]

theorem quietUpdate_stopped {s : State}
    (h : ¬(s.run = .running ∧ s.ctrl.quietEnable = true ∧ s.powerIdle = true ∧ s.quietHolds = true)) :
    quietUpdate s = { s with ctrl.quietTimer := none } := by
  have hcond : (decide (s.run = .running) && (s.ctrl.quietEnable && (s.powerIdle && s.quietHolds))) = false := by
    simpa using h
  unfold quietUpdate
  rw [hcond]
  rfl

/-- Settles O35: each timer's command, the drain's test and the quiet condition. -/
theorem runTimersExpire : Obligations.RunTimersExpire := by
  refine ⟨fun n s hrun hdrain => ⟨fun hn => ?_, fun hn => ?_⟩, fun n s hrun hq he hh => ⟨fun hn => ?_, fun hn => ?_⟩,
    fun n count s hrun hsettle => ⟨fun hn => ?_, fun hn => ?_⟩, fun s => ⟨fun h => if_neg h, fun h1 h2 h3 => ?_⟩,
    fun s => ⟨quietHolds_iff s, ⟨quietUpdate_counts, quietUpdate_stopped⟩, settleDown_ctrl s⟩⟩
  · have hended := drain_ended hrun (by rw [hdrain]; rfl)
    have hexec : exec .drainTimeout s = .next (settleDown (testDrain (truncateAll s))) := by
      show execDrainTimeout s = _
      unfold execDrainTimeout
      rw [hdrain]
      exact answerNext_eq (if_pos ⟨hrun, hn⟩)
    refine ⟨_, hexec, ?_, ?_, ?_, ?_, ?_, ?_, ?_, ?_, fun p hp => ⟨fun hb => ?_, fun hb hr hc => ?_⟩, fun x len hx hph => ?_⟩
    · simp
    · rw [settleDown_run, hended.run]
    · rw [settleDown_noContext, hended.empty]
    · rw [settleDown_det]
      exact hended.det.1
    · rw [settleDown_det, hended.det.2.1]
    · rw [settleDown_det, hended.det.2.2]
    · rw [settleDown_axle, hended.rowA]
    · rw [settleDown_ctrl_drain, hended.drain]
    · rw [settleDown_page_stopped (.inl (hended.busFault.trans hb)), hended.page, hp, hb]
      rfl
    · have hpage : (testDrain (truncateAll s)).rw.page = some { p with closeWith := some 0x20 } := by
        rw [hended.page, hp, hb, hr]
        simp [ResultPage.askClose, hc, dirDrain]
      rw [settleDown_page_closing hpage (hended.busFault.trans hb) (hended.resuming.trans hr) rfl]
    · rw [settleDown_ex_taken, hended.taken, hx]
      simp only [Option.map_some, OrderPage.stopAnswered, hph]
  · show execDrainTimeout s = _
    unfold execDrainTimeout
    rw [hdrain]
    exact answerNext_eq (if_neg fun h => absurd h.2 (Nat.not_le.mpr hn))
  · show execQuietEntry s = _
    unfold execQuietEntry
    rw [hq]
    exact answerNext_eq (if_pos ⟨hrun, hn, he, hh⟩)
  · show execQuietEntry s = _
    unfold execQuietEntry
    rw [hq]
    exact answerNext_eq (if_neg fun h => absurd h.2.1 (Nat.not_le.mpr hn))
  · show execSettleEnd s = _
    unfold execSettleEnd
    rw [hsettle]
    exact answerNext_eq (if_pos ⟨hrun, hn⟩)
  · show execSettleEnd s = _
    unfold execSettleEnd
    rw [hsettle]
    exact answerNext_eq (if_neg fun h => absurd h.2 (Nat.not_le.mpr hn))
  · rw [testDrain_ends ⟨h1, h2, h3⟩, endDrain_eq]
    rfl

end Sys2Proof.Machine
end

section
/-!
PROOFS. The events that time brings about: interval timers, waiting cascades, field lines and pulses, and the loss of the
sample link (R14, R126, R129, R137, R140).
-/

namespace Sys2Proof.Machine

/-! ### Timers and waiting events (R129, R137) -/

section
variable {s : State} {n : SetId} {due : Nat}

theorem exec_timerExpiry_due (hworks : s.run.works = true) (ht : (s.trig.sets.get n).timer = .running due)
    (hr : reached s.clock due = true) :
    exec (.timerExpiry n) s = .next (settleDown
      { s with
        trig.sets := s.trig.sets.set n
          { s.trig.sets.get n with
            timer := if (s.trig.sets.get n).dfn.repeats
              then .running ((due + (s.trig.sets.get n).dfn.period) % 281474976710656) else .stopped }
        trig.waiting := s.trig.waiting ++ [.timer n] }) := by
  show execTimerExpiry n s = _
  unfold execTimerExpiry
  dsimp only
  rw [ht]
  exact answerNext_eq ((if_pos ⟨hworks, hr⟩).trans (handEvent_works _ _ hworks))

theorem exec_timerExpiry_early (ht : (s.trig.sets.get n).timer = .running due) (hr : reached s.clock due = false) :
    exec (.timerExpiry n) s = .next (settleDown s) := by
  show execTimerExpiry n s = _
  unfold execTimerExpiry
  dsimp only
  rw [ht]
  exact answerNext_eq (if_neg fun h => absurd (hr.symm.trans h.2) (by decide))

/-- A waiting event whose cascade is due runs it. -/
theorem exec_cascade_due {k : Nat} {e : TrigEvent} (hworks : s.run.works = true) (he : s.trig.waiting[k]? = some e)
    (hopen : s.edgeOpen k = false) :
    exec (.cascade k) s = .next (settleDown (runCascade e { s with trig.waiting := s.trig.waiting.eraseIdx k }).1) := by
  show execCascade k s = _
  unfold execCascade
  rw [he]
  exact answerNext_eq (if_pos ⟨hworks, hopen⟩)

/-- Settles O36: the expiry, and the cascade with no set to consider. -/
theorem timersAndCascades : Obligations.TimersAndCascades := by
  refine ⟨fun n due s hworks ht => ⟨exec_timerExpiry_due hworks ht, exec_timerExpiry_early ht⟩, fun k e s hworks he hoff hedge => ?_⟩
  rw [exec_cascade_due hworks he (edgeOpen_other he hedge),
    runCascade_disabled e { s with trig.waiting := s.trig.waiting.eraseIdx k } hoff]

end

/-! ### The sample link (R14, R28) -/

section

theorem countP_congr_cases (cs : List ChanState) : (cs.countP fun c => c.loseHit.2) = cs.countP fun c => match c with
    | .hit .. => true
    | .tail .. => true
    | _ => false := by
  refine List.countP_congr fun c _ => ?_
  cases c <;> simp [ChanState.loseHit]

theorem loseHit_state (c : ChanState) : c.loseHit.1 = match c with
    | .candidate b _ _ => .idle b
    | .hit b _ => .idle b
    | .tail b _ _ _ _ => .idle b
    | st => st := by
  cases c <;> rfl

/-- Settles O29: the silence limit decides. -/
theorem linkLossAborts : Obligations.LinkLossAborts := by
  intro n s hs
  have hexec : exec .linkLoss s = .next (settleDown (loseLink s)) := rfl
  refine ⟨fun hn => ?_, fun hn => ⟨_, hexec, ?_⟩⟩
  · rw [hexec, loseLink, hs]
    exact congrArg (fun t => Host.Outcome.next (settleDown t)) (if_neg (Nat.not_le.mpr hn))
  · have hlose : loseLink s = loseOpenHits
        { s with link := { ref := none, silence := none, fault := true, gaps := satInc s.link.gaps } } := by
      rw [loseLink, hs]
      exact if_pos hn
    rw [hlose]
    refine ⟨?_, ?_, fun c => ?_, ?_, ?_, ?_, ?_, ?_, ?_⟩
    · rw [settleDown_settings]
      rfl
    · rw [settleDown_link, ← satInc_bound]
      rfl
    · rw [settleDown_det]
      exact (Tab.get_map ..).trans (loseHit_state _)
    · rw [settleDown_det]
      exact (satAdd_eq ..).trans (congrArg (fun n => min 4294967295 (s.det.aborted + n)) (countP_congr_cases _))
    · rw [settleDown_det]
      rfl
    · rw [settleDown_det]
      rfl
    · rw [settleDown_run]
      rfl
    · rw [settleDown_veh]
      rfl
    · rw [settleDown_axle]
      rfl

end

/-! ### Field lines and pulses (R126, R140) -/

section
variable {s : State} {l : Line} {old v : Bool}

theorem any_edgeOn_iff (l : Line) (es : List TrigEvent) :
    es.any (TrigEvent.edgeOn l) = false ↔ ∀ rising tick, TrigEvent.fieldEdge l rising tick ∉ es := by
  rw [List.any_eq_false]
  constructor
  · intro h rising tick hmem
    exact h _ hmem (by simp [TrigEvent.edgeOn])
  · intro h e he hon
    cases e with
    | fieldEdge m rising tick =>
      obtain rfl : m = l := by simpa [TrigEvent.edgeOn] using hon
      exact h _ _ he
    | _ => cases hon

theorem exec_fieldEdge_new (hworks : s.run.works = true) (hl : s.trig.lines.get l = .input old) (hv : old ≠ v)
    (ht : s.trig.edgeTaken.get l = false) :
    exec (.fieldEdge l v) s = .next (settleDown
      { s with
        pins.field := s.pins.field.set l v
        trig.lines := s.trig.lines.set l (.input v)
        trig.edgeTaken := s.trig.edgeTaken.set l true
        trig.waiting := s.trig.waiting ++ [.fieldEdge l v s.clock] }) := by
  show execFieldEdge l v s = _
  unfold execFieldEdge
  dsimp only
  rw [hl]
  exact answerNext_eq ((if_pos ⟨hworks, hv⟩).trans ((if_neg (by simp [ht])).trans (handEvent_works _ _ hworks)))

theorem exec_fieldEdge_back (hworks : s.run.works = true) (hl : s.trig.lines.get l = .input old) (hv : old ≠ v)
    (ht : s.trig.edgeTaken.get l = true) :
    exec (.fieldEdge l v) s = .next (settleDown (withdrawEdge l v { s with pins.field := s.pins.field.set l v })) := by
  show execFieldEdge l v s = _
  unfold execFieldEdge
  dsimp only
  rw [hl]
  exact answerNext_eq ((if_pos ⟨hworks, hv⟩).trans (if_pos ht))

theorem exec_fieldEdge_none (h : s.run.works = false ∨ s.isInput l = false ∨ s.trig.lines.get l = .input v) :
    exec (.fieldEdge l v) s = .next (settleDown { s with pins.field := s.pins.field.set l v }) := by
  show execFieldEdge l v s = _
  unfold execFieldEdge
  dsimp only
  cases hl : s.trig.lines.get l with
  | output ps => rfl
  | input old =>
    refine answerNext_eq (if_neg fun ⟨hworks, hv⟩ => ?_)
    obtain h | h | h := h
    · exact absurd (h.symm.trans hworks) (by decide)
    · simp [State.isInput, hl] at h
    · rw [hl] at h
      exact hv (by injection h)

/-- The cascade of an edge that may yet be withdrawn is not due. -/
theorem exec_cascade_open {k : Nat} {e : TrigEvent} (he : s.trig.waiting[k]? = some e) (hopen : s.edgeOpen k = true) :
    exec (.cascade k) s = .next (settleDown s) := by
  show execCascade k s = _
  unfold execCascade
  rw [he]
  exact answerNext_eq (if_neg fun h => absurd (hopen.symm.trans h.2) (by decide))

theorem endFirst_alone {now : Nat} {p : Pulse} (h : p.running = true ∧ reached now p.stop = true) : endFirst now [p] = [] :=
  if_pos (by rw [h.1, h.2]; rfl)

theorem endFirst_next {now : Nat} {p q : Pulse} {more : List Pulse} (h : p.running = true ∧ reached now p.stop = true) :
    endFirst now (p :: q :: more) = { q with running := q.running || decide (q.start = p.stop) } :: more := by
  refine (if_pos (by rw [h.1, h.2]; rfl)).trans ?_
  by_cases hq : q.start = p.stop <;> simp [hq]

/-- Settles O33: an edge, its withdrawal, a line without one, and the ends of pulses. -/
theorem fieldLineEvents : Obligations.FieldLineEvents := by
  refine ⟨fun l old v s => exec_fieldEdge_new, fun l old v s hworks hl hv ht => ⟨fun pre rising tick post hw hno => ⟨?_, ?_⟩, fun hno => ?_⟩,
    fun l v s => exec_fieldEdge_none, fun l p rest s hl => ⟨fun hq hp => ?_, fun hp hr hnil => ?_, fun q more hp hr hcons => ?_⟩⟩
  · have hout : withoutEdge l s.trig.waiting = pre ++ post := by
      rw [hw]
      exact withoutEdge_newest (by simp [TrigEvent.edgeOn]) ((any_edgeOn_iff l post).mpr hno) pre
    rw [exec_fieldEdge_back hworks hl hv ht]
    simp only [withdrawEdge, hout]
  · exact exec_cascade_open (e := .fieldEdge l rising tick) (by rw [hw]; simp)
      ((edgeOpen_newest hw ((any_edgeOn_iff l post).mpr hno)).trans ht)
  · rw [exec_fieldEdge_back hworks hl hv ht]
    simp only [withdrawEdge, withoutEdge_none ((any_edgeOn_iff l _).mpr hno)]
  · show execPulseStart l s = _
    unfold execPulseStart
    rw [hl]
    refine answerNext_eq ((if_neg ?_).trans ?_)
    · rw [Bool.not_eq_true, List.any_eq_false]
      exact fun q hm => by simp [hq q hm]
    · rw [startFirst, if_pos hp]
  · subst hnil
    show execPulseEnd l s = _
    unfold execPulseEnd
    rw [hl]
    dsimp only
    rw [endFirst_alone ⟨hp, hr⟩]
    rfl
  · subst hcons
    show execPulseEnd l s = _
    unfold execPulseEnd
    rw [hl]
    dsimp only
    rw [endFirst_next ⟨hp, hr⟩]
    rfl

end

end Sys2Proof.Machine
end

section
/-!
PROOFS. What a channel does with a frame, and what a closed hit measures (R18 to R28).
-/

namespace Sys2Proof.Machine

section
variable {par : DetPar} {run : RunState} {tick : Nat} {en ov : Bool} {x : Nat}

theorem wholeBase_eq (b : Nat) : wholeBase b = (b + 128) / 256 := by
  unfold wholeBase roundDiv
  omega

theorem netSample_eq (b x : Nat) : netSample b x = (x : Int) - ((b + 128) / 256 : Nat) := by
  unfold netSample
  rw [wholeBase_eq]

theorem chanFrame_inSequence (st : ChanState) : chanFrame par run tick .inSequence en ov x st = chanStep par run tick ov x st := by
  show { chanStep par run tick ov x st with aborted := (chanStep par run tick ov x st).aborted || false } = _
  rw [Bool.or_false]

/-- A frame in sequence aborts no hit. -/
theorem chanStep_aborted (st : ChanState) : (chanStep par run tick ov x st).aborted = false := by
  have hidle (b : Nat) : (idleStep par run tick ov b x).aborted = false := by
    unfold idleStep
    dsimp only
    repeat' first | rfl | split
  have htail (b : Nat) (h : OpenHit) (ps pw : Int) (c : Nat) : (tailStep par b h ps pw c).aborted = false := by
    unfold tailStep
    split <;> rfl
  cases st with
  | idle b => exact hidle b
  | candidate b h c =>
    unfold chanStep
    dsimp only
    repeat' first | rfl | split
  | hit b h =>
    unfold chanStep
    dsimp only
    repeat' first | rfl | exact htail .. | split
  | tail b h ps pw c =>
    unfold chanStep
    dsimp only
    repeat' first | rfl | exact htail .. | split
  | _ => rfl

/-- A frame with another finding is one in sequence for the channel that the finding leaves. -/
theorem chanFrame_eq (f : Finding) (st : ChanState) : chanFrame par run tick f en ov x st =
    { chanStep par run tick ov x (applyFinding f en st).1 with aborted := (applyFinding f en st).2 } := by
  show { chanStep par run tick ov x (applyFinding f en st).1 with
    aborted := (chanStep par run tick ov x (applyFinding f en st).1).aborted || (applyFinding f en st).2 } = _
  rw [chanStep_aborted, Bool.false_or]

/-- A finding that loses no hit. -/
theorem chanFrame_applied {f : Finding} {st st' : ChanState} (h : applyFinding f en st = (st', false)) (en' : Bool) :
    chanFrame par run tick f en ov x st = chanFrame par run tick .inSequence en' ov x st' := by
  rw [chanFrame_eq, chanFrame_inSequence, h]
  dsimp only
  rw [← chanStep_aborted (par := par) (run := run) (tick := tick) (ov := ov) (x := x) st']

/-- LONG with a count, or IDLE once the off-count is reached (R23). -/
theorem longStep_eq (b n : Nat) : longStep par b n (netSample b x) =
    if (par.offThr : Int) ≤ (x : Int) - ((b + 128) / 256 : Nat) then .long b 0
    else if par.offCount ≤ n + 1 then .idle b else .long b (n + 1) := by
  rw [longStep, netSample_eq]

theorem learnStep_eq (n b : Nat) : learnStep n b x =
    let b' := if n = 0 then 256 * x else (15 * b + 256 * x + 8) / 16
    if n + 1 < 512 then .learning (n + 1) b'
    else if 2768 ≤ (b' + 128) / 256 ∧ (b' + 128) / 256 ≤ 62768 then .idle b' else .faulted b' := by
  have hbase : learnBase n b x = if n = 0 then 256 * x else (15 * b + 256 * x + 8) / 16 := by
    unfold learnBase roundDiv
    split
    · rfl
    · omega
  have hfits (b : Nat) : baseFits b = true ↔ 2768 ≤ (b + 128) / 256 ∧ (b + 128) / 256 ≤ 62768 := by
    rw [baseFits, wholeBase_eq, Bool.and_eq_true, decide_eq_true_eq, decide_eq_true_eq]
  unfold learnStep
  dsimp only
  rw [hbase]
  simp only [hfits]
  by_cases hn : n + 1 < 512
  · rw [if_neg (by omega), if_pos hn]
  · rw [if_pos (by omega), if_neg hn]

theorem trackBase_eq (b x : Nat) : trackBase b x = (255 * b + 256 * x + 128) / 256 := by
  unfold trackBase roundDiv
  omega

end

/-! ### A closed hit (R24, R25) -/

section
variable {c : Chan} {h : OpenHit} {long : Bool}

/-- The centroid of a hit. -/
theorem centroid_nonneg (hs : 1 ≤ h.sum) (hw : 0 ≤ h.wsum) (start last : Nat) :
    ((min (16 * start + (if h.wsum < 0 then 0 else roundDiv (16 * h.wsum.toNat) h.sum.toNat)) (16 * last) : Nat) : Int)
      = min (16 * (start : Int) + (32 * h.wsum + h.sum) / (2 * h.sum)) (16 * (last : Int)) := by
  rw [if_neg (by omega)]
  obtain ⟨w, hw'⟩ := Int.eq_ofNat_of_zero_le hw
  obtain ⟨m, hm⟩ := Int.eq_ofNat_of_zero_le (show (0 : Int) ≤ h.sum by omega)
  rw [hw', hm, Int.toNat_natCast, Int.toNat_natCast, roundDiv]
  push_cast
  rw [show (2 : Int) * (16 * w) + m = 32 * w + m by ring]

end

/-! ### The obligation, state by state -/

section
variable {par : DetPar} {run : RunState} {tick : Nat} {ov : Bool} {x : Nat}

theorem idleStep_below {b : Nat} (h : netSample b x < par.onThr) : idleStep par run tick ov b x
    = .to (.idle (if run = .waking then b else trackBase b x)) := by
  unfold idleStep
  dsimp only
  rw [if_neg (by omega)]
  split <;> rfl

theorem idleStep_quiet {b : Nat} (h : (par.onThr : Int) ≤ netSample b x) : idleStep par .quiet tick ov b x
    = { st := .idle b, closed := none, aborted := false, wake := true } := by
  unfold idleStep
  dsimp only
  rw [if_pos h, if_pos rfl]

theorem idleStep_opens {b : Nat} (h : (par.onThr : Int) ≤ netSample b x) (hrun : run ≠ .quiet) : idleStep par run tick ov b x
    = .to (confirm par b (OpenHit.first run tick (netSample b x) ov) 1) := by
  unfold idleStep
  dsimp only
  rw [if_pos h, if_neg hrun]

theorem idleStep_kept (b : Nat) : (idleStep par run tick ov b x).closed = none ∧ (idleStep par run tick ov b x).aborted = false := by
  by_cases h : (par.onThr : Int) ≤ netSample b x
  · by_cases hrun : run = .quiet
    · subst hrun
      rw [idleStep_quiet h]
      exact ⟨rfl, rfl⟩
    · rw [idleStep_opens h hrun]
      exact ⟨rfl, rfl⟩
  · rw [idleStep_below (by omega)]
    exact ⟨rfl, rfl⟩

theorem chanStep_candidate (b : Nat) (h : OpenHit) (n : Nat) : chanStep par run tick ov x (.candidate b h n) =
    if par.maxLen ≤ tickSince tick h.start then .to (longStep par b 0 (netSample b x))
    else if (par.onThr : Int) ≤ netSample b x then
      .to (confirm par b ({ h with clipped := h.clipped || ov }.join tick (netSample b x)) (n + 1))
    else .to (.idle b) := rfl

theorem chanStep_hit (b : Nat) (h : OpenHit) : chanStep par run tick ov x (.hit b h) =
    if par.maxLen ≤ tickSince tick h.start then
      { st := longStep par b 0 (netSample b x), closed := some ({ h with clipped := h.clipped || ov }, true), aborted := false,
        wake := false }
    else if (par.offThr : Int) ≤ netSample b x then .to (.hit b ({ h with clipped := h.clipped || ov }.join tick (netSample b x)))
    else tailStep par b { h with clipped := h.clipped || ov } (netSample b x)
      ((tickSince tick h.start : Int) * netSample b x) 1 := rfl

theorem chanStep_tail (b : Nat) (h : OpenHit) (ps pw : Int) (n : Nat) : chanStep par run tick ov x (.tail b h ps pw n) =
    if par.maxLen ≤ tickSince tick h.start then
      { st := longStep par b 0 (netSample b x), closed := some ({ h with clipped := h.clipped || ov }, true), aborted := false,
        wake := false }
    else if (par.offThr : Int) ≤ netSample b x then
      .to (.hit b ({ h with clipped := h.clipped || ov, sum := h.sum + ps, wsum := h.wsum + pw }.join tick (netSample b x)))
    else tailStep par b { h with clipped := h.clipped || ov } (ps + netSample b x)
      (pw + (tickSince tick h.start : Int) * netSample b x) (n + 1) := rfl

theorem tailStep_kept (b : Nat) (h : OpenHit) (ps pw : Int) (n : Nat) : (tailStep par b h ps pw n).wake = false := by
  unfold tailStep
  split <;> rfl

/-- Neither a hit nor its tail wakes the part. -/
theorem chanStep_hit_wake (b : Nat) (h : OpenHit) : (chanStep par run tick ov x (.hit b h)).wake = false := by
  rw [chanStep_hit]
  split
  · rfl
  · split
    · rfl
    · exact tailStep_kept ..

theorem chanStep_tail_wake (b : Nat) (h : OpenHit) (ps pw : Int) (n : Nat) :
    (chanStep par run tick ov x (.tail b h ps pw n)).wake = false := by
  rw [chanStep_tail]
  split
  · rfl
  · split
    · rfl
    · exact tailStep_kept ..

end

/-- Settles O27: the states of a frame in sequence, the findings, and the measures of a hit. -/
theorem channelRules : Obligations.ChannelRules := by
  refine ⟨fun par run tick en ov x => ⟨?_, fun b => ?_, fun n b => ?_, fun b => ?_, fun b h n => ?_, fun b h => ?_, fun b h ps pw n => ?_,
    fun b n => ?_⟩, fun par run tick ov x => ⟨fun st => ⟨?_, ?_⟩, fun k en st => ?_, fun en b h n => ?_, fun en b h => ?_,
    fun en b h ps pw n => ?_, fun en st hst => ?_⟩, fun c h long => ⟨fun hs => if_pos hs, fun hs => ?_⟩⟩
  · exact chanFrame_inSequence _
  · exact chanFrame_inSequence _
  · rw [chanFrame_inSequence]
    exact congrArg ChanResult.to (learnStep_eq n b)
  · rw [chanFrame_inSequence, ← netSample_eq, show chanStep par run tick ov x (.idle b) = idleStep par run tick ov b x from rfl]
    refine ⟨(idleStep_kept b).1, (idleStep_kept b).2, fun h => ?_, fun h hrun => ?_, fun h hrun => ?_⟩
    · rw [idleStep_below h, trackBase_eq]
      exact ⟨rfl, rfl⟩
    · subst hrun
      rw [idleStep_quiet h]
      exact ⟨rfl, rfl⟩
    · rw [idleStep_opens h hrun]
      exact ⟨rfl, rfl⟩
  · rw [chanFrame_inSequence, ← netSample_eq, chanStep_candidate]
    refine ⟨?_, ?_, ?_, fun hage h => ?_, fun hage h => ?_, fun hage => ?_⟩
    · split <;> [rfl; (split <;> rfl)]
    · split <;> [rfl; (split <;> rfl)]
    · split <;> [rfl; (split <;> rfl)]
    · rw [if_neg (Nat.not_le.mpr hage), if_pos h]
      rfl
    · rw [if_neg (Nat.not_le.mpr hage), if_neg (Int.not_le.mpr h)]
      rfl
    · rw [if_pos hage]
      exact longStep_eq b 0
  · rw [chanFrame_inSequence, ← netSample_eq]
    refine ⟨chanStep_aborted _, chanStep_hit_wake b h, ?_⟩
    rw [chanStep_hit]
    refine ⟨fun hage hn => ?_, fun hage hn hc => ?_, fun hage hn hc => ?_, fun hage => ?_⟩
    · rw [if_neg (Nat.not_le.mpr hage), if_pos hn]
      exact ⟨rfl, rfl⟩
    · rw [if_neg (Nat.not_le.mpr hage), if_neg (Int.not_le.mpr hn), tailStep, if_neg (Nat.not_le.mpr hc)]
      exact ⟨rfl, rfl⟩
    · rw [if_neg (Nat.not_le.mpr hage), if_neg (Int.not_le.mpr hn), tailStep, if_pos hc]
      exact ⟨rfl, rfl⟩
    · rw [if_pos hage]
      exact ⟨rfl, longStep_eq b 0⟩
  · rw [chanFrame_inSequence, ← netSample_eq]
    refine ⟨chanStep_aborted _, chanStep_tail_wake b h ps pw n, ?_⟩
    rw [chanStep_tail]
    refine ⟨fun hage hn => ?_, fun hage hn hc => ?_, fun hage hn hc => ?_, fun hage => ?_⟩
    · rw [if_neg (Nat.not_le.mpr hage), if_pos hn]
      exact ⟨rfl, rfl⟩
    · rw [if_neg (Nat.not_le.mpr hage), if_neg (Int.not_le.mpr hn), tailStep, if_neg (Nat.not_le.mpr hc)]
      exact ⟨rfl, rfl⟩
    · rw [if_neg (Nat.not_le.mpr hage), if_neg (Int.not_le.mpr hn), tailStep, if_pos hc]
      exact ⟨rfl, rfl⟩
    · rw [if_pos hage]
      exact ⟨rfl, longStep_eq b 0⟩
  · rw [chanFrame_inSequence]
    exact congrArg ChanResult.to (longStep_eq b n)
  · exact chanFrame_applied rfl true
  · exact chanFrame_applied rfl false
  · refine chanFrame_applied ?_ en
    cases st <;> rfl
  · exact chanFrame_applied rfl en
  · exact chanFrame_eq ..
  · exact chanFrame_eq ..
  · refine chanFrame_applied ?_ en
    cases st with
    | candidate => simp [ChanState.active] at hst
    | hit => simp [ChanState.active] at hst
    | tail => simp [ChanState.active] at hst
    | _ => rfl
  · refine ⟨_, if_neg (by omega), rfl, rfl, rfl, rfl, rfl, rfl, fun hmax => ⟨?_, ?_⟩, fun hmax => ⟨?_, ?_⟩, Nat.min_le_right _ _,
      fun hw => ?_, fun hw => centroid_nonneg hs hw h.start h.last⟩
    · dsimp only
      omega
    · simp only [Bool.or_eq_left_iff_imp, decide_eq_true_eq]
      omega
    · dsimp only
      omega
    · simp [hmax]
    · dsimp only
      rw [if_pos hw, Nat.add_zero]

end Sys2Proof.Machine
end

section
/-!
PROOFS. Which events a factor matches, and what a row update does to every set (R130 to R132).
-/

namespace Sys2Proof.Machine

/-! ### Matching (R130, R131) -/

section

theorem factorMatches_code {s : State} {n : SetId} {e : TrigEvent} (h : (s.trig.sets.get n).dfn.factor.code ≠ e.code) :
    factorMatches s n e = false := by
  unfold factorMatches
  split
  case h_9 => rfl
  all_goals
    rename_i hf
    rw [hf] at h
    exact absurd rfl h

/-- A flag mask holds one of the four flags a VEHICLE factor can name. -/
theorem maskFlags_iff (m : BitVec 4) (v : VehicleEvent) : ((m &&& v.maskFlags) != 0) = true ↔
    (m.getLsbD 0 = true ∧ v.flags.getLsbD 6 = true) ∨ (m.getLsbD 1 = true ∧ v.flags.getLsbD 7 = true)
      ∨ (m.getLsbD 2 = true ∧ (v.flags.getLsbD 1 = true ∨ v.flags.getLsbD 2 = true))
      ∨ (m.getLsbD 3 = true ∧ v.flags.getLsbD 3 = true) := by
  have hone {f : BitVec 10} {ns : List Nat} (hlt : ∀ n ∈ ns, n < 10)
      (hbits : ∀ i : Fin 10, f.getLsbD i.val = decide (i.val ∈ ns)) : hasFlag v.flags f = true ↔ ∃ i ∈ ns, v.flags.getLsbD i = true := by
    rw [hasFlag_iff]
    exact exists_congr fun i => by rw [getLsbD_iff_mem hlt hbits i, and_comm]
  have h6 := hone (f := vehStraddle) (ns := [6]) (by decide) (by decide)
  have h7 := hone (f := vehLaneChange) (ns := [7]) (by decide) (by decide)
  have h12 := hone (f := vehSplitBefore ||| vehSplitAfter) (ns := [1, 2]) (by decide) (by decide)
  have h3 := hone (f := vehNoLoop) (ns := [3]) (by decide) (by decide)
  simp only [List.mem_cons, List.not_mem_nil, or_false, exists_eq_or_imp, exists_eq_left] at h6 h7 h12 h3
  have hbit (i : Fin 4) : v.maskFlags.getLsbD i.val = true ↔ (i.val = 0 ∧ v.flags.getLsbD 6 = true)
      ∨ (i.val = 1 ∧ v.flags.getLsbD 7 = true) ∨ (i.val = 2 ∧ (v.flags.getLsbD 1 = true ∨ v.flags.getLsbD 2 = true))
      ∨ (i.val = 3 ∧ v.flags.getLsbD 3 = true) := by
    unfold VehicleEvent.maskFlags
    rw [← h6, ← h7, ← h12, ← h3]
    simp only [BitVec.getLsbD_or, getLsbD_flagWhen, Bool.or_eq_true, Bool.and_eq_true]
    fin_cases i <;> simp
  show hasFlag m v.maskFlags = true ↔ _
  rw [hasFlag_iff]
  constructor
  · rintro ⟨i, hm, hf⟩
    have hi : i < 4 := by
      by_contra hge
      rw [BitVec.getLsbD_of_ge _ _ (Nat.not_lt.mp hge)] at hf
      cases hf
    obtain ⟨h, hv⟩ | ⟨h, hv⟩ | ⟨h, hv⟩ | ⟨h, hv⟩ := (hbit ⟨i, hi⟩).mp hf <;> obtain rfl : i = _ := h
    · exact .inl ⟨hm, hv⟩
    · exact .inr (.inl ⟨hm, hv⟩)
    · exact .inr (.inr (.inl ⟨hm, hv⟩))
    · exact .inr (.inr (.inr ⟨hm, hv⟩))
  · rintro (⟨hm, hv⟩ | ⟨hm, hv⟩ | ⟨hm, hv⟩ | ⟨hm, hv⟩)
    · exact ⟨0, hm, (hbit 0).mpr (.inl ⟨rfl, hv⟩)⟩
    · exact ⟨1, hm, (hbit 1).mpr (.inr (.inl ⟨rfl, hv⟩))⟩
    · exact ⟨2, hm, (hbit 2).mpr (.inr (.inr (.inl ⟨rfl, hv⟩)))⟩
    · exact ⟨3, hm, (hbit 3).mpr (.inr (.inr (.inr ⟨rfl, hv⟩)))⟩

theorem vehicleCond_holds_iff (c : VehicleCond) (v : VehicleEvent) : c.holds v = true ↔
    (∀ m, c.lanes = some m → m.getLsbD v.lane.val = true)
      ∧ (∀ lo hi, c.classes = some (lo, hi) → lo ≤ v.cls ∧ v.cls ≤ hi)
      ∧ c.grossMin ≤ v.gross ∧ c.heaviestMin ≤ v.heaviest
      ∧ (∀ lo hi, c.grades = some (lo, hi) → lo ≤ v.grade.code ∧ v.grade.code ≤ hi)
      ∧ (∀ m, c.flags = some m → (m.getLsbD 0 = true ∧ v.flags.getLsbD 6 = true) ∨ (m.getLsbD 1 = true ∧ v.flags.getLsbD 7 = true)
          ∨ (m.getLsbD 2 = true ∧ (v.flags.getLsbD 1 = true ∨ v.flags.getLsbD 2 = true))
          ∨ (m.getLsbD 3 = true ∧ v.flags.getLsbD 3 = true)) := by
  simp only [← maskFlags_iff]
  unfold VehicleCond.holds
  simp only [Bool.and_eq_true, decide_eq_true_eq, and_assoc]
  have hrange (o : Option (Nat × Nat)) (n : Nat) :
      (match o with | none => true | some (lo, hi) => decide (lo ≤ n) && decide (n ≤ hi)) = true
        ↔ ∀ lo hi, o = some (lo, hi) → lo ≤ n ∧ n ≤ hi := by
    cases o with
    | none => simp
    | some p =>
      obtain ⟨a, b⟩ := p
      simp only [Bool.and_eq_true, decide_eq_true_eq, Option.some.injEq, Prod.mk.injEq]
      exact ⟨by rintro h _ _ ⟨rfl, rfl⟩; exact h, fun h => h a b ⟨rfl, rfl⟩⟩
  refine and_congr ?_ (and_congr ?_ (and_congr_right fun _ => and_congr_right fun _ => and_congr ?_ ?_))
  · cases c.lanes <;> simp
  · exact hrange ..
  · exact hrange ..
  · cases c.flags <;> simp

end

/-! ### Row updates (R132) -/

section

theorem testBit_packFields (bs : List Bool) (i : Nat) : (packFields 1 (bs.map b2n)).testBit i = (bs[i]?).getD false := by
  induction bs generalizing i with
  | nil => simp [packFields]
  | cons b rest ih =>
    rw [List.map_cons, packFields, put_eq]
    cases i with
    | zero =>
      rw [Nat.testBit_zero]
      cases b <;> simp [b2n, Nat.add_mod]
    | succ i =>
      have hdiv : (b2n b + 2 ^ 1 * packFields 1 (rest.map b2n)) / 2 = packFields 1 (rest.map b2n) := by
        have : b2n b ≤ 1 := by cases b <;> simp [b2n]
        omega
      rw [Nat.testBit_succ, hdiv, ih]
      rfl

theorem tab_getElem? {n : Nat} {α : Type} (t : Tab n α) (i : Fin n) : t.items[i.val]? = some (t.get i) := by
  rw [List.getElem?_eq_getElem (by rw [t.len]; exact i.isLt)]
  rfl

theorem occurrences_bit (row : Row) (temp : RowTemp) (sets : Tab 8 TriggerSet) (n : SetId) :
    (occurrences row temp sets).getLsbD n.val = (sets.get n).occurs row temp := by
  have hmap : (sets.items.map fun t => b2n (t.occurs row temp)) = (sets.items.map fun t => t.occurs row temp).map b2n := by
    rw [List.map_map]
    rfl
  rw [occurrences, BitVec.getLsbD_ofNat, hmap, testBit_packFields, List.getElem?_map, tab_getElem?]
  simp

theorem side_after_eq (side : Side) (theta : Int) (temp : RowTemp) : side.after theta temp =
    match (temp.value?), side with
    | none, _ => .unknown
    | some v, .unknown => if v < theta then .low else .high
    | some v, .low => if v < theta + 5 then .low else .high
    | some v, .high => if theta - 5 < v then .high else .low := by
  unfold Side.after
  cases temp.value? with
  | none => rfl
  | some v =>
    cases side
    · by_cases h : v < theta
      · exact (if_neg (by omega)).trans (if_pos h).symm
      · exact (if_pos (by omega)).trans (if_neg h).symm
    · by_cases h : v < theta + 5
      · exact (if_neg (by omega)).trans (if_pos h).symm
      · exact (if_pos (by omega)).trans (if_neg h).symm
    · by_cases h : theta - 5 < v
      · exact (if_neg (by omega)).trans (if_pos h).symm
      · exact (if_pos (by omega)).trans (if_neg h).symm

end

/-! ### The factors one by one -/

section

theorem fieldEdge_matches (s : State) (l k : Line) (up down rising : Bool) :
    (decide (l = k) && ((if rising then up else down) && s.isInput k)) = true
      ↔ k = l ∧ (rising = true ∧ up = true ∨ rising = false ∧ down = true) ∧ ∃ v, s.trig.lines.get l = .input v := by
  have hinput : s.isInput k = true ↔ ∃ v, s.trig.lines.get k = .input v := by
    unfold State.isInput
    cases s.trig.lines.get k <;> simp
  rw [Bool.and_eq_true, Bool.and_eq_true, decide_eq_true_eq, hinput]
  constructor
  · rintro ⟨rfl, hdir, hin⟩
    exact ⟨rfl, by cases rising <;> simpa using hdir, hin⟩
  · rintro ⟨rfl, hdir, hin⟩
    exact ⟨rfl, by cases rising <;> simpa using hdir, hin⟩

theorem driftLimit_matches (m : Option (BitVec 4)) (l : Lane) (lower upper isUpper : Bool) :
    ((match m with | none => true | some b => b.getLsbD l.val) && (if isUpper then upper else lower)) = true
      ↔ (∀ x, m = some x → x.getLsbD l.val = true) ∧ (isUpper = true ∧ upper = true ∨ isUpper = false ∧ lower = true) := by
  rw [Bool.and_eq_true]
  refine and_congr ?_ ?_
  · cases m <;> simp
  · cases isUpper <;> simp

variable {t : TriggerSet} {row : Row} {theta : Int} {up down deg : Bool}

theorem track_eq (hf : t.dfn.factor = .temperature row theta up down deg) (temp : RowTemp) :
    t.track row temp = { t with side := t.side.after theta temp, degraded := temp.degraded } := by
  unfold TriggerSet.track
  rw [hf]
  exact if_pos rfl

theorem track_other (h : ∀ theta up down deg, t.dfn.factor ≠ .temperature row theta up down deg) (temp : RowTemp) :
    t.track row temp = t := by
  unfold TriggerSet.track
  split
  · rename_i r theta up down deg hf
    exact if_neg fun e : r = row => h theta up down deg (e ▸ hf)
  · rfl

theorem occurs_iff (hf : t.dfn.factor = .temperature row theta up down deg) (temp : RowTemp) : t.occurs row temp = true ↔
    (up = true ∧ t.side = .low ∧ t.side.after theta temp = .high) ∨ (down = true ∧ t.side = .high ∧ t.side.after theta temp = .low)
      ∨ (deg = true ∧ temp.degraded = true ∧ t.degraded = false) := by
  unfold TriggerSet.occurs
  rw [hf]
  simp [or_assoc]

theorem occurs_other (h : ∀ theta up down deg, t.dfn.factor ≠ .temperature row theta up down deg) (temp : RowTemp) :
    t.occurs row temp = false := by
  unfold TriggerSet.occurs
  split
  · rename_i r theta up down deg hf
    rw [decide_eq_false fun e : r = row => h theta up down deg (e ▸ hf)]
    rfl
  · rfl

end

/-- Settles O58: matching by factor, then the tracking of a row update. -/
theorem triggersMatch : Obligations.TriggersMatch := by
  refine ⟨fun s n e => factorMatches_code, fun s n c v hf => ?_, fun s n => ?_, fun row temp s =>
    ⟨s.trig.sets.map (TriggerSet.track row temp), occurrences row temp s.trig.sets, ?_⟩⟩
  · unfold factorMatches
    rw [hf]
    exact vehicleCond_holds_iff c v
  · split
    case h_1 => trivial
    case h_2 => trivial
    all_goals
      rename_i hf
      unfold factorMatches
      rw [hf]
    · exact fun l tick => rfl
    · exact fun own => rfl
    · exact fun k rising tick => fieldEdge_matches s _ k _ _ rising
    · exact fun row temp occ => rfl
    · exact fun l b isUpper kd => driftLimit_matches _ l _ _ isUpper
    · exact fun k => rfl
    · exact fun isVeh => rfl
  · intro shown bad side
    have hside (theta : Int) (old : Side) : side theta old = old.after theta temp := by
      rw [side_after_eq]
      cases temp <;> cases old <;> rfl
    have hbad : bad = temp.degraded := by cases temp <;> rfl
    refine ⟨handEvent_eq _ _, fun n => ⟨fun theta up down deg hf => ?_, fun hno => ⟨?_, ?_⟩⟩⟩
    · rw [hside, hbad, Tab.get_map, occurrences_bit]
      exact ⟨track_eq hf temp, occurs_iff hf temp⟩
    · rw [Tab.get_map]
      exact track_other hno temp
    · rw [occurrences_bit]
      exact occurs_other hno temp

end Sys2Proof.Machine
end

section
/-!
PROOFS. What a set that fires does, and a cascade as a relation: firing, chains, pulses, timers, captures and reports
(R133 to R142).
-/

namespace Sys2Proof.Machine

/-! ### The place of a pulse (R139) -/

section
variable {now width : Nat} {ps : List Pulse} {req : Int}

/-- A pulse of the width fits at `x`. -/
def FreeAt (now width : Nat) (ps : List Pulse) (x : Int) : Prop :=
  ∀ q ∈ ps, tickOffset now q.stop ≤ x ∨ x + width ≤ tickOffset now q.start

theorem spanFree_iff (x : Int) : spanFree now ps width x = true ↔ FreeAt now width ps x := by
  unfold spanFree FreeAt
  rw [List.all_eq_true]
  refine forall₂_congr fun q _ => ?_
  rw [Bool.not_eq_true', spansOverlap, Bool.and_eq_false_iff, Pulse.span, ← Int.not_lt, ← Int.not_lt]
  exact or_congr decide_eq_false_iff_not decide_eq_false_iff_not

/-- The least member of a list. -/
theorem foldl_min_spec (t : Int) (l : List Int) : l.foldl min t ∈ t :: l ∧ ∀ x ∈ t :: l, l.foldl min t ≤ x := by
  induction l generalizing t with
  | nil => simp
  | cons u rest ih =>
    obtain ⟨hmem, hle⟩ := ih (min t u)
    rw [List.foldl_cons]
    refine ⟨?_, fun x hx => ?_⟩
    · obtain h | h := List.mem_cons.mp hmem
      · rw [h]
        obtain hm | hm := min_choice t u <;> rw [hm] <;> simp
      · exact List.mem_cons_of_mem _ (List.mem_cons_of_mem _ h)
    · obtain rfl | hx := List.mem_cons.mp hx
      · exact (hle _ List.mem_cons_self).trans (min_le_left ..)
      · obtain rfl | hx := List.mem_cons.mp hx
        · exact (hle _ List.mem_cons_self).trans (min_le_right ..)
        · exact hle x (List.mem_cons_of_mem _ hx)

/-- A list of numbers at or below a bound has a greatest one where it has any. -/
theorem exists_greatest (l : List Int) (hne : l ≠ []) : ∃ m ∈ l, ∀ x ∈ l, x ≤ m := by
  induction l with
  | nil => exact absurd rfl hne
  | cons a rest ih =>
    by_cases hrest : rest = []
    · subst hrest
      exact ⟨a, by simp⟩
    · obtain ⟨m, hm, hle⟩ := ih hrest
      obtain h | h := le_total a m
      · exact ⟨m, List.mem_cons_of_mem _ hm, fun x hx => (List.mem_cons.mp hx).elim (fun e => e ▸ h) (hle x)⟩
      · exact ⟨a, List.mem_cons_self, fun x hx => (List.mem_cons.mp hx).elim (fun e => e ▸ le_rfl) fun hx => (hle x hx).trans h⟩

/-- Where a start is blocked, any free start has the end of a scheduled pulse, free too, at or before it. -/
theorem free_end_before {x : Int} (hreq : ¬FreeAt now width ps req) (hx : req ≤ x) (hfree : FreeAt now width ps x) :
    ∃ q ∈ ps, req ≤ tickOffset now q.stop ∧ tickOffset now q.stop ≤ x ∧ FreeAt now width ps (tickOffset now q.stop) := by
  unfold FreeAt at hreq
  push Not at hreq
  obtain ⟨q0, hq0, hstop, hstart⟩ := hreq
  have hbefore : tickOffset now q0.stop ≤ x := (hfree q0 hq0).resolve_right (by omega)
  obtain ⟨m, hm, hgreatest⟩ := exists_greatest ((ps.map fun q => tickOffset now q.stop).filter fun t => decide (t ≤ x)) (by
    refine List.ne_nil_of_mem (a := tickOffset now q0.stop) ?_
    simp only [List.mem_filter, List.mem_map, decide_eq_true_eq]
    exact ⟨⟨q0, hq0, rfl⟩, hbefore⟩)
  simp only [List.mem_filter, List.mem_map, decide_eq_true_eq] at hm hgreatest
  obtain ⟨⟨q, hq, rfl⟩, hmx⟩ := hm
  have hle := hgreatest _ ⟨⟨q0, hq0, rfl⟩, hbefore⟩
  refine ⟨q, hq, by omega, hmx, fun r hr => ?_⟩
  obtain h | h := hfree r hr
  · exact .inl (hgreatest _ ⟨⟨r, hr, rfl⟩, h⟩)
  · exact .inr (by omega)

/-- The earliest start is free, not before the one requested, and no earlier one is free (R139). -/
theorem earliestStart_spec : req ≤ earliestStart now ps width req ∧ FreeAt now width ps (earliestStart now ps width req)
    ∧ ∀ x, req ≤ x → x < earliestStart now ps width req → ¬FreeAt now width ps x := by
  unfold earliestStart
  dsimp only
  by_cases hreq : FreeAt now width ps req
  · rw [if_pos ((spanFree_iff req).mpr hreq)]
    exact ⟨le_rfl, hreq, fun x h1 h2 => by omega⟩
  · rw [if_neg fun e => hreq ((spanFree_iff req).mp e)]
    have hmem (t : Int) : t ∈ ((ps.map fun p => (p.span now).2).filter fun t => decide (req ≤ t)).filter (spanFree now ps width)
        ↔ ∃ q ∈ ps, tickOffset now q.stop = t ∧ req ≤ t ∧ FreeAt now width ps t := by
      simp only [List.mem_filter, List.mem_map, decide_eq_true_eq, spanFree_iff, Pulse.span]
      constructor
      · rintro ⟨⟨⟨q, hq, rfl⟩, h⟩, hf⟩
        exact ⟨q, hq, rfl, h, hf⟩
      · rintro ⟨q, hq, rfl, h, hf⟩
        exact ⟨⟨⟨q, hq, rfl⟩, h⟩, hf⟩
    obtain ⟨far, hfar, hfarreq⟩ : ∃ x, FreeAt now width ps x ∧ req ≤ x := by
      by_cases hps : ps = []
      · subst hps
        exact absurd (fun q hq => by cases hq) hreq
      · obtain ⟨m, _, hm⟩ := exists_greatest (ps.map fun q => tickOffset now q.stop) (by simpa using hps)
        refine ⟨max m req, fun q hq => .inl ((hm _ (List.mem_map_of_mem hq)).trans (le_max_left ..)), le_max_right ..⟩
    generalize hfits : ((ps.map fun p => (p.span now).2).filter fun t => decide (req ≤ t)).filter (spanFree now ps width) = fits
    rw [hfits] at hmem
    cases fits with
    | nil =>
      obtain ⟨q, hq, h1, _, h3⟩ := free_end_before hreq hfarreq hfar
      exact absurd ((hmem _).mpr ⟨q, hq, rfl, h1, h3⟩) (by simp)
    | cons t rest =>
      obtain ⟨hin, hleast⟩ := foldl_min_spec t rest
      obtain ⟨q, hq, heq, hle, hf⟩ := (hmem _).mp hin
      refine ⟨hle, hf, fun x hx hlt hfree => ?_⟩
      change x < rest.foldl min t at hlt
      obtain ⟨q', hq', h1, h2, h3⟩ := free_end_before hreq hx hfree
      exact absurd (hleast _ ((hmem _).mpr ⟨q', hq', rfl, h1, h3⟩)) (by omega)

/-- A pulse goes behind those that start no later. -/
theorem insertPulse_split (p : Pulse) (ps : List Pulse) : ∃ pre post, ps = pre ++ post
    ∧ (∀ q ∈ pre, tickOffset now q.start ≤ tickOffset now p.start)
    ∧ (∀ q, post.head? = some q → tickOffset now p.start < tickOffset now q.start)
    ∧ insertPulse now p ps = pre ++ p :: post := by
  induction ps with
  | nil => exact ⟨[], [], rfl, by simp, by simp, rfl⟩
  | cons q rest ih =>
    rw [insertPulse]
    by_cases h : tickOffset now p.start < tickOffset now q.start
    · rw [if_pos h]
      exact ⟨[], q :: rest, rfl, by simp, fun r hr => Option.some.inj hr ▸ h, rfl⟩
    · rw [if_neg h]
      obtain ⟨pre, post, hps, hpre, hpost, hins⟩ := ih
      refine ⟨q :: pre, post, by rw [hps]; rfl, fun r hr => ?_, hpost, by rw [hins]; rfl⟩
      obtain rfl | hr := List.mem_cons.mp hr
      · exact Int.not_lt.mp h
      · exact hpre r hr

end

/-! ### A firing (R134, R135) -/

section

/-- No part of a firing before its masks changes which sets are enabled. -/
theorem firePulse_sets (e : TrigEvent) (n : SetId) (s : State) : (firePulse e n s).1.trig.sets = s.trig.sets := by
  unfold firePulse
  split
  · rfl
  · unfold placePulse
    split
    · rfl
    · rfl
    · dsimp only
      split <;> rfl

theorem fireTimer_enabled (n m : SetId) (s : State) :
    ((fireTimer n s).trig.sets.get m).enabled = (s.trig.sets.get m).enabled := by
  unfold fireTimer
  split
  · rfl
  · unfold applyTimerAction
    dsimp only
    rw [Tab.get_set]
    split
    · rename_i h
      rw [h]
    · rfl

theorem fireCapture_sets (e : TrigEvent) (n : SetId) (s : State) : (fireCapture e n s).1.trig.sets = s.trig.sets := by
  unfold fireCapture
  split
  · rfl
  · unfold applyCaptureAction
    split
    · rfl
    · unfold armCapture
      dsimp only
      split <;> rfl

theorem fireReport_sets (e : TrigEvent) (n : SetId) (a b : Bool) (r : PulseResult) (s : State) :
    (fireReport e n a r b s).trig.sets = s.trig.sets := by
  unfold fireReport
  split
  · obtain ⟨_, _, _, h⟩ := createRecord_frame .trigger
      (triggerWords n e.code a (match e.vehicle? with | some v => v.serial | none => 0) r.startField (r.outcome b) s.clock) s
    exact congrArg (fun t => t.trig.sets) h
  · rfl

/-- The state of a firing before its masks. -/
def firedState (e : TrigEvent) (n : SetId) (activated : Bool) (s : State) : State :=
  let p := firePulse e n s
  let c := fireCapture e n (fireTimer n p.1)
  fireReport e n activated p.2 c.2 c.1

theorem firedState_enabled (e : TrigEvent) (n m : SetId) (a : Bool) (s : State) :
    ((firedState e n a s).trig.sets.get m).enabled = (s.trig.sets.get m).enabled := by
  unfold firedState
  dsimp only
  rw [fireReport_sets, fireCapture_sets, fireTimer_enabled, firePulse_sets]

theorem fireSteps_eq (e : TrigEvent) (n : SetId) (a : Bool) (s : State) : fireSteps e n a s =
    applyMasks (s.trig.sets.get n).dfn.enableMask (s.trig.sets.get n).dfn.disableMask
      (if (s.trig.sets.get n).dfn.once then setEnabled n false (firedState e n a s) else firedState e n a s) := rfl

theorem applyMasks_get (en dis : BitVec 8) (s : State) (m : SetId) : (applyMasks en dis s).trig.sets.get m =
    { s.trig.sets.get m with
      enabled := if dis.getLsbD m.val then false else en.getLsbD m.val || (s.trig.sets.get m).enabled } := by
  unfold applyMasks inMask
  dsimp only
  rw [Tab.get_ofNat, dif_pos m.isLt]
  cases dis.getLsbD m.val <;> cases en.getLsbD m.val <;> rfl

theorem fireSteps_firesOnce (e : TrigEvent) (n : SetId) (a : Bool) (s : State) : FiresOnce e n a s (fireSteps e n a s) := by
  refine ⟨(fireSteps e n a s).trig.sets, ?_, fun m => ?_⟩
  · rw [fireSteps_eq]
    split <;> rfl
  · show _ = { (firedState e n a s).trig.sets.get m with
        enabled := if (s.trig.sets.get n).dfn.disableMask.getLsbD m.val then false
          else (s.trig.sets.get n).dfn.enableMask.getLsbD m.val
            || (((firedState e n a s).trig.sets.get m).enabled && !((s.trig.sets.get n).dfn.once && decide (m = n))) }
    rw [fireSteps_eq, applyMasks_get]
    have honce : (if (s.trig.sets.get n).dfn.once then setEnabled n false (firedState e n a s) else firedState e n a s).trig.sets.get m
        = { (firedState e n a s).trig.sets.get m with
            enabled := ((firedState e n a s).trig.sets.get m).enabled && !((s.trig.sets.get n).dfn.once && decide (m = n)) } := by
      cases (s.trig.sets.get n).dfn.once with
      | false => simp
      | true =>
        rw [if_pos rfl, setEnabled]
        dsimp only
        rw [Tab.get_set]
        by_cases hm : n = m
        · subst hm
          simp
        · rw [if_neg hm]
          simp [Ne.symm hm]
    rw [honce]

/-- With no masks on sets a firing is its steps, a ONCE set then disabled. -/
theorem fireSteps_unmasked {e : TrigEvent} {n : SetId} {s : State} (a : Bool) (hen : (s.trig.sets.get n).dfn.enableMask = 0)
    (hdis : (s.trig.sets.get n).dfn.disableMask = 0) : fireSteps e n a s =
      if (s.trig.sets.get n).dfn.once then setEnabled n false (firedState e n a s) else firedState e n a s := by
  have hmasks (u : State) : applyMasks 0 0 u = u := by
    have hsets : (applyMasks 0 0 u).trig.sets = u.trig.sets := by
      refine Tab.ext_get fun m => ?_
      rw [applyMasks_get]
      simp
    show { u with trig.sets := (applyMasks 0 0 u).trig.sets } = u
    rw [hsets]
  rw [fireSteps_eq, hen, hdis, hmasks]

end

/-! ### Cascades as relations (R133, R135) -/

section
variable {e : TrigEvent}

theorem Activates.mono {mask : BitVec 8} {ns : List SetId} {a b : State × BitVec 8} (h : Activates e mask ns a b) (m : SetId)
    (hm : inMask a.2 m = true) : inMask b.2 m = true := by
  induction h with
  | done => exact hm
  | passed _ _ ih => exact ih hm
  | @taken _ n _ a _ _ _ _ _ _ _ _ _ ihchain ihrest =>
    refine ihrest (ihchain ?_)
    show inMask (a.2 ||| setBit n) m = true
    rw [inMask_or_setBit, hm]
    rfl

theorem firedCount_mono {x y : BitVec 8} (h : ∀ m, inMask x m = true → inMask y m = true) : firedCount x ≤ firedCount y := by
  unfold firedCount
  rw [← List.countP_eq_length_filter, ← List.countP_eq_length_filter]
  exact List.countP_mono_left fun m _ => h m

/-- An unfired set leaves fewer than eight fired. -/
theorem firedCount_lt {x : BitVec 8} {n : SetId} (h : inMask x n = false) : firedCount x < 8 := by
  have hle : firedCount (x ||| setBit n) ≤ 8 := (List.length_filter_le _ _).trans (by decide)
  rw [firedCount_setBit h] at hle
  exact hle

theorem mayFire_iff (s : State) (x : BitVec 8) (n : SetId) :
    mayFire s x n = true ↔ (s.trig.sets.get n).enabled = true ∧ x.getLsbD n.val = false := by
  unfold mayFire inMask
  rw [Bool.and_eq_true, Bool.not_eq_true']

/-- A chain of the depth that the sets not yet fired can need is the chain of R135. -/
theorem activates_foldl (depth : Nat) : ∀ (mask : BitVec 8) (ns : List SetId) (a : State × BitVec 8), 9 ≤ depth + firedCount a.2 →
    Activates e mask ns a
      (ns.foldl (fun a m => if inMask mask m && mayFire a.1 a.2 m then fire e depth m true a else a) a) := by
  induction depth with
  | zero =>
    intro mask ns a h
    have hle : firedCount a.2 ≤ 8 := (List.length_filter_le _ _).trans (by decide)
    omega
  | succ depth ihdepth =>
    intro mask ns
    induction ns with
    | nil => exact fun a _ => .done mask a
    | cons n ns ih =>
      intro a h
      rw [List.foldl_cons]
      by_cases hn : (inMask mask n && mayFire a.1 a.2 n) = true
      · have hfire := hn
        rw [Bool.and_eq_true, mayFire_iff] at hfire
        obtain ⟨hmask, henabled, hunfired⟩ := hfire
        have hcount := firedCount_setBit hunfired
        have hchain := ihdepth (a.1.trig.sets.get n).dfn.activateMask (indices 8)
          (fireSteps e n true a.1, a.2 ||| setBit n) (by dsimp only; omega)
        rw [if_pos hn]
        refine .taken hmask henabled hunfired (fireSteps_firesOnce ..) hchain (ih _ ?_)
        have hmono := firedCount_mono hchain.mono
        dsimp only at hmono
        show 9 ≤ depth + 1 + firedCount (fire e (depth + 1) n true a).2
        rw [fire]
        omega
      · rw [if_neg hn]
        refine .passed (fun hc => hn ?_) (ih a h)
        rw [Bool.and_eq_true, mayFire_iff]
        exact hc

theorem fire_chain {n : SetId} {activated : Bool} {a : State × BitVec 8} (hn : inMask a.2 n = false) :
    Activates e (a.1.trig.sets.get n).dfn.activateMask (indices 8) (fireSteps e n activated a.1, a.2 ||| setBit n)
      (fire e chainDepth n activated a) :=
  activates_foldl 8 _ _ _ (by rw [firedCount_setBit hn]; omega)

theorem considers_foldl (ns : List SetId) (a : State × BitVec 8) : Considers e ns a
    (ns.foldl (fun a n => if mayFire a.1 a.2 n && factorMatches a.1 n e then fire e chainDepth n false a else a) a) := by
  induction ns generalizing a with
  | nil => exact .done a
  | cons n ns ih =>
    rw [List.foldl_cons]
    by_cases hn : (mayFire a.1 a.2 n && factorMatches a.1 n e) = true
    · have hfire := hn
      rw [Bool.and_eq_true, mayFire_iff] at hfire
      obtain ⟨⟨henabled, hunfired⟩, hmatch⟩ := hfire
      rw [if_pos hn]
      exact .taken henabled hunfired hmatch (fireSteps_firesOnce ..) (fire_chain hunfired) (ih _)
    · rw [if_neg hn]
      refine .passed (fun ⟨h1, h2, h3⟩ => hn ?_) (ih a)
      rw [Bool.and_eq_true, mayFire_iff]
      exact ⟨⟨h1, h2⟩, h3⟩

theorem runCascade_considers {s : State} (h : s.run.works = true) : Considers e (indices 8) (s, 0) (runCascade e s) := by
  unfold runCascade
  rw [if_pos h]
  exact considers_foldl _ _

end

/-! ### One set enabled -/

section

theorem foldl_fixed {α β : Type} {f : β → α → β} {b : β} {l : List α} (h : ∀ a ∈ l, f b a = b) : l.foldl f b = b := by
  induction l with
  | nil => rfl
  | cons a rest ih =>
    rw [List.foldl_cons, h a List.mem_cons_self]
    exact ih fun x hx => h x (List.mem_cons_of_mem _ hx)

/-- A fold of which one member alone has an effect. -/
theorem foldl_single {α β : Type} {f : β → α → β} {b : β} {l : List α} {n : α} (hn : n ∈ l) (hnodup : l.Nodup)
    (hbefore : ∀ a ∈ l, a ≠ n → f b a = b) (hafter : ∀ a ∈ l, a ≠ n → f (f b n) a = f b n) : l.foldl f b = f b n := by
  obtain ⟨pre, post, rfl⟩ := List.append_of_mem hn
  obtain ⟨_, hpost, hdisjoint⟩ := List.nodup_append.mp hnodup
  obtain ⟨hnpost, _⟩ := List.nodup_cons.mp hpost
  rw [List.foldl_append, foldl_fixed fun a ha => hbefore a (List.mem_append_left _ ha) (hdisjoint a ha n List.mem_cons_self),
    List.foldl_cons]
  exact foldl_fixed fun a ha => hafter a (List.mem_append_right _ (List.mem_cons_of_mem _ ha)) fun e => hnpost (e ▸ ha)

variable {e : TrigEvent} {n : SetId} {s : State}

/-- A cascade considers the one set that is enabled. -/
theorem runCascade_one_unmatched (honly : ∀ m, (s.trig.sets.get m).enabled = decide (m = n)) (hno : factorMatches s n e = false) :
    (runCascade e s).1 = s := by
  unfold runCascade
  split
  · rw [foldl_fixed]
    intro m _
    refine if_neg fun h => ?_
    rw [Bool.and_eq_true, mayFire_iff, honly, decide_eq_true_eq] at h
    obtain ⟨⟨rfl, _⟩, hm⟩ := h
    exact absurd (hno.symm.trans hm) (by decide)
  · rfl

theorem runCascade_one_matched (hworks : s.run.works = true) (honly : ∀ m, (s.trig.sets.get m).enabled = decide (m = n))
    (hm : factorMatches s n e = true) (hen : (s.trig.sets.get n).dfn.enableMask = 0)
    (hdis : (s.trig.sets.get n).dfn.disableMask = 0) : (runCascade e s).1 =
      if (s.trig.sets.get n).dfn.once then setEnabled n false (firedState e n false s) else firedState e n false s := by
  have hfired (m : SetId) : mayFire (fireSteps e n false s) (0 ||| setBit n) m = false := by
    rw [← Bool.not_eq_true, mayFire_iff]
    rintro ⟨henabled, hunfired⟩
    have hbit := inMask_or_setBit 0 n m
    rw [show inMask (0 ||| setBit n) m = false from hunfired] at hbit
    have hne : n ≠ m := by simpa [inMask] using hbit.symm
    rw [fireSteps_unmasked false hen hdis] at henabled
    have hsame : ((if (s.trig.sets.get n).dfn.once then setEnabled n false (firedState e n false s) else firedState e n false s).trig.sets.get
        m).enabled = (s.trig.sets.get m).enabled := by
      rw [← firedState_enabled e n m false s]
      split
      · rw [setEnabled]
        dsimp only
        rw [Tab.get_set_ne _ _ hne]
      · rfl
    rw [hsame, honly, decide_eq_true_eq] at henabled
    exact hne henabled.symm
  have hfire : fire e chainDepth n false (s, 0) = (fireSteps e n false s, 0 ||| setBit n) := by
    show fire e (8 + 1) n false (s, 0) = _
    rw [fire]
    refine foldl_fixed fun m _ => if_neg ?_
    rw [Bool.and_eq_true]
    exact fun h => absurd ((hfired m).symm.trans h.2) (by decide)
  have hone : (if mayFire s 0 n && factorMatches s n e then fire e chainDepth n false (s, 0) else (s, 0))
      = (fireSteps e n false s, 0 ||| setBit n) := by
    rw [if_pos (by rw [Bool.and_eq_true, mayFire_iff, honly]; exact ⟨⟨decide_eq_true rfl, by simp⟩, hm⟩), hfire]
  unfold runCascade
  rw [if_pos hworks, foldl_single (mem_indices 8 n) indices8_nodup]
  · dsimp only
    rw [hone]
    exact fireSteps_unmasked false hen hdis
  · intro m _ hne
    refine if_neg fun h => ?_
    rw [Bool.and_eq_true, mayFire_iff, honly, decide_eq_true_eq] at h
    exact hne h.1.1
  · intro m _ _
    dsimp only
    rw [hone]
    refine if_neg fun h => ?_
    rw [Bool.and_eq_true] at h
    exact absurd ((hfired m).symm.trans h.1) (by decide)

end

end Sys2Proof.Machine
end

section
/-!
PROOFS. The actions of a firing one by one: pulse, timer, capture, report (R134, R136, R138 to R142).
-/

namespace Sys2Proof.Machine

/-! ### Pulses (R138, R139) -/

section
variable {a : PulseAction} {n : SetId} {s : State} {e : TrigEvent} {ps : List Pulse} {req : Int} {late noSpeed : Bool}

theorem firePulse_none (e : TrigEvent) (h : (s.trig.sets.get n).dfn.pulse = none) : firePulse e n s = (s, PulseResult.noPulse) := by
  unfold firePulse
  rw [h]

theorem firePulse_some (e : TrigEvent) (h : (s.trig.sets.get n).dfn.pulse = some a) : firePulse e n s = placePulse a n e.vehicle? s := by
  unfold firePulse
  rw [h]

theorem placePulse_input {v : Bool} (ve : Option VehicleEvent) (h : s.trig.lines.get a.line = .input v) :
    placePulse a n ve s = (s, PulseResult.noPulse) := by
  unfold placePulse
  rw [h]

theorem placePulse_noVehicle {d : Nat} (h : a.timing = .distance d) : placePulse a n none s = (s, PulseResult.noPulse) := by
  unfold placePulse
  rw [h]
  cases s.trig.lines.get a.line <;> rfl

/-- A pulse action on an output line, a vehicle standing behind a distance (R138). -/
theorem placePulse_output {v : Option VehicleEvent} (hl : s.trig.lines.get a.line = .output ps)
    (hv : ∀ d, a.timing = .distance d → v ≠ none) (hreq : requestedStart s.clock a.timing v = (req, late, noSpeed)) :
    placePulse a n v s =
      if 4 ≤ ps.length then
        ({ s with trig.dropped := satInc s.trig.dropped },
          { placed := none, dropped := true, late := late, noSpeed := noSpeed, deferred := false })
      else
        let off := earliestStart s.clock ps a.width req
        let p : Pulse :=
          { start := tickShift s.clock off, stop := tickShift s.clock (off + a.width), tset := n,
            running := decide (off = 0) && !ps.any (·.running) }
        ({ s with trig.lines := s.trig.lines.set a.line (.output (insertPulse s.clock p ps)) },
          { placed := some p.start, dropped := false, late := late, noSpeed := noSpeed, deferred := decide (off ≠ req) }) := by
  unfold placePulse
  rw [hl]
  cases ht : a.timing with
  | fixed d =>
    rw [ht] at hreq
    dsimp only
    rw [hreq]
  | distance d =>
    cases v with
    | none => exact absurd rfl (hv d ht)
    | some v =>
      rw [ht] at hreq
      dsimp only
      rw [hreq]

/-- The start a pulse action asks for (R138). -/
theorem requestedStart_of (h : (∃ delay, a.timing = .fixed delay ∧ req = delay ∧ late = false ∧ noSpeed = false)
      ∨ ∃ dOut v, a.timing = .distance dOut ∧ e = .vehicle v
        ∧ ((v.rowB = none ∨ v.meanSpeed = 0) ∧ req = 0 ∧ late = false ∧ noSpeed = true
          ∨ ∃ b, v.rowB = some b ∧ v.meanSpeed ≠ 0 ∧ noSpeed = false
            ∧ (let off := tickOffset s.clock (halfUp (b * v.meanSpeed + dOut * 131072) (16 * v.meanSpeed) % 281474976710656)
               late = decide (off < 0) ∧ req = if off < 0 then 0 else off))) :
    requestedStart s.clock a.timing e.vehicle? = (req, late, noSpeed)
      ∧ ∀ d, a.timing = .distance d → e.vehicle? ≠ none := by
  obtain ⟨delay, ht, rfl, rfl, rfl⟩ | ⟨dOut, v, ht, rfl, hcase⟩ := h
  · rw [ht]
    exact ⟨by unfold requestedStart; rfl, by simp⟩
  · refine ⟨?_, fun d _ => by simp [TrigEvent.vehicle?]⟩
    rw [ht]
    unfold requestedStart
    obtain ⟨hnone, rfl, rfl, rfl⟩ | ⟨b, hb, hspeed, rfl, hlate, hreq⟩ := hcase
    · cases hb : v.rowB with
      | none => simp [TrigEvent.vehicle?, hb]
      | some b =>
        have h0 : v.meanSpeed = 0 := hnone.resolve_left (by simp [hb])
        simp [TrigEvent.vehicle?, hb, h0]
    · have hoff : tickOffset s.clock (roundDiv (b * v.meanSpeed + dOut * 131072) (16 * v.meanSpeed) % tickMod)
          = tickOffset s.clock (halfUp (b * v.meanSpeed + dOut * 131072) (16 * v.meanSpeed) % 281474976710656) := rfl
      simp only [TrigEvent.vehicle?, hb, if_neg hspeed]
      rw [hoff, hlate, hreq]
      split <;> simp_all

end

/-! ### Timers, captures and reports (R136, R141, R142) -/

section
variable {n : SetId} {s : State} {e : TrigEvent}

theorem fireTimer_none (h : (s.trig.sets.get n).dfn.timerAct = none) : fireTimer n s = s := by
  unfold fireTimer
  rw [h]

theorem act_eq (op : TimerOp) (due : Nat) (t : TimerState) : t.act op due = match op with
    | .start => if t = .stopped then .running due else t
    | .restart => .running due
    | .stop => .stopped
    | .other => t := by
  cases op <;> cases t <;> simp [TimerState.act]

theorem fireTimer_some {a : TimerAction} (h : (s.trig.sets.get n).dfn.timerAct = some a) : fireTimer n s =
    (let x := s.trig.sets.get a.target
     { s with trig.sets := s.trig.sets.set a.target { x with timer := x.timer.act a.op (tickAdd s.clock x.dfn.period) } }) := by
  unfold fireTimer
  rw [h]
  rfl

theorem fireCapture_none (e : TrigEvent) (h : (s.trig.sets.get n).dfn.captureAct = none) : fireCapture e n s = (s, false) := by
  unfold fireCapture
  rw [h]

theorem fireCapture_some {a : CaptureAction} (e : TrigEvent) (h : (s.trig.sets.get n).dfn.captureAct = some a) :
    fireCapture e n s = applyCaptureAction a e.vehicle? s := by
  unfold fireCapture
  rw [h]

theorem vehicle?_none (h : ∀ v, e ≠ .vehicle v) : e.vehicle? = none := by
  cases e with
  | vehicle v => exact absurd rfl (h v)
  | _ => rfl

theorem applyCapture_skipped {a : CaptureAction} (h : a.lane = none) : applyCaptureAction a none s = (s, false) := by
  unfold applyCaptureAction
  rw [h]
  rfl

theorem applyCapture_lane {a : CaptureAction} {l : Lane} (h : a.lane = some l ∨ a.lane = none ∧ ∃ v, e = .vehicle v ∧ v.lane = l) :
    applyCaptureAction a e.vehicle? s = (armCapture { lane := l, pre := a.pre, maxFrames := a.maxFrames } s, s.captureBusy) := by
  unfold applyCaptureAction
  obtain h | ⟨h, v, rfl, rfl⟩ := h
  · rw [h]
  · rw [h]
    rfl

theorem armCapture_idle {req : ArmRequest} (h : s.cap.st = .idle) : armCapture req s = { s with cap.st := .armed req } := by
  unfold armCapture
  rw [h]

theorem armCapture_busy {req : ArmRequest} (h : s.cap.st ≠ .idle) : armCapture req s = s := by
  unfold armCapture
  split
  · rename_i hc
    exact absurd hc h
  · rfl

theorem captureBusy_iff : s.captureBusy = true ↔ s.cap.st ≠ .idle := by
  unfold State.captureBusy
  cases s.cap.st <;> simp

theorem outcome_eq (r : PulseResult) (busy : Bool) : r.outcome busy =
    (if r.placed = none then (if r.dropped then 2 else 3) else 1)
      + 16 * flagOf r.late + 32 * flagOf r.noSpeed + 64 * flagOf r.deferred + 128 * flagOf busy := by
  have hkind : (if r.placed.isSome then 1 else if r.dropped then 2 else 3)
      = if r.placed = none then (if r.dropped then 2 else 3) else 1 := by
    cases r.placed <;> rfl
  unfold PulseResult.outcome
  rw [hkind]
  simp only [put_eq]
  norm_num [b2n, flagOf]

end

theorem fireReport_some {n : SetId} {s : State} {e : TrigEvent} {act busy : Bool} {r : PulseResult} {serial : Nat}
    (h : (s.trig.sets.get n).dfn.report = true)
    (hserial : (match e.vehicle? with | some v => v.serial | none => 0) = serial) : fireReport e n act r busy s =
      createRecord .trigger (triggerWords n e.code act serial r.startField (r.outcome busy) s.clock) s := by
  subst hserial
  exact if_pos h

/-- Settles O38: one set alone, each action, and a cascade as the relation of R133 and R135. -/
theorem triggerActions : Obligations.TriggerActions := by
  refine ⟨fun k e n s hworks he honly hedge => ⟨fun hno => ?_, fun hm hen hdis => ?_⟩, fun e n s => ⟨fun h => ?_, fun a v h hl => ?_,
    fun a d h ht hv => ?_⟩, fun e n a ps req late noSpeed s hp hl hw hreq => ⟨fun hfull => ?_, fun hroom => ?_⟩,
    fun n s => ⟨fireTimer_none, fun a h => ?_⟩, fun e n s => ⟨fireCapture_none e, fun a h => ⟨fun hl hv => ?_, fun l hl => ⟨fun hc => ?_, fun hc => ?_⟩⟩⟩,
    fun e n act busy r s => ⟨fun h => ?_, fun h => ?_⟩, fun e s => ⟨fun h => ?_, fun h => ⟨_, runCascade_considers h, rfl⟩⟩,
    fun k e s hworks he hedge => exec_cascade_due hworks he (edgeOpen_other he hedge)⟩
  · rw [exec_cascade_due hworks he (edgeOpen_other he hedge),
      runCascade_one_unmatched (s := { s with trig.waiting := s.trig.waiting.eraseIdx k }) honly hno]
  · rw [exec_cascade_due hworks he (edgeOpen_other he hedge),
      runCascade_one_matched (s := { s with trig.waiting := s.trig.waiting.eraseIdx k }) hworks honly hm hen hdis]
    rfl
  · rw [firePulse_none e h]
  · rw [firePulse_some e h, placePulse_input _ hl]
  · rw [firePulse_some e h, vehicle?_none hv, placePulse_noVehicle ht]
  · obtain ⟨hstart, hvehicle⟩ := requestedStart_of hreq
    rw [firePulse_some e hp, placePulse_output hl hvehicle hstart, if_pos hfull, satInc_eq]
  · obtain ⟨hstart, hvehicle⟩ := requestedStart_of hreq
    obtain ⟨hle, hfree, hleast⟩ := earliestStart_spec (now := s.clock) (width := a.width) (ps := ps) (req := req)
    have hrunning : (!ps.any (·.running)) = ps.all fun q => !q.running := by
      rw [List.not_any_eq_all_not]
    let p : Pulse :=
      { start := tickShift s.clock (earliestStart s.clock ps a.width req)
        stop := tickShift s.clock (earliestStart s.clock ps a.width req + a.width)
        tset := n
        running := decide (earliestStart s.clock ps a.width req = 0) && ps.all fun q => !q.running }
    obtain ⟨pre, post, hps, hpre, hpost, hins⟩ := insertPulse_split (now := s.clock) p ps
    refine ⟨earliestStart s.clock ps a.width req, pre, post, hle, hfree, hleast, hps, hpre, hpost, ?_⟩
    rw [firePulse_some e hp, placePulse_output hl hvehicle hstart, if_neg (Nat.not_le.mpr hroom), hrunning]
    show ({ s with trig.lines := s.trig.lines.set a.line (.output (insertPulse s.clock p ps)) }, _) = _
    rw [hins]
    rfl
  · exact (fireTimer_some h).trans (congrArg
      (fun t => ({ s with trig.sets := s.trig.sets.set a.target { s.trig.sets.get a.target with timer := t } } : State)) (act_eq ..))
  · rw [fireCapture_some e h, vehicle?_none hv, applyCapture_skipped hl]
  · rw [fireCapture_some e h, applyCapture_lane hl, armCapture_idle hc,
      show s.captureBusy = false from by rw [← Bool.not_eq_true, captureBusy_iff, hc]; exact fun h => h rfl]
  · rw [fireCapture_some e h, applyCapture_lane hl, armCapture_busy hc, captureBusy_iff.mpr hc]
  · unfold fireReport
    rw [if_neg (by simp [h])]
  · have hserial : (match e.vehicle? with | some v => v.serial | none => 0) = match e with | .vehicle v => v.serial | _ => 0 := by
      cases e <;> rfl
    have hwords (serial : Nat) : triggerWords n e.code act serial r.startField (r.outcome busy) s.clock =
        [ 5 + 8 * n.val + 256 * e.code + 4096 * flagOf act, serial,
          (match r.placed with | some t => t % 4294967296 | none => 0),
          (if r.placed = none then (if r.dropped then 2 else 3) else 1)
            + 16 * flagOf r.late + 32 * flagOf r.noSpeed + 64 * flagOf r.deferred + 128 * flagOf busy,
          s.clock % 4294967296 ] := by
      have hstart : r.startField = match r.placed with | some t => t % 4294967296 | none => 0 := by
        unfold PulseResult.startField
        cases r.placed <;> rfl
      rw [outcome_eq, hstart]
      unfold triggerWords
      simp only [put_eq]
      norm_num [tickLow, b2n, flagOf]
    exact (fireReport_some h hserial).trans (congrArg (createRecord .trigger · s) (hwords _))
  · unfold runCascade
    rw [if_neg (by simp [h])]

end Sys2Proof.Machine
end

section
/-!
PROOFS. Captures: their start, the copying of frames, the pages and their headers, and the end (R35 to R38; 10, 10.5).
-/

namespace Sys2Proof.Machine

/-! ### A completed access of a requester, no resumption and no power-fail sequence in progress -/

section
variable {s u : State} {r : Requester} {a : Access} {data : List Word}

theorem exec_completed (hg : s.ex.grant = some r) (ha : s.request r = some a)
    (hdone : completeFor r (a.perform data s.mem).2 { s with mem := (a.perform data s.mem).1, ex.grant := none } = u)
    (hidle : u.powerIdle = true) (hresuming : u.ex.resuming = false) : exec (.accessComplete data) s = .next (settleDown u) := by
  refine answerNext_eq ?_
  rw [takeCompletion_granted hg ha, hdone, resumeProgress_idle hresuming, pfProgress_idle hidle]

end

/-! ### The start of a capture (R35) -/

section
variable {s : State} {l : Lane} {req : ArmRequest}

theorem captureOpening_page {p : Page} {rest : List Page} (n : Nat) (ha : s.cap.st = .armed req) (hl : req.lane = l)
    (hp : s.ex.traceList = p :: rest) (hb : s.regs.busFault = false) : captureOpening l n s =
      { s with
        cap.st := .capturing (CaptureRun.start req n (nextGen s.cap.number) s.history (TracePage.taken p 0))
        cap.number := nextGen s.cap.number
        ex.traceList := rest
        ex.table := s.ex.table.set p .filling } := by
  unfold captureOpening
  rw [ha]
  dsimp only
  rw [if_pos hl, hp]
  dsimp only
  rw [if_neg (by simp [hb])]

theorem captureOpening_noPage (n : Nat) (ha : s.cap.st = .armed req) (hl : req.lane = l)
    (h : s.ex.traceList = [] ∨ s.regs.busFault = true) :
    captureOpening l n s = { s with cap.st := .idle, cap.number := nextGen s.cap.number } := by
  unfold captureOpening
  rw [ha]
  dsimp only
  rw [if_pos hl]
  split
  · rfl
  · rename_i p rest hp
    exact if_pos (h.resolve_left (by simp [hp]))

theorem advanceTrace_idle (h : s.capturing = false) : advanceTrace s = s := by
  unfold State.capturing at h
  unfold advanceTrace
  split
  · rename_i hc
    rw [hc] at h
    cases h
  · rfl

theorem advanceTrace_busy {c : CaptureRun} {pg : TracePage} (hc : s.cap.st = .capturing c) (hp : c.page = some pg)
    (h : ¬(c.mayGoOn pg s.history = true ∧ s.regs.busFault = false ∧ c.broken = false)) : advanceTrace s = s := by
  unfold advanceTrace
  rw [hc]
  dsimp only
  rw [hp]
  exact if_neg h

/-- What an onset that opens a context leaves of the capture unit and the trace pages. -/
theorem onset_capture (hrun : s.run = .running ∨ s.run = .quiet ∨ s.run = .waking) (hidle : s.powerIdle = true)
    (hlane : l.val < s.site.laneCount) (hvacant : s.loops.get l = .vacant) (hopen : s.context l .openSlot = none) :
    ∃ t v, exec (.loopOnset l) s = .next t ∧ t.ex.traceList = (captureOpening l (nextSerial s.veh.serial) v).ex.traceList
      ∧ t.ex.table = (captureOpening l (nextSerial s.veh.serial) v).ex.table
      ∧ t.cap = (advanceTrace (captureOpening l (nextSerial s.veh.serial) v)).cap
      ∧ v.cap = s.cap ∧ v.ex = s.ex ∧ v.regs = s.regs ∧ v.history = s.history := by
  refine ⟨_, setContext l .openSlot (some (contextAtOnset (nextSerial s.veh.serial) s.clock))
    { s.sawOnset l with veh.serial := nextSerial s.veh.serial }, exec_loopOnset_opening hrun hidle hlane hvacant, ?_⟩
  rw [onsetContext_fresh (s := s.sawOnset l) s.clock hopen, told_woken]
  case hrun =>
    rw [captureOpening_run]
    exact hrun
  case hidle =>
    rw [State.powerIdle, captureOpening_ctrl]
    exact hidle
  refine ⟨?_, ?_, ?_, rfl, rfl, rfl, rfl⟩
  · rw [settleDown_ex_traceList]
    rfl
  · rw [settleDown_ex_table]
    rfl
  · rw [settleDown_cap]
    exact advanceTrace_cap_congr rfl rfl rfl rfl

end

/-! ### Copying (R36) -/

section
variable {c : CaptureRun} {pg : TracePage} {s : State}

theorem mayGoOn_iff (h : History) : c.mayGoOn pg h = true ↔ pg.phase = .rest ∨ (∃ f k, pg.phase = .frame f k) ∧ c.pos < h.oldest := by
  unfold CaptureRun.mayGoOn
  cases pg.phase <;> simp

theorem catchUp_eq (h : History) : c.catchUp pg h =
    ({ c with pos := max c.pos h.oldest }, { pg with discontinuous := pg.discontinuous || decide (c.pos < h.oldest) }) := by
  unfold CaptureRun.catchUp
  by_cases hlt : c.pos < h.oldest
  · rw [if_pos hlt, max_eq_right hlt.le, decide_eq_true hlt, Bool.or_true]
  · rw [if_neg hlt, max_eq_left (Nat.not_lt.mp hlt), decide_eq_false hlt, Bool.or_false]

/-- The capture's next work once its position has caught up with the history. -/
theorem captureNext_eq (h : History) (lent : Bool) : c.next pg h lent =
    (let c1 : CaptureRun := { c with pos := max c.pos h.oldest }
     let pg1 : TracePage := { pg with discontinuous := pg.discontinuous || decide (c.pos < h.oldest) }
     match c.stop with
     | some (n, r) => if n ≤ c1.pos then { c1 with page := some (pg1.beginClose r) } else c1.copy pg1 h lent
     | none => c1.copy pg1 h lent) := by
  unfold CaptureRun.next
  rw [catchUp_eq] <;> cases c.stop <;> rfl

theorem captureNext_stop {n : Nat} {r : EndReason} (h : History) (lent : Bool) (hs : c.stop = some (n, r))
    (hn : n ≤ max c.pos h.oldest) : c.next pg h lent =
      { c with
        pos := max c.pos h.oldest
        page := some { pg with discontinuous := pg.discontinuous || decide (c.pos < h.oldest), phase := .header 0, reason := r } } := by
  rw [captureNext_eq, hs]
  exact if_pos hn

theorem captureNext_copy (h : History) (lent : Bool) (hs : ∀ n r, c.stop = some (n, r) → max c.pos h.oldest < n) :
    c.next pg h lent = CaptureRun.copy { c with pos := max c.pos h.oldest }
      { pg with discontinuous := pg.discontinuous || decide (c.pos < h.oldest) } h lent := by
  rw [captureNext_eq]
  cases hstop : c.stop with
  | none => rfl
  | some x => exact if_neg (Nat.not_le.mpr (hs x.1 x.2 hstop))

theorem copy_none {h : History} (lent : Bool) (hf : h.frame? c.pos = none) : c.copy pg h lent = { c with page := some pg } := by
  unfold CaptureRun.copy
  rw [hf]

theorem copy_some {h : History} {f : HistFrame} (lent : Bool) (hf : h.frame? c.pos = some f) : c.copy pg h lent =
    if pg.frames < 508 then { c with page := some { pg with phase := .frame f 0 } }
    else if lent then { c with page := some (pg.beginClose .none) }
    else { c with stop := some (c.pos, .truncated), page := some (pg.beginClose .truncated) } := by
  unfold CaptureRun.copy
  rw [hf]
  rfl

theorem advanceTrace_goes (hc : s.cap.st = .capturing c) (hp : c.page = some pg) (hb : s.regs.busFault = false)
    (hk : c.broken = false) (hfree : pg.phase = .rest ∨ (∃ f k, pg.phase = .frame f k) ∧ c.pos < s.history.oldest) :
    advanceTrace s = { s with cap.st := .capturing (c.next { pg with phase := .rest } s.history (!s.ex.traceList.isEmpty)) } := by
  unfold advanceTrace
  rw [hc]
  dsimp only
  rw [hp]
  exact if_pos ⟨(mayGoOn_iff _).mpr hfree, hb, hk⟩

end

/-! ### The trace writer's accesses -/

section
variable {c : CaptureRun} {pg : TracePage} {s : State}

theorem traceRequest_eq (hc : s.cap.st = .capturing c) (hp : c.page = some pg) : s.traceRequest = match pg.phase with
    | .takeEntry => some (.write (entryAddr s.regs.xbase pg.page) (fillingEntry roleTrace).words)
    | .rest => none
    | .frame f k => some (.write (pageWordAddr s.regs.xbase pg.page (8 + 2 * pg.frames + k)) [frameWord c.lane f k])
    | .header k => some (.write (pageWordAddr s.regs.xbase pg.page k) [toWord ((traceHeader c pg).getD k 0)])
    | .closeEntry => some (.write (entryAddr s.regs.xbase pg.page) (s.traceEntry c pg).words) := by
  unfold State.traceRequest
  rw [hc]
  dsimp only
  rw [hp] <;> rfl

theorem completeTrace_eq (hc : s.cap.st = .capturing c) (hp : c.page = some pg) : completeTrace s = match pg.phase with
    | .takeEntry => { s with cap.st := .capturing { c with page := some { pg with phase := .rest } } }
    | .rest => s
    | .frame f 0 => { s with cap.st := .capturing { c with page := some { pg with phase := .frame f 1 } } }
    | .frame f _ => { s with cap.st := .capturing (c.copied pg f) }
    | .header k =>
      { s with cap.st := .capturing { c with page := some { pg with phase := if k < 7 then .header (k + 1) else .closeEntry } } }
    | .closeEntry => traceClosed c pg s := by
  unfold completeTrace
  rw [hc]
  dsimp only
  rw [hp] <;> rfl

theorem exec_traceWrite {a : Nat} {ws : List Word} {u : State} (hg : s.ex.grant = some .traceWriter)
    (ha : s.traceRequest = some (.write a ws))
    (hdone : completeTrace { s with mem := Memory.writeWords s.mem a ws, ex.grant := none } = u)
    (hidle : u.powerIdle = true) (hresuming : u.ex.resuming = false) : exec (.accessComplete []) s = .next (settleDown u) :=
  exec_completed (r := .traceWriter) (a := .write a ws) hg ha hdone hidle hresuming

/-- The words of a frame in a trace page (10, 10.5). -/
theorem frameWord_eq {l : Lane} {ch : Fin 4 → Chan} (hch : ∀ i, (ch i).val = 4 * l.val + i.val) (f : HistFrame) (k : Nat) :
    frameWord l f k =
      if k = 0 then BitVec.ofNat 32 ((f.samples.get (ch 0)).toNat + 65536 * (f.samples.get (ch 1)).toNat)
      else BitVec.ofNat 32 ((f.samples.get (ch 2)).toNat + 65536 * (f.samples.get (ch 3)).toNat) := by
  have hchan (i : Fin 4) : laneChan l i = ch i := Fin.ext (hch i).symm
  unfold frameWord toWord
  rw [hchan, hchan, hchan, hchan, put_eq, put_eq]
  norm_num

theorem frameOver_bit {l : Lane} {ch : Fin 4 → Chan} (hch : ∀ i, (ch i).val = 4 * l.val + i.val) (f : HistFrame) (i : Fin 4) :
    (frameOver l f).getLsbD i.val = f.overRange.get (ch i) := by
  have hchan (i : Fin 4) : laneChan l i = ch i := Fin.ext (hch i).symm
  have hmap : ((indices 4).map fun k => b2n (f.overRange.get (laneChan l k)))
      = ((indices 4).map fun k => f.overRange.get (laneChan l k)).map b2n := by
    rw [List.map_map]
    rfl
  rw [frameOver, BitVec.getLsbD_ofNat, hmap, testBit_packFields, decide_eq_true i.isLt, Bool.true_and, ← hchan]
  fin_cases i <;> rfl

/-- The header words of a trace page (10, 10.5). -/
theorem traceHeader_eq (c : CaptureRun) (pg : TracePage) : traceHeader c pg =
    (let ticks := pg.ticks.getD (0, 0)
     [ c.number + 65536 * pg.seq, c.serial, ticks.1 % 4294967296, ticks.2 % 4294967296, pg.frames + 65536 * pg.pre,
       c.lane.val + 1 + 16 * flagOf pg.discontinuous + 256 * pg.overRange.toNat + 65536 * pg.reason.code,
       ticks.1 / 4294967296 % 65536 + 65536 * (ticks.2 / 4294967296 % 65536), 0 ]) := by
  unfold traceHeader
  cases pg.ticks <;> simp only [put_eq] <;> norm_num [tickLow, tickHigh, b2n, flagOf]

theorem reasonCode_eq (r : EndReason) : r.code = match r with
    | .none => 0 | .close => 1 | .limit => 2 | .truncated => 3 | .cancelled => 4 | .halted => 5 | .restart => 6
    | .powerFail => 7 | .busFault => 8 := by
  cases r <;> rfl

theorem traceEntry_eq (s : State) (c : CaptureRun) (pg : TracePage) : s.traceEntry c pg =
    { state := 4, role := 2,
      flags := (if pg.frames = 508 then 0x02 else 0)
        ||| (match pg.reason with | .restart => 0x08 | .powerFail => 0x10 | _ => 0) ||| (if c.broken then 0x04 ||| c.noted else 0)
      used := 8 + 2 * pg.frames, closure := BitVec.ofNat 32 (s.ex.closures + 1), first := 0, count := BitVec.ofNat 32 pg.frames } := by
  have hfull : flagWhen (decide (pg.frames = traceMax)) dirFull = if pg.frames = 508 then 0x02 else 0 := by
    unfold flagWhen
    simp only [decide_eq_true_eq]
    rfl
  have hreason : pg.reason.dirFlag = match pg.reason with | .restart => 0x08 | .powerFail => 0x10 | _ => 0 := by
    cases pg.reason <;> rfl
  unfold State.traceEntry
  rw [hfull, hreason]
  rfl

theorem copied_eq (c : CaptureRun) (pg : TracePage) (f : HistFrame) : c.copied pg f =
    { c with
      pos := c.pos + 1
      written := c.written + 1
      stop := if c.stop = none ∧ c.maxFrames ≤ c.written + 1 then some (c.pos + 1, .limit) else c.stop
      page := some
        { pg with
          frames := pg.frames + 1
          pre := if f.num < c.opened then pg.pre + 1 else pg.pre
          ticks := some ((pg.ticks.getD (f.tick, f.tick)).1, f.tick)
          discontinuous := pg.discontinuous || (decide (c.written ≠ 0) && decide (f.finding ≠ .inSequence))
          overRange := pg.overRange ||| frameOver c.lane f
          phase := .rest } } := by
  have hpre : pg.pre + b2n (decide (f.num < c.opened)) = if f.num < c.opened then pg.pre + 1 else pg.pre := by
    by_cases h : f.num < c.opened <;> simp [h, b2n]
  have hticks : (match pg.ticks with | some (t, _) => some (t, f.tick) | none => some (f.tick, f.tick))
      = some ((pg.ticks.getD (f.tick, f.tick)).1, f.tick) := by
    cases pg.ticks <;> rfl
  have hstop : (if c.stop.isNone ∧ c.maxFrames ≤ c.written + 1 then some (c.pos + 1, EndReason.limit) else c.stop)
      = if c.stop = none ∧ c.maxFrames ≤ c.written + 1 then some (c.pos + 1, .limit) else c.stop := by
    simp only [Option.isNone_iff_eq_none]
  rw [← hpre, ← hticks, ← hstop]
  rfl

/-- The close of a page ends the capture, or after NONE goes on in the next page (R36, R37). -/
theorem traceClosed_ends (h : pg.reason ≠ .none ∨ s.ex.traceList = []) :
    traceClosed c pg s = { pageClosed pg.page s with cap.st := .idle } := by
  unfold traceClosed
  dsimp only
  split
  · rename_i hr
    rw [show (pageClosed pg.page s).ex.traceList = [] from h.resolve_left fun hne => hne hr]
  · rfl

theorem traceClosed_goes {p : Page} {rest : List Page} (hr : pg.reason = .none) (hlist : s.ex.traceList = p :: rest) :
    traceClosed c pg s =
      { pageClosed pg.page s with
        cap.st := .capturing { c with page := some (TracePage.taken p (pg.seq + 1)) }
        ex.traceList := rest
        ex.table := (s.ex.table.set pg.page .notMine).set p .filling } := by
  unfold traceClosed
  dsimp only
  rw [if_pos hr, show (pageClosed pg.page s).ex.traceList = p :: rest from hlist]
  rfl

end

/-! ### The end by the vehicle's close (R37, R38) -/

section
variable {s : State} {c : CaptureRun} {n : Nat}

theorem captureClosed_other (hc : s.cap.st = .capturing c) (h : c.serial ≠ n) : captureClosed n s = s := by
  unfold captureClosed
  rw [hc]
  exact if_neg h

theorem captureClosed_noted (hc : s.cap.st = .capturing c) (h : c.serial = n) (hf : s.regs.busFault = true ∨ c.broken = true) :
    captureClosed n s = { s with cap.st := .capturing { c with faultEnd := some (c.faultEnd.getD .close) } } := by
  unfold captureClosed
  rw [hc]
  exact (if_pos h).trans (if_pos (by rw [Bool.or_eq_true]; exact hf))

theorem captureClosed_open (hc : s.cap.st = .capturing c) (h : c.serial = n) (hb : s.regs.busFault = false) (hk : c.broken = false) :
    captureClosed n s = if c.stop.isNone then { s with cap.st := .capturing { c with stop := some (s.history.next, .close) } } else s := by
  unfold captureClosed
  rw [hc]
  exact (if_pos h).trans (if_neg (by rw [hb, hk]; decide))

end

/-- Settles O45: start, copying, the accesses by phase, and the end. -/
theorem captureCopiesFrames : Obligations.CaptureCopiesFrames := by
  unfold Obligations.CaptureCopiesFrames
  intro fresh
  refine ⟨fun l req s hrun hidle hlane hvacant hopen ha hl => ⟨fun p rest hp hb => ?_, fun h => ?_⟩,
    fun c pg s hc hp hb hk => ⟨fun hnot => ?_, fun n r hfree hs hn => ?_, fun hfree hs => ⟨fun hf => ?_, fun f hf => ⟨fun h => ?_,
      fun h hne => ?_, fun h hnil => ?_⟩⟩⟩,
    fun c pg s hc hp hidle hres hg => ⟨fun f k ch hph hch => ⟨fun h0 => ?_, fun h1 => ?_⟩, fun hph => ?_, fun k hph => ?_,
      fun hph => ⟨fun h => ?_, fun p rest hr hlist => ?_⟩⟩,
    fun n s => ⟨captureClosed_idle, fun c hc => ⟨captureClosed_other hc, fun hn hb hk => ⟨fun hs => ?_, fun hs => ?_⟩,
      captureClosed_noted hc⟩⟩, fun s => ⟨fun hb => ?_, fun h => ?_⟩⟩
  · obtain ⟨t, v, hexec, hlist, htable, hcap, hv1, hv2, hv3, hv4⟩ := onset_capture hrun hidle hlane hvacant hopen
    have hopening := captureOpening_page (s := v) (l := l) (req := req) (p := p) (rest := rest) (nextSerial s.veh.serial)
      (by rw [hv1]; exact ha) hl (by rw [hv2]; exact hp) (by rw [hv3]; exact hb)
    rw [hopening] at hlist htable hcap
    refine ⟨t, hexec, hlist, by rw [htable, hv2], ?_⟩
    rw [advanceTrace_busy (c := CaptureRun.start req (nextSerial s.veh.serial) (nextGen v.cap.number) v.history (TracePage.taken p 0))
      (pg := TracePage.taken p 0) rfl rfl (by rw [mayGoOn_iff]; simp [TracePage.taken])] at hcap
    rw [hcap, hv1, hv4, CaptureRun.start, hl]
    rfl
  · obtain ⟨t, v, hexec, hlist, htable, hcap, hv1, hv2, hv3, hv4⟩ := onset_capture hrun hidle hlane hvacant hopen
    have hopening := captureOpening_noPage (s := v) (l := l) (req := req) (nextSerial s.veh.serial)
      (by rw [hv1]; exact ha) hl (by rw [hv2, hv3]; exact h)
    rw [hopening] at hlist htable hcap
    refine ⟨t, hexec, by rw [hlist, hv2], by rw [htable, hv2], ?_⟩
    rw [advanceTrace_idle rfl] at hcap
    rw [hcap, hv1]
    rfl
  · exact advanceTrace_busy hc hp fun e => hnot ((mayGoOn_iff s.history).mp e.1)
  · rw [advanceTrace_goes hc hp hb hk hfree, captureNext_stop _ _ hs hn, hs]
    rfl
  · rw [advanceTrace_goes hc hp hb hk hfree, captureNext_copy _ _ hs, copy_none (c := { c with pos := max c.pos s.history.oldest }) (h := s.history) _ hf]
    rfl
  · rw [advanceTrace_goes hc hp hb hk hfree, captureNext_copy _ _ hs, copy_some (c := { c with pos := max c.pos s.history.oldest }) (h := s.history) _ hf]
    dsimp only
    rw [if_pos h]
    rfl
  · rw [advanceTrace_goes hc hp hb hk hfree, captureNext_copy _ _ hs, copy_some (c := { c with pos := max c.pos s.history.oldest }) (h := s.history) _ hf]
    dsimp only
    rw [if_neg (Nat.not_lt.mpr h), if_pos (by simpa using hne)]
    rfl
  · rw [advanceTrace_goes hc hp hb hk hfree, captureNext_copy _ _ hs, copy_some (c := { c with pos := max c.pos s.history.oldest }) (h := s.history) _ hf]
    dsimp only
    rw [if_neg (Nat.not_lt.mpr h), if_neg (by simpa using hnil)]
    rfl
  · subst h0
    refine exec_traceWrite hg (a := pageWordAddr s.regs.xbase pg.page (8 + 2 * pg.frames + 0)) (ws := [frameWord c.lane f 0]) ?_ ?_ hidle hres
    · rw [traceRequest_eq hc hp, hph]
      rfl
    · rw [completeTrace_eq (by exact hc) hp, hph, frameWord_eq hch]
      rfl
  · subst h1
    refine ⟨pg.overRange ||| frameOver c.lane f, fun i => by rw [BitVec.getLsbD_or, frameOver_bit hch], ?_⟩
    refine exec_traceWrite hg (a := pageWordAddr s.regs.xbase pg.page (8 + 2 * pg.frames + 1)) (ws := [frameWord c.lane f 1]) ?_ ?_ hidle hres
    · rw [traceRequest_eq hc hp, hph]
      rfl
    · rw [completeTrace_eq (by exact hc) hp, hph, frameWord_eq hch]
      have hcopied : c.copied pg f =
          { c with
            pos := c.pos + 1
            written := c.written + 1
            stop := if c.stop = none ∧ c.maxFrames ≤ c.written + 1 then some (c.pos + 1, .limit) else c.stop
            page := some
              { pg with
                frames := pg.frames + 1
                pre := if f.num < c.opened then pg.pre + 1 else pg.pre
                ticks := some ((pg.ticks.getD (f.tick, f.tick)).1, f.tick)
                discontinuous := pg.discontinuous || (decide (c.written ≠ 0) && decide (f.finding ≠ .inSequence))
                overRange := pg.overRange ||| frameOver c.lane f
                phase := .rest } } := copied_eq ..
      rw [← hcopied]
      rfl
  · refine exec_traceWrite hg (a := entryAddr s.regs.xbase pg.page) (ws := (fillingEntry roleTrace).words) ?_ ?_ hidle hres
    · rw [traceRequest_eq hc hp, hph]
    · rw [completeTrace_eq (by exact hc) hp, hph]
      rfl
  · refine exec_traceWrite hg (a := pageWordAddr s.regs.xbase pg.page k) (ws := [toWord ((traceHeader c pg).getD k 0)]) ?_ ?_ hidle hres
    · rw [traceRequest_eq hc hp, hph]
    · rw [completeTrace_eq (by exact hc) hp, hph, traceHeader_eq, reasonCode_eq]
      rfl
  · refine exec_traceWrite hg (a := entryAddr s.regs.xbase pg.page) (ws := (s.traceEntry c pg).words) ?_ ?_ hidle hres
    · rw [traceRequest_eq hc hp, hph]
    · rw [completeTrace_eq (by exact hc) hp, hph, traceEntry_eq]
      exact traceClosed_ends h
  · refine exec_traceWrite hg (a := entryAddr s.regs.xbase pg.page) (ws := (s.traceEntry c pg).words) ?_ ?_ hidle hres
    · rw [traceRequest_eq hc hp, hph]
    · rw [completeTrace_eq (by exact hc) hp, hph, traceEntry_eq]
      exact traceClosed_goes hr hlist
  · rw [captureClosed_open hc hn hb hk, hs]
    rfl
  · rw [captureClosed_open hc hn hb hk, if_neg (by simpa using hs)]
  · unfold advanceTrace
    split
    · split
      · rfl
      · exact if_neg (by simp [hb])
    · rfl
  · unfold advanceTrace
    split
    · rename_i c hc
      split
      · rfl
      · rename_i pg hp
        exact if_neg (by simp [h c pg hc hp])
    · rfl

end Sys2Proof.Machine
end

section
/-!
PROOFS. The exchange's own events: sweep, flush, page takes and handovers (R151, R152, R155, R156, R158, R165).
-/

namespace Sys2Proof.Machine

section
variable {s : State}

/-- The indices of a table stand in rising order. -/
theorem indices_sorted (n : Nat) : (indices n).Pairwise (· < ·) := by
  induction n with
  | zero => exact List.Pairwise.nil
  | succ n ih =>
    refine List.pairwise_cons.mpr ⟨fun a ha => ?_, ?_⟩
    · obtain ⟨b, _, rfl⟩ := List.mem_map.mp ha
      exact Fin.succ_pos b
    · exact ih.map Fin.succ fun _ _ h => Fin.succ_lt_succ_iff.mpr h

/-- The entry a sweep reads next is the first of those held NOT_MINE from its place on. -/
theorem nextSwept_eq {i : Nat} {p : Page} (hi : i ≤ p.val) (hp : s.ex.table.get p = .notMine)
    (hfirst : ∀ q : Page, i ≤ q.val → q.val < p.val → s.ex.table.get q ≠ .notMine) : s.nextSwept i = some p := by
  obtain ⟨pre, post, hsplit⟩ := List.append_of_mem (mem_indices 64 p)
  unfold State.nextSwept
  rw [hsplit]
  refine find_first (fun q hq hd => ?_) (by simp [hi, hp])
  have hsorted := indices_sorted 64
  rw [hsplit] at hsorted
  have hlt : q < p := (List.pairwise_append.mp hsorted).2.2 q hq p (by simp)
  rw [Bool.and_eq_true, decide_eq_true_eq, decide_eq_true_eq] at hd
  exact hfirst q hd.1 hlt hd.2

theorem nextSwept_none {i : Nat} (h : ∀ p : Page, i ≤ p.val → s.ex.table.get p ≠ .notMine) : s.nextSwept i = none := by
  refine List.find?_eq_none.mpr fun p _ hd => ?_
  rw [Bool.and_eq_true, decide_eq_true_eq, decide_eq_true_eq] at hd
  exact h p hd.1 hd.2

/-! ### The sweeper at rest -/

theorem advanceSweeper_sweeping {i : Nat} (hi : s.ex.sweepAt = some i) (hw : s.ex.work = none) (hfree : s.exchangeFree = true) :
    advanceSweeper s =
      match s.nextSwept i with
      | some p => if s.ex.handovers.isEmpty then { s with ex.work := some (.readEntry p false), ex.sweepAt := some (p.val + 1) } else s
      | none => { s with ex.sweepAt := none, ex.sweepTimer := some (0, msTicks s.ex.sweepMs) } := by
  unfold advanceSweeper
  rw [hi, hw]
  exact if_pos hfree

theorem advanceSweeper_reads {i : Nat} {p : Page} (hi : s.ex.sweepAt = some i) (hw : s.ex.work = none) (hfree : s.exchangeFree = true)
    (hn : s.nextSwept i = some p) : advanceSweeper s =
      if s.ex.handovers.isEmpty then { s with ex.work := some (.readEntry p false), ex.sweepAt := some (p.val + 1) } else s := by
  refine (advanceSweeper_sweeping hi hw hfree).trans ?_
  split
  · rename_i q hq
    cases hn.symm.trans hq
    rfl
  · rename_i hq
    cases hn.symm.trans hq

theorem advanceSweeper_ends {i : Nat} (hi : s.ex.sweepAt = some i) (hw : s.ex.work = none) (hfree : s.exchangeFree = true)
    (hn : s.nextSwept i = none) :
    advanceSweeper s = { s with ex.sweepAt := none, ex.sweepTimer := some (0, msTicks s.ex.sweepMs) } := by
  refine (advanceSweeper_sweeping hi hw hfree).trans ?_
  split
  · rename_i q hq
    cases hn.symm.trans hq
  · rfl

theorem advanceSweeper_rest (h : s.ex.sweepAt = none ∨ s.ex.work ≠ none ∨ s.exchangeFree = false) : advanceSweeper s = s := by
  unfold advanceSweeper
  split
  · rename_i i hi hw
    refine if_neg fun hfree => ?_
    rcases h with h | h | h
    · cases h.symm.trans hi
    · exact h hw
    · cases h.symm.trans hfree
  · rfl

/-! ### The sweep and flush timers -/

theorem exec_sweep {n period : Nat} (ht : s.ex.sweepTimer = some (n, period)) (hfree : s.exchangeFree = true) :
    exec .sweep s = answerNext (if period ≤ n then startSweep s else s) := by
  show execSweep s = _
  unfold execSweep
  rw [ht]
  exact congrArg answerNext (if_congr (and_iff_right hfree) rfl rfl)

theorem exec_flushTimeout {p : ResultPage} {n limit : Nat} (hp : s.rw.page = some p) (hf : p.flush = some (n, limit)) :
    exec .flushTimeout s =
      answerNext (if limit ≤ n then closeResultPage dirFlushed { s with rw.page := some { p with flush := none } } else s) := by
  show execFlushTimeout s = _
  unfold execFlushTimeout
  rw [hp]
  dsimp only
  rw [hf]

/-- A close asked of a page: noted during a bus fault, else asked for where none was. -/
theorem closeResultPage_page {p : ResultPage} (f : BitVec 6) (hp : s.rw.page = some p) :
    closeResultPage f s = { s with rw.page := some (p.askClose s.regs.busFault s.ex.resuming f) } := by
  unfold closeResultPage
  rw [hp]
  rfl

theorem askClose_fault {p : ResultPage} (resuming : Bool) (f : BitVec 6) :
    p.askClose true resuming f = { p with noted := p.noted ||| f } := rfl

theorem askClose_first {p : ResultPage} (resuming : Bool) (f : BitVec 6) (h : p.closeWith = none) :
    p.askClose false resuming f = { p with closeWith := some f } := by
  unfold ResultPage.askClose
  rw [h]
  rfl

theorem askClose_again {p : ResultPage} {g : BitVec 6} (resuming : Bool) (f : BitVec 6) (h : p.closeWith = some g) :
    p.askClose false resuming f = { p with closeWith := some (if resuming then g ||| f else g) } := by
  unfold ResultPage.askClose
  rw [h]
  cases resuming
  · show p = _
    cases p
    cases h
    rfl
  · rfl

/-! ### Takes and handovers -/

theorem exec_takeResultPage (hfree : s.exchangeFree = true) (hq : s.rw.queue ≠ []) (hp : s.rw.page = none) :
    exec .takeResultPage s = .next (settleDown (takeResultHead s)) :=
  answerNext_eq (if_pos ⟨hfree, hq, by rw [hp]; rfl⟩)

theorem exec_takeOrderPage (hfree : s.exchangeFree = true) (ht : s.ex.taken = none) (hrun : s.run ≠ .draining) :
    exec .takeOrderPage s = .next (settleDown (takeOrderHead s)) :=
  answerNext_eq (if_pos ⟨hfree, by rw [ht]; rfl, hrun⟩)

theorem exec_pendingHandover (hfree : s.exchangeFree = true) (hw : s.ex.work = none) :
    exec .pendingHandover s = .next (settleDown (pendingHandover s)) :=
  answerNext_eq (if_pos ⟨hfree, by rw [hw]; rfl⟩)

theorem pendingHandover_cons {p : Page} {rest : List Page} (h : s.ex.handovers = p :: rest) : pendingHandover s =
    if s.ex.table.get p = .notMine then { s with ex.work := some (.readEntry p true) }
    else countStray { s with ex.handovers := rest } := by
  unfold pendingHandover
  rw [h]

end

/-- Settles O39: the timers, the takes and handovers, then the sweeper at rest. -/
theorem pageEvents : Obligations.PageEvents := by
  refine ⟨fun n period s hfree ht => ?_, fun p n limit s hp hf => ?_, fun p rest s hfree hq hp hl => ?_,
    fun p e rest s hfree ht hrun hl => ?_, fun p rest s hfree hw hh => ?_,
    fun i s => ⟨fun p hi hp hfirst => ?_, fun hnone => ?_⟩, fun s => advanceSweeper_rest⟩
  · rw [exec_sweep ht hfree]
    exact ⟨fun h => answerNext_eq (if_pos h), fun h => answerNext_eq (if_neg (Nat.not_le.mpr h))⟩
  · rw [exec_flushTimeout hp hf]
    refine ⟨fun h hb hc => answerNext_eq ((if_pos h).trans ?_), fun h hb => answerNext_eq ((if_pos h).trans ?_),
      fun f h hb hc => answerNext_eq ((if_pos h).trans ?_), fun h => answerNext_eq (if_neg (Nat.not_le.mpr h))⟩ <;>
      refine (closeResultPage_page _ rfl).trans ?_ <;> dsimp only <;> rw [hb]
    · rw [askClose_first (p := { p with flush := none }) _ _ hc]
      rfl
    · rfl
    · rw [askClose_again (p := { p with flush := none }) _ _ hc]
      rfl
  · rw [exec_takeResultPage hfree hq hp, takeResultHead, hl]
    rfl
  · rw [exec_takeOrderPage hfree ht hrun, takeOrderHead, hl]
  · rw [exec_pendingHandover hfree hw, pendingHandover_cons hh]
    refine ⟨fun h => by rw [if_pos h], fun h => ?_⟩
    rw [if_neg h, countStray, satInc_bound]
  · have hn := nextSwept_eq hi hp hfirst
    refine ⟨hn, fun hat hw hfree => ?_⟩
    rw [advanceSweeper_reads hat hw hfree hn]
    exact ⟨fun h => if_pos (by rw [h]; rfl), fun h => if_neg (by simpa using h)⟩
  · have hn := nextSwept_none hnone
    exact ⟨hn, fun hat hw hfree => advanceSweeper_ends hat hw hfree hn⟩

end Sys2Proof.Machine
end

section
/-!
PROOFS. What a completed access of the sweeper and of the Record Writer brings about, and what the writer does next
(R151, R152, R155 to R157, R160, R177, R182; 10, 10.3).
-/

namespace Sys2Proof.Machine

/-! ### The fields of a directory entry (10, 10.3) -/

theorem field_eq (w : Word) (lo width : Nat) : field w lo width = w.toNat / 2 ^ lo % 2 ^ width := by
  rw [field, Nat.shiftRight_eq_div_pow]

/-- The first word of an entry within its fields, as a number. -/
theorem entryWord_toNat {st role used : Nat} {flags : BitVec 6} (hst : st < 16) (hrole : role < 16) (hused : used < 2048) :
    (toWord (st + put 4 role + put 8 flags.toNat + put 16 used)).toNat = st + 16 * role + 256 * flags.toNat + 65536 * used := by
  have hflags := flags.isLt
  simp only [put_eq, toWord, BitVec.toNat_ofNat]
  norm_num at hflags ⊢
  omega

theorem dirEntry_ofWords_words (e : DirEntry) (hst : e.state < 16) (hrole : e.role < 16) (hused : e.used < 2048) :
    DirEntry.ofWords e.words = e := by
  obtain ⟨st, role, flags, used, closure, first, count⟩ := e
  have hflags : flags.toNat < 64 := flags.isLt
  have hw := entryWord_toNat (flags := flags) hst hrole hused
  dsimp only at hst hrole hused
  simp only [DirEntry.words, DirEntry.ofWords, List.getD_cons_zero, List.getD_cons_succ, field_eq, hw, DirEntry.mk.injEq,
    and_true]
  norm_num
  refine ⟨by omega, by omega, ?_, by omega⟩
  rw [show (st + 16 * role + 256 * flags.toNat + 65536 * used) / 256 % 64 = flags.toNat by omega]
  exact BitVec.ofNat_toNat ..

/-- The entry that four words of memory hold. -/
theorem ofWords_readWords (m : List Host.Cell) (a : Nat) :
    DirEntry.ofWords (Memory.readWords m a 4) =
      { state := (Memory.readWord m a).toNat % 16, role := (Memory.readWord m a).toNat / 16 % 16,
        flags := BitVec.ofNat 6 ((Memory.readWord m a).toNat / 256 % 64), used := (Memory.readWord m a).toNat / 65536 % 2048,
        closure := Memory.readWord m (a + 4), first := Memory.readWord m (a + 8), count := Memory.readWord m (a + 12) } := by
  simp only [Memory.readWords, DirEntry.ofWords, List.getD_cons_zero, List.getD_cons_succ, field_eq]
  norm_num

/-! ### The sweeper -/

section
variable {s : State} {p : Page} {e : DirEntry} {h : Bool}

/-- An entry read is handled: its page goes to a list, is refused, or is passed by. -/
theorem takeEntryRead_result (hs : e.state = 1) (hr : e.role = 1) : takeEntryRead p h e s =
    { s with
      ex.work := none, ex.handovers := s.ex.handled p h, ex.resultList := s.ex.resultList ++ [p],
      ex.table := s.ex.table.set p .queuedResult } :=
  if_pos ⟨hs, hr⟩

theorem takeEntryRead_trace (hs : e.state = 1) (hr : e.role = 2) : takeEntryRead p h e s =
    { s with
      ex.work := none, ex.handovers := s.ex.handled p h, ex.traceList := s.ex.traceList ++ [p],
      ex.table := s.ex.table.set p .queuedTrace } :=
  (if_neg (by rw [hr]; rintro ⟨_, h⟩; cases h)).trans (if_pos ⟨hs, hr⟩)

theorem takeEntryRead_order (hs : e.state = 2) (hr : e.role = 3) : takeEntryRead p h e s =
    { s with
      ex.work := none, ex.handovers := s.ex.handled p h, ex.orderList := s.ex.orderList ++ [(p, e)],
      ex.table := s.ex.table.set p .queuedOrder } :=
  (if_neg (by rw [hr]; rintro ⟨_, h⟩; cases h)).trans
    ((if_neg (by rw [hr]; rintro ⟨_, h⟩; cases h)).trans (if_pos ⟨hs, hr⟩))

theorem takeEntryRead_refused (hbad : e.state = 1 ∧ e.role ≠ 1 ∧ e.role ≠ 2 ∨ e.state = 2 ∧ e.role ≠ 3) :
    takeEntryRead p h e s = { s with ex.work := some (.refuse p e h) } := by
  unfold takeEntryRead dirGiven dirPosted roleResult roleTrace roleOrder
  rw [if_neg (by omega), if_neg (by omega), if_neg (by omega), if_pos (by omega)]

theorem takeEntryRead_passed (h1 : e.state ≠ 1) (h2 : e.state ≠ 2) : takeEntryRead p h e s =
    { s with
      ex.work := none, ex.handovers := s.ex.handled p h,
      ex.stray := if h then (if s.ex.stray < 4294967295 then s.ex.stray + 1 else 4294967295) else s.ex.stray } := by
  unfold takeEntryRead dirGiven dirPosted
  rw [if_neg (by omega), if_neg (by omega), if_neg (by omega), if_neg (by omega)]
  cases h
  · rfl
  · rw [← satInc_bound]
    rfl

/-- The entry granted is read and handled. -/
theorem exec_sweeperRead {data : List Word} {u : State} (hidle : s.powerIdle = true) (hres : s.ex.resuming = false)
    (hg : s.ex.grant = some .sweeper) (hw : s.ex.work = some (.readEntry p h))
    (hu : takeEntryRead p h (DirEntry.ofWords (Memory.readWords (Memory.writeWords s.mem (s.regs.xbase.toNat + 16 * p.val) (data.take 4))
        (s.regs.xbase.toNat + 16 * p.val) 4))
      { s with mem := Memory.writeWords s.mem (s.regs.xbase.toNat + 16 * p.val) (data.take 4), ex.grant := none } = u)
    (hpower : u.ctrl.power = s.ctrl.power) (hresuming : u.ex.resuming = s.ex.resuming) :
    exec (.accessComplete data) s = .next (settleDown u) := by
  refine exec_completed (r := .sweeper) (a := .read (entryAddr s.regs.xbase p) 4) hg ?_ ?_ ?_ (hresuming.trans hres)
  · show s.sweeperRequest = _
    unfold State.sweeperRequest
    rw [hw]
  · show completeSweeper _ _ = u
    unfold completeSweeper
    dsimp only
    rw [hw]
    exact hu
  · unfold State.powerIdle at hidle ⊢
    rw [hpower]
    exact hidle

end

/-! ### The Record Writer -/

section
variable {s : State} {p : ResultPage} {r : Rec} {rest : List Rec}

theorem exec_writerWrite {a : Nat} {ws : List Word} {u : State} (hg : s.ex.grant = some .recordWriter)
    (ha : s.writerRequest = some (.write a ws))
    (hdone : completeWriter { s with mem := Memory.writeWords s.mem a ws, ex.grant := none } = u)
    (hidle : u.powerIdle = true) (hresuming : u.ex.resuming = false) : exec (.accessComplete []) s = .next (settleDown u) :=
  exec_completed (r := .recordWriter) (a := .write a ws) hg ha hdone hidle hresuming

theorem writerRequest_record {k : Nat} (hp : s.rw.page = some p) (hph : p.phase = .record k) (hq : s.rw.queue = r :: rest) :
    s.writerRequest = some (.write (pageWordAddr s.regs.xbase p.page (p.used + k)) [r.words.getD k 0]) := by
  unfold State.writerRequest
  rw [hp]
  dsimp only
  rw [hph]
  dsimp only
  rw [hq]

theorem completeWriter_record {k : Nat} (hp : s.rw.page = some p) (hph : p.phase = .record k) (hq : s.rw.queue = r :: rest) :
    completeWriter s =
      if k + 1 < r.words.length then { s with rw.page := some { p with phase := .record (k + 1) } }
      else
        { s with
          rw.queue := rest, rw.pinned := false, rw.page := some (p.placed r s.ex.flushMs)
          ctrl.power := s.ctrl.power.map fun q => { q with placed := q.placed + 1 } } := by
  unfold completeWriter
  rw [hp]
  dsimp only
  rw [hph]
  dsimp only
  rw [hq]

theorem powerIdle_iff : s.powerIdle = true ↔ s.ctrl.power = none := Option.isNone_iff_eq_none

/-- No record is counted placed with no power-fail sequence in progress. -/
theorem ctrl_power_map (f : PowerSeq → PowerSeq) (h : s.ctrl.power = none) :
    { s.ctrl with power := s.ctrl.power.map f } = s.ctrl := by
  rw [show s.ctrl.power.map f = s.ctrl.power by rw [h]; rfl]

theorem writerRequest_takeEntry (hp : s.rw.page = some p) (hph : p.phase = .takeEntry) :
    s.writerRequest = some (.write (entryAddr s.regs.xbase p.page) (fillingEntry roleResult).words) := by
  unfold State.writerRequest
  rw [hp]
  dsimp only
  rw [hph]

theorem writerRequest_header {k : Nat} (hp : s.rw.page = some p) (hph : p.phase = .header k) :
    s.writerRequest = some (.write (pageWordAddr s.regs.xbase p.page k) [p.header.getD k 0]) := by
  unfold State.writerRequest
  rw [hp]
  dsimp only
  rw [hph]

theorem writerRequest_closeEntry (hp : s.rw.page = some p) (hph : p.phase = .closeEntry) :
    s.writerRequest = some (.write (entryAddr s.regs.xbase p.page) (s.resultEntry p).words) := by
  unfold State.writerRequest
  rw [hp]
  dsimp only
  rw [hph]

theorem completeWriter_takeEntry (hp : s.rw.page = some p) (hph : p.phase = .takeEntry) :
    completeWriter s = composeHeader p s := by
  unfold completeWriter
  rw [hp]
  dsimp only
  rw [hph]

theorem completeWriter_header {k : Nat} (hp : s.rw.page = some p) (hph : p.phase = .header k) :
    completeWriter s = { s with rw.page := some { p with phase := if k < 3 then .header (k + 1) else .rest } } := by
  unfold completeWriter
  rw [hp]
  dsimp only
  rw [hph]

theorem completeWriter_closeEntry (hp : s.rw.page = some p) (hph : p.phase = .closeEntry) :
    completeWriter s = raiseNoPage { pageClosed p.page s with rw.page := none } := by
  unfold completeWriter
  rw [hp]
  dsimp only
  rw [hph]

/-- The page header, its words taken at 32 bits. -/
theorem toWord_tickLow (t : Nat) : toWord (tickLow t) = BitVec.ofNat 32 t :=
  BitVec.eq_of_toNat_eq (by simp only [toWord, tickLow, BitVec.toNat_ofNat]; norm_num)

theorem placing_iff : s.placing = true ↔
    ∀ q, s.ctrl.power = some q → q.closing = false ∧ q.placed < 16 ∧ s.ex.taken = none ∧ s.capturing = false := by
  unfold State.placing
  cases hq : s.ctrl.power with
  | none => simp
  | some q => simp [Option.isNone_iff_eq_none]

theorem resultFits_iff : p.fits r = true ↔ p.used + r.words.length ≤ 1024 ∧ r.serial < p.first.getD r.serial + 1024 := by
  unfold ResultPage.fits pageWords
  rw [Bool.and_eq_true, decide_eq_true_eq, decide_eq_true_eq]
  exact and_congr_right fun _ => by omega

theorem advanceWriter_begins (hp : s.rw.page = some p) (hph : p.phase = .rest) (hb : s.regs.busFault = false)
    (hr : s.ex.resuming = false) (hc : p.closeWith = none) (hq : s.rw.queue = r :: rest) : advanceWriter s =
      if s.placing = false then s
      else if p.fits r then { s with rw.page := some { p with phase := .record 0 }, rw.pinned := true }
      else { s with rw.page := some { p with closeWith := some dirFull, phase := .closeEntry } } := by
  unfold advanceWriter
  rw [hp]
  refine (if_pos ⟨hph, hb, hr⟩).trans ((if_neg (by rw [hc]; decide)).trans ?_)
  rw [hq]

theorem advanceWriter_empty (hp : s.rw.page = some p) (hc : p.closeWith = none) (hq : s.rw.queue = []) :
    advanceWriter s = s := by
  unfold advanceWriter
  rw [hp]
  refine ite_eq_right_iff.mpr fun _ => (if_neg (by rw [hc]; decide)).trans ?_
  rw [hq]

/-- The CLOSED entry is written: the page is the host's, and NO_PAGE follows the records still queued. -/
theorem completeWriter_closes (hp : s.rw.page = some p) (hph : p.phase = .closeEntry) : completeWriter s =
    { s with
      ex.closures := s.ex.closures + 1
      regs.serial := s.nextClosure
      regs.pageClosed := true
      regs.noPage := s.regs.noPage || (!s.rw.queue.isEmpty && s.ex.resultList.isEmpty)
      ex.table := s.ex.table.set p.page .notMine
      rw.page := none } := by
  rw [completeWriter_closeEntry hp hph, raiseNoPage_eq]
  rfl

end

/-! ### The order reader's answer -/

theorem exec_readerWrite {s : State} {a : Nat} {ws : List Word} {u : State} (hg : s.ex.grant = some .orderReader)
    (ha : s.readerRequest = some (.write a ws))
    (hdone : completeReader [] { s with mem := Memory.writeWords s.mem a ws, ex.grant := none } = u)
    (hidle : u.powerIdle = true) (hresuming : u.ex.resuming = false) : exec (.accessComplete []) s = .next (settleDown u) :=
  exec_completed (r := .orderReader) (a := .write a ws) hg ha hdone hidle hresuming

theorem readerRequest_answer {s : State} {t : OrderPage} (ht : s.ex.taken = some t) (hph : t.phase = .answer) :
    s.readerRequest = some (.write (entryAddr s.regs.xbase t.page) t.answered.words) := by
  unfold State.readerRequest
  rw [ht]
  dsimp only
  rw [hph]

theorem completeReader_answer {s : State} {t : OrderPage} (ws : List Word) (ht : s.ex.taken = some t) (hph : t.phase = .answer) :
    completeReader ws s = releaseOrderPage t.page s := by
  unfold completeReader
  rw [ht]
  dsimp only
  rw [hph]

/-- Settles O40: the sweeper's accesses, the writer's accesses, the answer of an order page, the entry's words, and the
writer's next work. -/
theorem accessesComplete : Obligations.AccessesComplete := by
  refine ⟨fun data p h s hidle hres hg hw => ?_, fun p e h s hidle hres hg hw => ?_, fun p s hidle hres hg hp hph => ?_,
    fun p r rest k s hidle hres hg hp hph hq hk => ?_, fun p s hidle hres hg hp hph => ?_, fun t s hidle hres hg ht hph => ?_,
    dirEntry_ofWords_words, fun p k s hidle hres hg hp hph => ?_, fun p r rest k s hidle hres hg hp hph hq hk => ?_,
    fun s => ⟨advanceWriter_none, fun p hp h => ?_, fun p hp hph hb hr => ⟨fun f hc => ?_, fun hc hq => advanceWriter_empty hp hc hq,
      fun r rest hc hq => ?_⟩⟩⟩
  · intro a m w left done e
    have hread : DirEntry.ofWords (Memory.readWords m a 4) = e := ofWords_readWords m a
    refine ⟨fun hs hr => ?_, fun hs hr => ?_, fun hs hr => ?_, fun hbad => ?_, fun h1 h2 => ?_⟩
    · exact exec_sweeperRead hidle hres hg hw ((congrArg (takeEntryRead p h · _) hread).trans (takeEntryRead_result hs hr)) rfl rfl
    · exact exec_sweeperRead hidle hres hg hw ((congrArg (takeEntryRead p h · _) hread).trans (takeEntryRead_trace hs hr)) rfl rfl
    · exact exec_sweeperRead hidle hres hg hw ((congrArg (takeEntryRead p h · _) hread).trans (takeEntryRead_order hs hr)) rfl rfl
    · exact exec_sweeperRead hidle hres hg hw ((congrArg (takeEntryRead p h · _) hread).trans (takeEntryRead_refused hbad)) rfl rfl
    · exact exec_sweeperRead hidle hres hg hw ((congrArg (takeEntryRead p h · _) hread).trans (takeEntryRead_passed h1 h2)) rfl rfl
  · refine exec_completed (r := .sweeper) (a := .write (entryAddr s.regs.xbase p) (e.as dirRefused).words) hg ?_ ?_ hidle hres
    · show s.sweeperRequest = _
      unfold State.sweeperRequest
      rw [hw]
    · show completeSweeper _ _ = _
      unfold completeSweeper
      dsimp only
      rw [hw]
      rfl
  · refine exec_writerWrite hg (writerRequest_takeEntry hp hph) ((completeWriter_takeEntry (by exact hp) hph).trans ?_) hidle hres
    unfold composeHeader
    rw [toWord_tickLow]
    rfl
  · refine exec_writerWrite hg (writerRequest_record hp hph hq) ((completeWriter_record (by exact hp) hph (by exact hq)).trans ?_) hidle hres
    refine (if_neg (by omega)).trans ?_
    rw [ctrl_power_map _ (powerIdle_iff.mp hidle)]
    rfl
  · exact ⟨_, exec_writerWrite hg (writerRequest_closeEntry hp hph) (completeWriter_closes (by exact hp) hph) hidle hres,
      settleDown_ex_closures _, congrArg Regs.serial (settleDown_regs _), congrArg Regs.pageClosed (settleDown_regs _),
      settleDown_ex_table _, settleDown_page_none rfl, settleDown_rw_queue _, congrArg Regs.noPage (settleDown_regs _),
      settleDown_mem _, settleDown_run _, settleDown_cal _, settleDown_veh _⟩
  · exact exec_readerWrite hg (readerRequest_answer ht hph) (completeReader_answer [] (by exact ht) hph) hidle hres
  · exact exec_writerWrite hg (writerRequest_header hp hph) (completeWriter_header (by exact hp) hph) hidle hres
  · exact exec_writerWrite hg (writerRequest_record hp hph hq) ((completeWriter_record (by exact hp) hph (by exact hq)).trans (if_pos hk)) hidle hres
  · exact h.elim (advanceWriter_busy hp) advanceWriter_stopped
  · rw [advanceWriter_closing hp hb hr (by rw [hc]; rfl), if_pos hph]
  · intro fits
    have hbegins := advanceWriter_begins hp hph hb hr hc hq
    refine ⟨fun hplaces => ?_, fun hplaces hfits => ?_, fun hplaces hfits => ?_⟩
    · exact hbegins.trans (if_pos (Bool.eq_false_iff.mpr fun e => hplaces (placing_iff.mp e)))
    · exact hbegins.trans ((if_neg (by rw [placing_iff.mpr hplaces]; decide)).trans (if_pos (resultFits_iff.mpr hfits)))
    · exact hbegins.trans ((if_neg (by rw [placing_iff.mpr hplaces]; decide)).trans (if_neg fun e => hfits (resultFits_iff.mp e)))

end Sys2Proof.Machine
end

section
/-!
PROOFS. The order reader: refusing and taking a page, dispatching its orders and answering it (R158 to R161; 10, 10.6).
-/

namespace Sys2Proof.Machine

/-! ### The fields of an order's header (10, 10.6) -/

theorem headerLen_eq (w : Word) : headerLen w = w.toNat / 65536 % 2048 := by
  rw [headerLen, field_eq]
  norm_num

theorem headerKind_eq (w : Word) : field w 0 8 = w.toNat % 256 := by
  rw [field_eq]
  norm_num

theorem outcomeWord_eq (o : OrderOutcome) (detail : Nat) : outcomeWord o detail = BitVec.ofNat 32 (o.code + 65536 * detail) := by
  rw [outcomeWord, put_eq]
  rfl

section
variable {s : State} {t : OrderPage} {w : Word} {ws : List Word}

theorem refused_iff : t.refused w = true ↔ t.entry.used < 2 ∨ 1024 < t.entry.used ∨ w.toNat / 65536 % 2048 = 0 := by
  unfold OrderPage.refused pageWords
  rw [headerLen_eq, Bool.or_eq_true, Bool.or_eq_true, decide_eq_true_eq, decide_eq_true_eq, decide_eq_true_eq]

/-- What is said of the phase an order's header leads to: MALFORMED, ABANDONED, UNKNOWN_KIND, or the order's words. -/
theorem dispatch_cases {P : ReadPhase → Prop} (h : P (t.dispatch w)) :
    let len := w.toNat / 65536 % 2048
    (len < 2 ∨ t.entry.used < t.off + len → P (if t.off + 1 < t.entry.used then .outcome len .malformed 0 true else .answer))
    ∧ (2 ≤ len → t.off + len ≤ t.entry.used →
      (t.abandon = true → P (.outcome len .abandoned 0 false))
      ∧ (t.abandon = false → OrderKind.ofCode (w.toNat % 256) = none → P (.outcome len .unknownKind 0 false))
      ∧ (∀ k, t.abandon = false → OrderKind.ofCode (w.toNat % 256) = some k →
        P (if k.wanted len = 0 then .ready k len [] else .params k len (k.wanted len) []))) := by
  unfold OrderPage.dispatch at h
  rw [headerLen_eq, headerKind_eq] at h
  refine ⟨fun hbad => by rwa [if_pos hbad] at h, fun h2 hfits => ?_⟩
  dsimp only at h
  rw [if_neg (by omega)] at h
  refine ⟨fun ha => by rwa [if_pos ha] at h, fun ha hk => ?_, fun k ha hk => ?_⟩ <;>
  · rw [if_neg (by rw [ha]; decide), hk] at h
    exact h

/-! ### The reader's accesses -/

theorem setReader_taken (ph : ReadPhase) (ht : s.ex.taken = some t) :
    setReader ph s = { s with ex.taken := some { t with phase := ph } } := by
  unfold setReader
  rw [ht]
  rfl

theorem readerRequest_firstHeader (ht : s.ex.taken = some t) (hph : t.phase = .firstHeader) :
    s.readerRequest = some (.read (s.orderAddr t 0) 1) := by
  unfold State.readerRequest
  rw [ht]
  dsimp only
  rw [hph]

theorem readerRequest_refuse (ht : s.ex.taken = some t) (hph : t.phase = .refuse) :
    s.readerRequest = some (.write (entryAddr s.regs.xbase t.page) (t.entry.as dirRefused).words) := by
  unfold State.readerRequest
  rw [ht]
  dsimp only
  rw [hph]

theorem readerRequest_takeEntry (ht : s.ex.taken = some t) (hph : t.phase = .takeEntry w) :
    s.readerRequest = some (.write (entryAddr s.regs.xbase t.page) (t.entry.as dirTaken).words) := by
  unfold State.readerRequest
  rw [ht]
  dsimp only
  rw [hph]

theorem readerRequest_header (ht : s.ex.taken = some t) (hph : t.phase = .header) :
    s.readerRequest = some (.read (s.orderAddr t 0) 1) := by
  unfold State.readerRequest
  rw [ht]
  dsimp only
  rw [hph]

theorem readerRequest_params {k : OrderKind} {len want : Nat} (ht : s.ex.taken = some t) (hph : t.phase = .params k len want ws) :
    s.readerRequest = some (.read (s.orderAddr t (2 + ws.length)) 1) := by
  unfold State.readerRequest
  rw [ht]
  dsimp only
  rw [hph]

theorem readerRequest_loading {k : OrderKind} {len : Nat} (ht : s.ex.taken = some t) (hph : t.phase = .loading k len ws) :
    s.readerRequest = some (.read (s.orderAddr t (2 + ws.length)) 1) := by
  unfold State.readerRequest
  rw [ht]
  dsimp only
  rw [hph]

theorem readerRequest_outcome {len detail : Nat} {o : OrderOutcome} {final : Bool} (ht : s.ex.taken = some t)
    (hph : t.phase = .outcome len o detail final) : s.readerRequest = some (.write (s.orderAddr t 1) [outcomeWord o detail]) := by
  unfold State.readerRequest
  rw [ht]
  dsimp only
  rw [hph]

theorem completeReader_firstHeader (ht : s.ex.taken = some t) (hph : t.phase = .firstHeader) :
    completeReader ws s =
      { s with ex.taken := some { t with phase := if t.refused (ws.getD 0 0) then .refuse else .takeEntry (ws.getD 0 0) } } := by
  rw [← setReader_taken _ ht]
  unfold completeReader
  rw [ht]
  dsimp only
  rw [hph]

theorem completeReader_refuse (ht : s.ex.taken = some t) (hph : t.phase = .refuse) :
    completeReader ws s = releaseOrderPage t.page s := by
  unfold completeReader
  rw [ht]
  dsimp only
  rw [hph]

theorem completeReader_takeEntry (ht : s.ex.taken = some t) (hph : t.phase = .takeEntry w) :
    completeReader ws s = { s with ex.taken := some { t with phase := t.dispatch w } } := by
  rw [← setReader_taken _ ht]
  unfold completeReader
  rw [ht]
  dsimp only
  rw [hph]

theorem completeReader_header (ht : s.ex.taken = some t) (hph : t.phase = .header) :
    completeReader ws s = { s with ex.taken := some { t with phase := t.dispatch (ws.getD 0 0) } } := by
  rw [← setReader_taken _ ht]
  unfold completeReader
  rw [ht]
  dsimp only
  rw [hph]

theorem completeReader_params {k : OrderKind} {len want : Nat} {got : List Word} (ht : s.ex.taken = some t)
    (hph : t.phase = .params k len want got) : completeReader ws s =
      { s with
        ex.taken := some
          { t with
            phase :=
              if got.length + 1 < want then .params k len want (got ++ [ws.getD 0 0]) else .ready k len (got ++ [ws.getD 0 0]) } } := by
  rw [← setReader_taken _ ht]
  unfold completeReader
  rw [ht]
  dsimp only
  rw [hph]

theorem completeReader_loading {k : OrderKind} {len : Nat} {got : List Word} (ht : s.ex.taken = some t)
    (hph : t.phase = .loading k len got) : completeReader ws s =
      { gather k (ws.getD 0 0) s with
        ex.taken := some
          { t with
            phase :=
              if got.length + 1 < len - 2 then .loading k len (got ++ [ws.getD 0 0])
              else .loaded k len (got ++ [ws.getD 0 0]) } } := by
  rw [← setReader_taken _ ((gather_taken k _ s).trans ht)]
  unfold completeReader
  rw [ht]
  dsimp only
  rw [hph]

theorem completeReader_outcome {len detail : Nat} {o : OrderOutcome} {final : Bool} (ht : s.ex.taken = some t)
    (hph : t.phase = .outcome len o detail final) :
    completeReader ws s = { s with ex.taken := some (t.afterOutcome len final) } := by
  unfold completeReader
  rw [ht]
  dsimp only
  rw [hph]

/-- A word is read, and the reader goes on with it. -/
theorem exec_readerRead {a : Nat} {data : List Word} {u : State} (hg : s.ex.grant = some .orderReader)
    (ha : s.readerRequest = some (.read a 1))
    (hdone : completeReader [Memory.readWord (Memory.writeWords s.mem a (data.take 1)) a]
      { s with mem := Memory.writeWords s.mem a (data.take 1), ex.grant := none } = u)
    (hidle : u.powerIdle = true) (hresuming : u.ex.resuming = false) : exec (.accessComplete data) s = .next (settleDown u) :=
  exec_completed (r := .orderReader) (a := .read a 1) hg ha hdone hidle hresuming

/-- Words are written, whatever the bus returned, and the reader goes on. -/
theorem exec_readerWrote {a : Nat} {data : List Word} {u : State} (hg : s.ex.grant = some .orderReader)
    (ha : s.readerRequest = some (.write a ws))
    (hdone : completeReader [] { s with mem := Memory.writeWords s.mem a ws, ex.grant := none } = u)
    (hidle : u.powerIdle = true) (hresuming : u.ex.resuming = false) : exec (.accessComplete data) s = .next (settleDown u) :=
  exec_completed (r := .orderReader) (a := .write a ws) hg ha hdone hidle hresuming

end

/-- Settles O59: by the phase of the page being read. -/
theorem orderReader : Obligations.OrderReader := by
  intro data t s hidle hres hg ht word entry read got len goes dispatched
  refine ⟨fun hph => ?_, fun hph => ?_, fun w hph => ?_, fun hph => ?_, fun k n want ps hph => ?_, fun k n ps hph => ?_,
    fun n o detail final hph => ?_⟩
  · have hexec : goes (read 0) { t with phase := if t.refused (got 0) = true then .refuse else .takeEntry (got 0) } :=
      exec_readerRead hg (readerRequest_firstHeader ht hph) (completeReader_firstHeader (by exact ht) hph) hidle hres
    have hrefused : t.refused (got 0) = true ↔ t.entry.used < 2 ∨ 1024 < t.entry.used ∨ len (got 0) = 0 := refused_iff
    refine ⟨fun h => ?_, fun h2 hmax hlen => ?_⟩
    · rwa [if_pos (hrefused.mpr h)] at hexec
    · rwa [if_neg (by rw [hrefused]; omega)] at hexec
  · exact exec_readerWrote hg (readerRequest_refuse ht hph) (completeReader_refuse (by exact ht) hph) hidle hres
  · exact dispatch_cases (P := fun ph => goes _ { t with phase := ph })
      (exec_readerWrote hg (readerRequest_takeEntry ht hph) (completeReader_takeEntry (by exact ht) hph) hidle hres)
  · exact dispatch_cases (P := fun ph => goes _ { t with phase := ph })
      (exec_readerRead hg (readerRequest_header ht hph) (completeReader_header (by exact ht) hph) hidle hres)
  · exact exec_readerRead hg (readerRequest_params ht hph) (completeReader_params (by exact ht) hph) hidle hres
  · intro w x u
    have hdone := completeReader_loading (ws := [w]) (s := { s with mem := read (2 + ps.length), ex.grant := none }) ht hph
    refine ⟨fun hk => ?_, fun hk => ?_⟩
    · rw [gather, if_pos hk] at hdone
      exact exec_readerRead hg (readerRequest_loading ht hph) hdone hidle hres
    · rw [gather, if_neg hk] at hdone
      exact exec_readerRead hg (readerRequest_loading ht hph) hdone hidle hres
  · have hexec := exec_readerWrote (data := data) hg (readerRequest_outcome ht hph)
      (completeReader_outcome (by exact ht) hph) hidle hres
    rw [outcomeWord_eq] at hexec
    refine ⟨fun hfinal => ?_, fun hfinal => ?_⟩ <;> rw [hfinal] at hexec <;> exact hexec

end Sys2Proof.Machine
end

section
/-!
PROOFS. Orders that take effect at once, and the two reports (R105, R119, R123, R165, R180; 10, 10.4).
-/

namespace Sys2Proof.Machine

/-! ### Tables as lists -/

theorem indices_eq_finRange (n : Nat) : indices n = List.finRange n := by
  induction n with
  | zero => rfl
  | succ n ih => rw [indices, ih, List.finRange_succ]

theorem tab_items {n : Nat} {α : Type} (t : Tab n α) : t.items = (indices n).map t.get := by
  rw [indices_eq_finRange, ← List.ofFn_eq_map]
  refine List.ext_getElem (by rw [List.length_ofFn, t.len]) fun i h _ => ?_
  rw [List.getElem_ofFn]
  rfl

/-- Entry `i` of a list laid out in groups of `m`. -/
theorem groups_getD {α β : Type} {m : Nat} {f : α → List β} (hf : ∀ a, (f a).length = m) {l : List α} {i j : Nat} {a : α}
    (tail : List β) (d : β) (h : l[i]? = some a) (hj : j < m) : (l.flatMap f ++ tail).getD (m * i + j) d = (f a).getD j d := by
  induction l generalizing i with
  | nil => cases h
  | cons b rest ih =>
    rw [List.flatMap_cons, List.append_assoc]
    cases i with
    | zero =>
      obtain rfl := Option.some.inj h
      rw [Nat.mul_zero, Nat.zero_add, List.getD_append _ _ _ _ (by rw [hf]; exact hj)]
    | succ i =>
      rw [List.getD_append_right _ _ _ _ (by rw [hf, Nat.mul_succ]; omega), hf,
        show m * (i + 1) + j - m = m * i + j by rw [Nat.mul_succ]; omega]
      exact ih h

theorem groups_length {α β : Type} {m : Nat} {f : α → List β} (hf : ∀ a, (f a).length = m) (l : List α) :
    (l.flatMap f).length = m * l.length := by
  rw [List.length_flatMap, List.map_congr_left fun a _ => hf a, List.map_const', List.sum_replicate, smul_eq_mul, Nat.mul_comm]

/-! ### Words packed of equal fields -/

theorem packFields_cons (width v : Nat) (l : List Nat) :
    packFields width (v :: l) = v + 2 ^ width * packFields width l := by
  rw [packFields, put_eq]

/-- Fields packed from a table's entries, each at its place. -/
theorem packFields_indices (width : Nat) {n : Nat} (g : Fin n → Nat) :
    packFields width ((indices n).map g) = ((indices n).map fun i => g i * (2 ^ width) ^ i.val).sum := by
  induction n with
  | zero => rfl
  | succ n ih =>
    rw [indices, List.map_cons, List.map_cons, List.sum_cons, packFields_cons, List.map_map, List.map_map, ih (g ∘ Fin.succ),
      ← List.sum_map_mul_left]
    refine congrArg₂ (· + ·) ?_ (congrArg List.sum (List.map_congr_left fun i _ => ?_))
    · rw [Fin.val_zero, Nat.pow_zero, Nat.mul_one]
    · show 2 ^ width * (g i.succ * (2 ^ width) ^ i.val) = g i.succ * (2 ^ width) ^ (i.val + 1)
      ring

theorem indices16_split :
    indices 16 = (indices 10).map (Fin.castLE (by decide)) ++ (indices 6).map (Fin.natAdd 10) := by decide

theorem sum_zero_of_forall {α : Type} (l : List α) {f : α → Nat} (h : ∀ a, f a = 0) : (l.map f).sum = 0 := by
  rw [List.map_congr_left fun a _ => h a, List.map_const', List.sum_replicate, smul_zero]

/-- The states of the first ten channels, three bits each. -/
theorem packChannels_low (g : Chan → Nat) : packFields 3 (((indices 16).map g).take 10) =
    ((indices 16).map fun c => if c.val < 10 then g c * 8 ^ c.val else 0).sum := by
  rw [indices16_split, List.map_append, List.map_append, List.sum_append, List.map_map, List.map_map, List.map_map, List.map_map,
    List.take_left' (by rfl), packFields_indices, sum_zero_of_forall (indices 6),
    show (2 : Nat) ^ 3 = 8 from rfl]
  · exact (congrArg List.sum (List.map_congr_left fun i _ => (if_pos i.isLt).symm)).trans (Nat.add_zero _).symm
  · exact fun i => if_neg (by rw [Fin.natAdd]; dsimp only; omega)

/-- The states of the last six channels, three bits each. -/
theorem packChannels_high (g : Chan → Nat) : packFields 3 (((indices 16).map g).drop 10) =
    ((indices 16).map fun c => if c.val < 10 then 0 else g c * 8 ^ (c.val - 10)).sum := by
  rw [indices16_split, List.map_append, List.map_append, List.sum_append, List.map_map, List.map_map, List.map_map, List.map_map,
    List.drop_left' (by rfl), packFields_indices, sum_zero_of_forall (indices 10),
    show (2 : Nat) ^ 3 = 8 from rfl]
  · refine Eq.trans (congrArg List.sum (List.map_congr_left fun i _ => Eq.trans ?_ (if_neg (by rw [Fin.natAdd]; dsimp only; omega)).symm)) (Nat.zero_add _).symm
    rw [Fin.natAdd, Nat.add_sub_cancel_left]
    rfl
  · exact fun i => if_pos i.isLt

/-! ### A record that joins a queue with room -/

section
variable {s : State}

theorem createRecord_recorded (k : RecKind) (ws : List Nat) (h : s.rw.queue.length < 31) :
    createRecord k ws s = s.recorded (s.newRecord k ws) := by
  rw [createRecord_eq _ _ _ h, newRecord_eq]

/-- A word of a record made now, behind the first. -/
theorem newRecord_getD (k : RecKind) (w : Nat) (ws : List Nat) (i : Nat) :
    (s.newRecord k (w :: ws)).words.getD (i + 1) 0 = BitVec.ofNat 32 (ws.getD i 0) := by
  show (ws.map (BitVec.ofNat 32)).getD i 0 = _
  exact List.getD_map ws 0 (BitVec.ofNat 32)

theorem newRecord_head (k : RecKind) (w : Nat) (ws : List Nat) :
    (s.newRecord k (w :: ws)).words.getD 0 0 = BitVec.ofNat 32 (w + 4194304 * ((s.rw.created + 1) % 1024)) := rfl

theorem newRecord_length (k : RecKind) (ws : List Nat) : (s.newRecord k ws).words.length = ws.length := by
  cases ws with
  | nil => rfl
  | cons w rest => exact congrArg (· + 1) (List.length_map ..)

theorem b2n_eq (b : Bool) : b2n b = flagOf b := rfl

theorem ofNat_tickLow (n : Nat) : BitVec.ofNat 32 (tickLow n) = BitVec.ofNat 32 n := toWord_tickLow n

/-! ### The status record (R180) -/

theorem statusWords_eq (s : State) : statusWords s =
    [ 6 + 8 * s.run.code + 64 * (s.clock / 4294967296 % 65536),
      s.veh.vehicles, s.veh.axles, s.det.aborted, s.det.lost, s.rw.lostVehicle, s.rw.lostOther, s.ex.stray, s.link.gaps,
      s.trig.dropped, s.trig.discarded, s.cal.rejected,
      ((indices 16).map fun c => if c.val < 10 then (s.det.chans.get c).code * 8 ^ c.val else 0).sum
        + 1073741824 * flagOf s.cal.lock + 2147483648 * flagOf s.cal.frozen,
      ((indices 16).map fun c => if c.val < 10 then 0 else (s.det.chans.get c).code * 8 ^ (c.val - 10)).sum
        + 262144 * ((indices 6).map fun p => (s.temp.probes.get p).code * 4 ^ p.val).sum + 1073741824 * flagOf s.link.fault,
      s.cal.gen + 65536 * s.cls.gen,
      tickLow s.clock ] := by
  unfold statusWords
  dsimp only
  rw [tab_items, tab_items, List.map_map, List.map_map, packChannels_low, packChannels_high, packFields_indices]
  simp only [put_eq, b2n_eq]
  norm_num [tickHigh]

/-! ### The calibration snapshot (R123) -/

theorem cellWords_eq (c : Cell) : cellWords c = [c.kd + (if c.limit then 32768 else 0) + 65536 * c.count, c.sum] := by
  unfold cellWords
  rw [put_eq, put_eq]
  cases c.limit <;> rfl

end

section
variable {s : State}

/-- The words of the snapshot behind the first. -/
theorem snapshotWords_eq (s : State) : snapshotWords s =
    (4 + 8 * flagOf s.cal.lock + 16 * flagOf s.cal.frozen + 32 * ((indices 4).map fun l => flagOf (s.cal.enables.get l) * 2 ^ l.val).sum
      + 512 * s.cal.maxStep) ::
    tickLow s.clock :: (s.cal.gen + 65536 * s.cal.window) :: (s.cal.lower - 8192 + 65536 * (s.cal.upper - 16384)) ::
    (s.cal.cells.items.flatMap (fun l => l.items.flatMap cellWords) ++ s.cal.factors.items) := by
  unfold snapshotWords
  rw [tab_items s.cal.enables, List.map_map, packFields_indices]
  simp only [put_eq, b2n_eq, List.cons_append, List.nil_append]
  norm_num
  rfl

theorem laneWords_length (l : Tab 8 Cell) : (l.items.flatMap cellWords).length = 16 := by
  rw [groups_length (m := 2) fun _ => rfl, l.len]

theorem cellsWords_length (t : Tab 4 (Tab 8 Cell)) : (t.items.flatMap fun l => l.items.flatMap cellWords).length = 64 := by
  rw [groups_length laneWords_length, t.len]

/-- The two words of a cell in the snapshot. -/
theorem snapshot_cell (l : Lane) (b : Fin 8) {j : Nat} (hj : j < 2) (tail : List Nat) :
    (s.cal.cells.items.flatMap (fun l => l.items.flatMap cellWords) ++ tail).getD (16 * l.val + 2 * b.val + j) 0 =
      (cellWords ((s.cal.cells.get l).get b)).getD j 0 := by
  rw [Nat.add_assoc, groups_getD laneWords_length _ _ (tab_getElem? _ l) (by omega), ← List.append_nil (List.flatMap _ _),
    groups_getD (m := 2) (fun _ => rfl) _ _ (tab_getElem? _ b) hj]

end

/-- Settles O43: the orders in turn, and the words of the two reports. -/
theorem plainOrdersDone : Obligations.PlainOrdersDone := by
  refine fun len ps t s => ⟨fun h => h.run_eq (h.answer rfl _ _),
    fun h => h.run_eq (h.answer (by rfl) _ _), fun h => h.run_eq (h.answer (by rfl) _ _), fun h => h.run_eq (h.answer (by rfl) _ _), fun h hroom => ?_, fun h hroom => ?_⟩
  · have hlen : (statusWords s).length = 16 := by rw [statusWords_eq]; rfl
    refine ⟨s.newRecord .other (statusWords s), rfl, rfl, (newRecord_length ..).trans hlen, fun k n hk => ?_, ?_,
      h.run_eq ((h.answer ?_ _ _).trans (congrArg (State.answered · t len (.done, 0)) (createRecord_recorded _ _ hroom)))⟩
    · rw [statusWords_eq]
      simp only [List.mem_cons, Prod.mk.injEq, List.not_mem_nil, or_false] at hk
      rcases hk with h | h | h | h | h | h | h | h | h | h | h | ⟨rfl, rfl⟩
      iterate 11 · obtain ⟨rfl, rfl⟩ := h; simp only [newRecord_getD, List.getD_cons_succ, List.getD_cons_zero]
      simp only [newRecord_getD, List.getD_cons_succ, List.getD_cons_zero, ofNat_tickLow]
    · intro stamp run chan probe
      have hrun : run = s.run.code := by
        dsimp only [run]
        cases s.run <;> rfl
      have hchan (c : Chan) : chan c = (s.det.chans.get c).code := by
        dsimp only [chan]
        cases s.det.chans.get c <;> rfl
      have hprobe (p : Probe) : probe p = (s.temp.probes.get p).code := by
        dsimp only [probe]
        cases s.temp.probes.get p <;> rfl
      rw [statusWords_eq, hrun]
      simp only [hchan, hprobe]
      simp only [newRecord_head, newRecord_getD, List.getD_cons_succ, List.getD_cons_zero, stamp, and_self]
    · rw [createRecord_recorded _ _ hroom]
      rfl
  · refine ⟨s.newRecord .other (snapshotWords s), rfl, rfl, ?_, fun l b => ?_, fun c => ?_, ?_, ?_, ?_, ?_,
      h.run_eq ((h.answer ?_ _ _).trans (congrArg (State.answered · t len (.done, 0)) (createRecord_recorded _ _ hroom)))⟩
    · rw [newRecord_length, snapshotWords_eq]
      simp only [List.length_cons, List.length_append, cellsWords_length, s.cal.factors.len]
    · intro c
      rw [snapshotWords_eq, show 4 + 16 * l.val + 2 * b.val = ((16 * l.val + 2 * b.val + 0) + 3) + 1 by omega,
        show 5 + 16 * l.val + 2 * b.val = (16 * l.val + 2 * b.val + 1 + 3) + 1 by omega, newRecord_getD, newRecord_getD]
      have hfirst := snapshot_cell (s := s) l b (j := 0) (by decide) s.cal.factors.items
      have hsecond := snapshot_cell (s := s) l b (j := 1) (by decide) s.cal.factors.items
      rw [Nat.add_zero] at hfirst
      simp only [List.getD_cons_succ]
      rw [hfirst, hsecond, cellWords_eq]
      exact ⟨rfl, rfl⟩
    · rw [snapshotWords_eq, show 68 + c.val = (64 + c.val + 3) + 1 by omega, newRecord_getD]
      simp only [List.getD_cons_succ]
      rw [List.getD_append_right _ _ _ _ (by rw [cellsWords_length]; omega), cellsWords_length, Nat.add_sub_cancel_left,
        List.getD_eq_getElem?_getD, tab_getElem?]
      rfl
    · rw [snapshotWords_eq, newRecord_head]
    · rw [snapshotWords_eq, newRecord_getD, List.getD_cons_zero, ofNat_tickLow]
    · rw [snapshotWords_eq, newRecord_getD, List.getD_cons_succ, List.getD_cons_zero]
    · rw [snapshotWords_eq, newRecord_getD, List.getD_cons_succ, List.getD_cons_succ, List.getD_cons_zero]
    · rw [createRecord_recorded _ _ hroom]
      rfl

end Sys2Proof.Machine
end

section
/-!
PROOFS. Orders that store parameters and the site geometry (R3, R4, R9, R32, R63, R108, R111, R165, R176).
-/

namespace Sys2Proof.Machine

theorem le_bring (lo hi n : Nat) : lo ≤ bring lo hi n := le_max_left ..

theorem bring_le {lo hi : Nat} (h : lo ≤ hi) (n : Nat) : bring lo hi n ≤ hi := max_le h (min_le_left ..)

section
variable {k : OrderKind} {len : Nat} {ps : List Word} {t : OrderPage} {s u : State}

/-- The order held is answered with the outcome of its fields, given as position, range and value. -/
theorem OrderHeld.answerRanges (h : OrderHeld k len ps t s) (hu : u.ex.taken = s.ex.taken) (fs : List (Nat × Nat × Nat × Nat))
    (hfs : ∀ f ∈ fs, f.2.1 ≤ f.2.2.1) :
    answerClamped (firstClamped (fs.map fun f => clamped f.1 f.2.1 f.2.2.1 f.2.2.2)) u =
      u.answered t len (rangeAnswer (fs.map fun f => (f.1, within f.2.1 f.2.2.1 f.2.2.2))) := by
  unfold answerClamped
  rw [h.answer hu, clampOutcome_map fs hfs]

theorem ifReady_ready (f : State → State) (h : s.run = .ready) : ifReady f s = f s := if_pos h

theorem ifReady_other (f : State → State) (h : s.run ≠ .ready) : ifReady f s = fixOutcome .wrongState 0 s := if_neg h

theorem ifUnlocked_clear (f : State → State) (h : s.cal.lock = false) : ifUnlocked f s = f s := if_neg (by rw [h]; decide)

theorem ifUnlocked_set (f : State → State) (h : s.cal.lock = true) : ifUnlocked f s = fixOutcome .locked 0 s := if_pos h

theorem ifLength_ok {k : OrderKind} {len : Nat} (f : State → State) (h : k.lengthOk len = true) : ifLength k len f s = f s :=
  if_pos h

theorem ifLength_wrong {k : OrderKind} {len : Nat} (f : State → State) (h : k.lengthOk len = false) :
    ifLength k len f s = fixOutcome .invalid 0 s :=
  if_neg (by rw [h]; decide)

theorem ifFields_one_good {pos : Nat} {ok : Bool} (f : State → State) (h : ok = true) : ifFields (firstBad [(pos, ok)]) f s = f s := by
  rw [h]
  rfl

theorem ifFields_one_bad {pos : Nat} {ok : Bool} (f : State → State) (h : ok = false) :
    ifFields (firstBad [(pos, ok)]) f s = fixOutcome .invalid pos s := by
  rw [h]
  rfl

/-! ### SET EXCHANGE and SET QUIET (R165, R176) -/

theorem setExchange_stores {a b : Word} (h : OrderHeld .setExchange 4 [a, b] t s) : orderSetExchange 4 [a, b] s =
    ({ s with ex.sweepMs := bring 50 5000 a.toNat, ex.flushMs := bring 100 60000 b.toNat } : State).answered t 4
      (rangeAnswer [(2, within 50 5000 a.toNat), (3, within 100 60000 b.toNat)]) := by
  rw [← clamp_eq_bring (by decide), ← clamp_eq_bring (by decide)]
  exact h.answerRanges (u := { s with ex.sweepMs := clamp 50 5000 a.toNat, ex.flushMs := clamp 100 60000 b.toNat }) rfl
    [(2, 50, 5000, a.toNat), (3, 100, 60000, b.toNat)] (by simp)

/-- The settings of SET QUIET stored. -/
def State.quietStored (s : State) (on : Bool) (delay count : Nat) : State :=
  { s with ctrl.quietEnable := on, ctrl.idleDelay := bring 1 3600 delay, ctrl.settleCount := bring 16 1024 count }

theorem setQuiet_good {a b c : Word} {on : Bool} (h : OrderHeld .setQuiet 5 [a, b, c] t s) (ha : a.toNat ≤ 1)
    (hon : decide (a.toNat = 1) = on)
    (hu : (if on = true then s.quietStored on b.toNat c.toNat else wake (s.quietStored on b.toNat c.toNat)) = u)
    (hex : u.ex.taken = s.ex.taken) :
    orderSetQuiet 5 [a, b, c] s = u.answered t 5 (rangeAnswer [(3, within 1 3600 b.toNat), (4, within 16 1024 c.toNat)]) := by
  rw [← hu, State.quietStored, ← hon, ← clamp_eq_bring (by decide), ← clamp_eq_bring (by decide)] at *
  refine ((ifLength_ok _ rfl).trans (ifFields_one_good _ (decide_eq_true ha))).trans ?_
  exact h.answerRanges hex [(3, 1, 3600, b.toNat), (4, 16, 1024, c.toNat)] (by simp)

theorem setQuiet_bad {a b c : Word} (h : OrderHeld .setQuiet 5 [a, b, c] t s) (ha : 2 ≤ a.toNat) :
    orderSetQuiet 5 [a, b, c] s = s.answered t 5 (.invalid, 2) :=
  ((ifLength_ok _ rfl).trans (ifFields_one_bad _ (decide_eq_false (by show ¬a.toNat ≤ 1; omega)))).trans (h.answer rfl _ _)

/-! ### SET DETECTION, SET WEIGHING and SET ASSEMBLY (R32, R63, R108) -/

theorem setDetection_stores {a b c d e : Word} (h : OrderHeld .setDetection 7 [a, b, c, d, e] t s) (hrun : s.run = .ready) :
    let on := bring 50 20000 a.toNat
    orderSetDetection 7 [a, b, c, d, e] s =
      ({ s with
         det.par := { onThr := on, offThr := bring 25 on b.toNat, onCount := bring 1 16 c.toNat, offCount := bring 1 64 d.toNat,
                      maxLen := bring 1024 65535 e.toNat } } : State).answered t 7
        (rangeAnswer [(2, within 50 20000 a.toNat), (3, within 25 on b.toNat), (4, within 1 16 c.toNat), (5, within 1 64 d.toNat),
          (6, within 1024 65535 e.toNat)]) := by
  intro on
  have hon : 25 ≤ on := Nat.le_trans (by decide) (le_bring ..)
  have hclamp : clamp 50 20000 a.toNat = on := clamp_eq_bring (by decide) _
  refine ((ifReady_ready _ hrun).trans (ifLength_ok _ rfl)).trans ?_
  rw [← clamp_eq_bring hon, ← clamp_eq_bring (show 1 ≤ 16 by decide), ← clamp_eq_bring (show 1 ≤ 64 by decide),
    ← clamp_eq_bring (show 1024 ≤ 65535 by decide), ← hclamp]
  exact h.answerRanges (by rfl)
    [(2, 50, 20000, a.toNat), (3, 25, clamp 50 20000 a.toNat, b.toNat), (4, 1, 16, c.toNat), (5, 1, 64, d.toNat),
      (6, 1024, 65535, e.toNat)] (by simpa [hclamp] using hon)

theorem setWeighing_stores {a b c d e f : Word} (h : OrderHeld .setWeighing 8 [a, b, c, d, e, f] t s) (hrun : s.run = .ready) :
    let vmin := bring 1000 10000 a.toNat
    let vmax := bring 20000 55556 b.toNat
    let low := bring vmin vmax c.toNat
    orderSetWeighing 8 [a, b, c, d, e, f] s =
      ({ s with
         axle.par := { vmin := vmin, vmax := vmax, bandLow := low, bandHigh := bring low vmax d.toNat,
                       tolerance := bring 5 50 e.toNat, window := bring 8 512 f.toNat } } : State).answered t 8
        (rangeAnswer [(2, within 1000 10000 a.toNat), (3, within 20000 55556 b.toNat), (4, within vmin vmax c.toNat),
          (5, within low vmax d.toNat), (6, within 5 50 e.toNat), (7, within 8 512 f.toNat)]) := by
  intro vmin vmax low
  have hle : vmin ≤ vmax := (bring_le (by decide) _).trans (Nat.le_trans (by decide) (le_bring 20000 55556 b.toNat))
  have hlow : low ≤ vmax := bring_le hle _
  have hmin : clamp 1000 10000 a.toNat = vmin := clamp_eq_bring (by decide) _
  have hmax : clamp 20000 55556 b.toNat = vmax := clamp_eq_bring (by decide) _
  have hband : clamp vmin vmax c.toNat = low := clamp_eq_bring hle _
  refine ((ifReady_ready _ hrun).trans (ifLength_ok _ rfl)).trans ?_
  rw [← clamp_eq_bring hlow, ← clamp_eq_bring (show 5 ≤ 50 by decide), ← clamp_eq_bring (show 8 ≤ 512 by decide), ← hband,
    ← hmin, ← hmax]
  exact h.answerRanges (by rfl)
    [(2, 1000, 10000, a.toNat), (3, 20000, 55556, b.toNat),
      (4, clamp 1000 10000 a.toNat, clamp 20000 55556 b.toNat, c.toNat),
      (5, clamp (clamp 1000 10000 a.toNat) (clamp 20000 55556 b.toNat) c.toNat, clamp 20000 55556 b.toNat, d.toNat),
      (6, 5, 50, e.toNat), (7, 8, 512, f.toNat)] (by simpa [hmin, hmax, hband] using ⟨hle, hlow⟩)

theorem setAssembly_stores {a : Word} (h : OrderHeld .setAssembly 3 [a] t s) (hrun : s.run = .ready) :
    orderSetAssembly 3 [a] s =
      ({ s with veh.splitDist := bring 6000 30000 a.toNat } : State).answered t 3 (rangeAnswer [(2, within 6000 30000 a.toNat)]) := by
  refine ((ifReady_ready _ hrun).trans (ifLength_ok _ rfl)).trans ?_
  rw [← clamp_eq_bring (by decide)]
  exact h.answerRanges (by rfl) [(2, 6000, 30000, a.toNat)] (by simp)

/-! ### SET SITE GEOMETRY (R3, R9, R111) -/

/-- The distance fields of a lane as position, range and value. -/
def geomRanges (ps : List Word) (l : Nat) : List (Nat × Nat × Nat × Nat) :=
  [(3 + 3 * l, 2000, 5000, (ps.getD (1 + 3 * l + 0) 0).toNat), (4 + 3 * l, 1000, 10000, (ps.getD (1 + 3 * l + 1) 0).toNat),
    (5 + 3 * l, 1000, 3000, (ps.getD (1 + 3 * l + 2) 0).toNat)]

theorem geomRanges_le {f : Nat × Nat × Nat × Nat} {l : Nat} (h : f ∈ geomRanges ps l) : f.2.1 ≤ f.2.2.1 := by
  simp only [geomRanges, List.mem_cons, List.not_mem_nil, or_false] at h
  rcases h with rfl | rfl | rfl <;> simp only <;> decide

theorem geomOf_eq (l : Nat) : geomOf ps l =
    { d := bring 2000 5000 (ps.getD (1 + 3 * l + 0) 0).toNat, dOA := bring 1000 10000 (ps.getD (1 + 3 * l + 1) 0).toNat,
      lp := bring 1000 3000 (ps.getD (1 + 3 * l + 2) 0).toNat } := by
  unfold geomOf paramNat
  rw [clamp_eq_bring (by decide), clamp_eq_bring (by decide), clamp_eq_bring (by decide), param_eq, param_eq, param_eq,
    show 3 + 3 * l - 2 = 1 + 3 * l + 0 by omega, show 4 + 3 * l - 2 = 1 + 3 * l + 1 by omega,
    show 5 + 3 * l - 2 = 1 + 3 * l + 2 by omega]

theorem setSiteGeometry_good (h : OrderHeld .setSiteGeometry 15 ps t s) (hrun : s.run = .ready) (hlock : s.cal.lock = false)
    (h1 : 1 ≤ (ps.getD 0 0).toNat) (h4 : (ps.getD 0 0).toNat ≤ 4) : orderSetSiteGeometry 15 ps s =
      (raiseGeneration (retrackLoops s.site.laneCount
        { s with site.laneCount := (ps.getD 0 0).toNat, site.geom := Tab.ofNat 4 (geomOf ps) })).answered t 15
        (rangeAnswer ((List.range 4).flatMap fun l => (geomRanges ps l).map fun f => (f.1, within f.2.1 f.2.2.1 f.2.2.2))) := by
  refine ((ifReady_ready _ hrun).trans ((ifUnlocked_clear _ hlock).trans ((ifLength_ok _ rfl).trans
    (ifFields_one_good _ (by rw [Bool.and_eq_true]; exact ⟨decide_eq_true h1, decide_eq_true h4⟩))))).trans ?_
  exact h.answerRanges (by rfl) ((List.range 4).flatMap (geomRanges ps))
    (fun f hf => by
      obtain ⟨l, _, hl⟩ := List.mem_flatMap.mp hf
      exact geomRanges_le hl)

end

/-- Settles O44: each order as its lemma gives it. -/
theorem parameterOrdersStore : Obligations.ParameterOrdersStore := by
  refine ⟨fun a b c d e f t s => ⟨fun h => h.run_eq (setExchange_stores h), fun h => ?_, fun h hrun => h.run_eq (setDetection_stores h hrun),
    fun h hrun => h.run_eq (setWeighing_stores h hrun), fun h hrun => h.run_eq (setAssembly_stores h hrun), fun h hrun => ?_⟩,
    fun ps t s h hlen hrun hlock => ?_⟩
  · intro ans stored
    refine ⟨fun ha => ?_, fun ha hq => ?_, fun ha hq => ?_, fun ha => h.run_eq (setQuiet_bad h ha)⟩
    · exact h.run_eq (setQuiet_good (on := true) h (by omega) (decide_eq_true ha) (if_pos rfl) rfl)
    · exact h.run_eq (setQuiet_good (on := false) h (by omega) (decide_eq_false (by omega)) (wake_of_ne hq) rfl)
    · exact h.run_eq (setQuiet_good (on := false) h (by omega) (decide_eq_false (by omega))
        (wake_of_quiet hq (by exact powerIdle_iff.mpr h.2.2.1)) rfl)
  · exact ⟨Tab.ofNat 16 fun i => bitAt (param [a] 2) i, fun n => Tab.get_ofNat _ _,
      h.run_eq (((ifReady_ready _ hrun).trans (ifLength_ok _ rfl)).trans (h.answer (by rfl) _ _))⟩
  · intro n at_
    refine ⟨fun h1 h4 => ⟨_, _, fun l => ?_, fun l => ?_, h.run_eq (setSiteGeometry_good h hrun hlock h1 h4)⟩, fun hn => ?_⟩
    · rw [Tab.get_ofNat]
      exact geomOf_eq l.val
    · exact (Tab.get_ofNat ..).trans (dif_pos l.isLt)
    · refine h.run_eq (((ifReady_ready _ hrun).trans ((ifUnlocked_clear _ hlock).trans ((ifLength_ok _ rfl).trans
        (ifFields_one_bad _ ?_)))).trans (h.answer rfl _ _))
      rw [Bool.and_eq_false_iff]
      exact hn.imp (fun h0 => decide_eq_false (by show ¬1 ≤ n; omega)) fun h4 => decide_eq_false (by show ¬n ≤ 4; omega)

end Sys2Proof.Machine
end

section
/-!
PROOFS. What closes and cascades leave of the capture unit, and how a capture is stopped (R34, R37, R38).
-/

namespace Sys2Proof.Machine

/-! ### Closes and cascades beside a capture whose end is taken -/

/-- Some set arms captures. -/
def State.mayArm (s : State) : Prop := ∃ n, (s.trig.sets.get n).dfn.captureAct ≠ none

/-- Of the capture unit, where a capture in progress has its end taken, only IDLE changes, and only to ARMED by a set that
arms captures. -/
structure CaptureStays (s t : State) : Prop where
  busFault : t.regs.busFault = s.regs.busFault
  settings : t.settings = s.settings
  number : t.cap.number = s.cap.number
  cap : s.CaptureSettled → t.cap = s.cap ∨ s.cap.st = .idle ∧ s.mayArm ∧ ∃ req, t.cap.st = .armed req

theorem mayArm_of_settings {s t : State} (h : t.settings = s.settings) (ht : t.mayArm) : s.mayArm := by
  obtain ⟨n, hn⟩ := ht
  refine ⟨n, ?_⟩
  have hsets := congrArg (fun x : Settings => (x.triggers.get n).captureAct) h
  simp only [State.settings, Tab.get_map] at hsets
  rwa [← hsets]

section
variable {s t u : State}

theorem CaptureStays.refl (s : State) : CaptureStays s s := ⟨rfl, rfl, rfl, fun _ => .inl rfl⟩

theorem CaptureStays.of_cap (hcap : t.cap = s.cap) (hb : t.regs.busFault = s.regs.busFault) (hset : t.settings = s.settings) :
    CaptureStays s t := ⟨hb, hset, congrArg CaptureUnit.number hcap, fun _ => .inl hcap⟩

theorem CaptureStays.settled (h : CaptureStays s t) (hs : s.CaptureSettled) : t.CaptureSettled := by
  intro c hc
  rw [h.busFault]
  obtain hsame | ⟨_, _, req, hreq⟩ := h.cap hs
  · exact hs c (by rw [← hsame]; exact hc)
  · rw [hreq] at hc
    cases hc

theorem CaptureStays.trans (h : CaptureStays s t) (k : CaptureStays t u) : CaptureStays s u := by
  refine ⟨k.busFault.trans h.busFault, k.settings.trans h.settings, k.number.trans h.number, fun hs => ?_⟩
  obtain hsame | ⟨hidle, harm, req, hreq⟩ := h.cap hs
  · obtain hsame' | ⟨hidle', harm', req', hreq'⟩ := k.cap (h.settled hs)
    · exact .inl (hsame'.trans hsame)
    · exact .inr ⟨hsame ▸ hidle', mayArm_of_settings h.settings harm', req', hreq'⟩
  · obtain hsame' | ⟨hidle', _⟩ := k.cap (h.settled hs)
    · exact .inr ⟨hidle, harm, req, by rw [hsame', hreq]⟩
    · rw [hreq] at hidle'
      cases hidle'

theorem CaptureStays.foldl {α : Type} (f : State → α → State) (h : ∀ u a, CaptureStays u (f u a)) (l : List α) (s : State) :
    CaptureStays s (l.foldl f s) := by
  induction l generalizing s with
  | nil => exact .refl s
  | cons a rest ih => exact (h s a).trans (ih _)

theorem CaptureStays.foldl_fst {α β : Type} (f : State × β → α → State × β) (h : ∀ a x, CaptureStays a.1 (f a x).1) (l : List α)
    (a : State × β) : CaptureStays a.1 (l.foldl f a).1 := by
  induction l generalizing a with
  | nil => exact .refl _
  | cons x rest ih => exact (h a x).trans (ih _)

/-! ### Cascades -/

variable {e : TrigEvent} {n : SetId}

theorem createRecord_stays (k : RecKind) (ws : List Nat) (s : State) : CaptureStays s (createRecord k ws s) := by
  obtain ⟨rw, noPage, waiting, h⟩ := createRecord_frame k ws s
  refine .of_cap ?_ ?_ (createRecord_settings ..) <;> rw [h]

theorem firePulse_stays (e : TrigEvent) (n : SetId) (s : State) : CaptureStays s (firePulse e n s).1 := by
  have hsame : (firePulse e n s).1.cap = s.cap ∧ (firePulse e n s).1.regs = s.regs := by
    unfold firePulse placePulse
    repeat' first | exact ⟨rfl, rfl⟩ | split
  exact .of_cap hsame.1 (by rw [hsame.2]) (firePulse_settings ..)

theorem fireTimer_stays (n : SetId) (s : State) : CaptureStays s (fireTimer n s) := by
  have hsame : (fireTimer n s).cap = s.cap ∧ (fireTimer n s).regs = s.regs := by
    unfold fireTimer
    split <;> exact ⟨rfl, rfl⟩
  exact .of_cap hsame.1 (by rw [hsame.2]) (fireTimer_settings ..)

/-- A capture action arms an IDLE unit and leaves any other. -/
theorem fireCapture_stays (e : TrigEvent) (n : SetId) (s : State) : CaptureStays s (fireCapture e n s).1 := by
  have hset := fireCapture_settings e n s
  revert hset
  unfold fireCapture
  split
  · exact fun _ => .refl s
  · rename_i a ha
    intro hset
    revert hset
    unfold applyCaptureAction
    split
    · exact fun _ => .refl s
    · intro hset
      by_cases hidle : s.cap.st = .idle
      · dsimp only at hset ⊢
        rw [armCapture_idle hidle] at hset ⊢
        exact ⟨rfl, hset, rfl, fun _ => .inr ⟨hidle, ⟨n, by rw [ha]; exact fun h => nomatch h⟩, _, rfl⟩⟩
      · dsimp only at hset ⊢
        rw [armCapture_busy hidle]
        exact .refl s

theorem fireReport_stays (e : TrigEvent) (n : SetId) (a : Bool) (r : PulseResult) (b : Bool) (s : State) :
    CaptureStays s (fireReport e n a r b s) := by
  unfold fireReport
  split
  · exact createRecord_stays ..
  · exact .refl s

theorem fireSteps_stays (e : TrigEvent) (n : SetId) (a : Bool) (s : State) : CaptureStays s (fireSteps e n a s) := by
  have hlast (d : TriggerDef) (u : State) :
      CaptureStays u (applyMasks d.enableMask d.disableMask (if d.once then setEnabled n false u else u)) := by
    refine .of_cap ?_ ?_ ?_
    · split <;> rfl
    · split <;> rfl
    · rw [applyMasks_settings]
      split
      · exact setEnabled_settings ..
      · rfl
  unfold fireSteps
  exact ((((firePulse_stays e n s).trans (fireTimer_stays n _)).trans (fireCapture_stays e n _)).trans
    (fireReport_stays e n a _ _ _)).trans (hlast _ _)

theorem fire_stays (e : TrigEvent) (depth : Nat) (n : SetId) (act : Bool) (a : State × BitVec 8) :
    CaptureStays a.1 (fire e depth n act a).1 := by
  induction depth generalizing n act a with
  | zero => exact .refl _
  | succ depth ih =>
    rw [fire]
    refine (fireSteps_stays e n act a.1).trans (CaptureStays.foldl_fst _ (fun b m => ?_) (indices 8) (fireSteps e n act a.1, _))
    split
    · exact ih m true b
    · exact .refl _

theorem runCascade_stays (e : TrigEvent) (s : State) : CaptureStays s (runCascade e s).1 := by
  unfold runCascade
  split
  · refine CaptureStays.foldl_fst _ (fun b m => ?_) (indices 8) (s, 0)
    split
    · exact fire_stays ..
    · exact .refl _
  · exact .refl s

/-! ### Closes -/

theorem driftUpdate_stays (l : Lane) (b : Fin 8) (c : Cell) (s : State) : CaptureStays s (driftUpdate l b c s) := by
  have hcell (d : Cell) : CaptureStays s (setCell l b d s) := .of_cap rfl rfl (setCell_settings ..)
  unfold driftUpdate
  extract_lets _ _ _ _ _ _ _ _ src d s1 s2
  have h2 : CaptureStays s s2 := (hcell d).trans (createRecord_stays .other _ s1)
  split
  · exact h2.trans (runCascade_stays ..)
  · exact h2

theorem takeOffer_stays (o : Offer) (s : State) : CaptureStays s (takeOffer o s) := by
  have hreject : CaptureStays s (rejectOffer s) := .of_cap rfl rfl (rejectOffer_settings s)
  unfold takeOffer
  split
  · dsimp only
    split
    · split
      · exact driftUpdate_stays ..
      · exact .of_cap rfl rfl (setCell_settings ..)
    · exact hreject
  · exact hreject

theorem offerStage_stays (v : ClosedVehicle) (e : Option ClassEntry) (s : State) : CaptureStays s (offerStage v e s) := by
  unfold offerStage
  split
  · split
    · exact takeOffer_stays ..
    · exact .refl s
  · exact .refl s

theorem recordStage_stays (v : ClosedVehicle) (s : State) : CaptureStays s (recordStage v s) := by
  have counted (u : State) (n m : Nat) : CaptureStays u { u with veh.vehicles := n, veh.axles := m } := .of_cap rfl rfl rfl
  unfold recordStage
  dsimp only
  exact ((runCascade_stays ..).trans (createRecord_stays ..)).trans (counted _ _ _)

theorem closeStages_stays (l : Lane) (c : Context) (x : CloseCause) (s : State) : CaptureStays s (closeStages l c x s) := by
  have hrelease : CaptureStays s (releaseWaiting c s) := .of_cap rfl rfl (releaseWaiting_settings c s)
  have hstages (v : ClosedVehicle) (e : Option ClassEntry) : CaptureStays s (recordStage v (offerStage v e (releaseWaiting c s))) :=
    hrelease.trans ((offerStage_stays v e _).trans (recordStage_stays v _))
  unfold closeStages
  exact hstages _ _

/-- A capture whose end is taken takes no notice of its context's close. -/
theorem captureClosed_stays (n : Nat) (s : State) : CaptureStays s (captureClosed n s) := by
  have hquiet := captureClosed_quiet n s
  refine ⟨hquiet.busFault, captureClosed_settings n s, ?_, fun hs => .inl (hquiet.cap hs)⟩
  unfold captureClosed
  repeat' first | rfl | split

theorem testDrain_stays (s : State) : CaptureStays s (testDrain s) := by
  have hcap : (testDrain s).cap = s.cap := by
    unfold testDrain
    split
    · rw [endDrain_eq]
    · rfl
  exact .of_cap hcap (testDrain_quiet s).busFault (testDrain_settings s)

theorem closeContext_stays (l : Lane) (k : Slot) (x : CloseCause) (s : State) : CaptureStays s (closeContext l k x s) := by
  unfold closeContext
  split
  · exact .refl s
  next c _ =>
    have hstages : CaptureStays s (if c.axles.isEmpty then s else closeStages l c x s) := by
      split
      · exact .refl s
      · exact closeStages_stays l c x s
    have hempty (u : State) : CaptureStays u (setContext l k none u) := .of_cap rfl rfl (setContext_settings ..)
    exact ((hstages.trans (hempty _)).trans (captureClosed_stays _ _)).trans (testDrain_stays _)

theorem truncateAll_stays (s : State) : CaptureStays s (truncateAll s) :=
  .foldl _ (fun u l => (closeContext_stays l .closingSlot .truncated u).trans (closeContext_stays l .openSlot .truncated _)) _ s

/-! ### Stopping a capture (R37, R38) -/

variable {r : EndReason} {c : CaptureRun} {pg : TracePage}

theorem capturing_false : s.capturing = false ↔ s.cap.st = .idle ∨ ∃ req, s.cap.st = .armed req := by
  unfold State.capturing
  cases s.cap.st <;> simp

theorem stopCapture_idle (r : EndReason) (h : s.cap.st = .idle) : stopCapture r s = s := by
  unfold stopCapture
  rw [h]

theorem stopCapture_armed {req : ArmRequest} (r : EndReason) (h : s.cap.st = .armed req) :
    stopCapture r s = { s with cap.st := .idle } := by
  unfold stopCapture
  rw [h]

theorem stopCapture_waiting (r : EndReason) (h : s.capturing = false) : (stopCapture r s).cap.st = .idle := by
  obtain h | ⟨req, h⟩ := capturing_false.mp h
  · rw [stopCapture_idle r h, h]
  · rw [stopCapture_armed r h]

theorem stopCapture_noted (r : EndReason) (h : s.cap.st = .capturing c)
    (hf : s.regs.busFault = true ∨ c.broken = true ∨ c.page = none) : stopCapture r s =
      { s with cap.st := .capturing { c with faultEnd := some (c.faultEnd.getD r), noted := c.noted ||| r.dirFlag } } := by
  unfold stopCapture
  rw [h]
  refine if_pos ?_
  rw [Bool.or_eq_true, Bool.or_eq_true, Option.isNone_iff_eq_none]
  exact hf

theorem endOpen_iff : c.endOpen = true ↔ ∀ n q, c.stop = some (n, q) → q = .close := by
  unfold CaptureRun.endOpen
  cases c.stop with
  | none => simp
  | some x => simp [Prod.ext_iff]

theorem stopCapture_working (r : EndReason) (h : s.cap.st = .capturing c) (hb : s.regs.busFault = false) (hk : c.broken = false)
    (hp : c.page = some pg) : stopCapture r s =
      if c.endOpen then { s with cap.st := .capturing { c with stop := some (c.pos, r), page := some (pg.stopped r) } } else s := by
  unfold stopCapture
  rw [h]
  refine (if_neg (by rw [hb, hk, hp]; exact Bool.false_ne_true)).trans ?_
  rw [hp]
  rfl

theorem stopCapture_settled (r : EndReason) (s : State) (hpage : ∀ c, s.cap.st = .capturing c → c.page = none → s.regs.busFault = true ∨ c.broken = true) :
    (stopCapture r s).CaptureSettled := by
  intro c hc
  have hbus : (stopCapture r s).regs.busFault = s.regs.busFault := by rw [stopCapture_frame]
  rw [hbus]
  cases hst : s.cap.st with
  | idle => rw [stopCapture_idle r hst, hst] at hc; cases hc
  | armed req => rw [stopCapture_armed r hst] at hc; cases hc
  | capturing d =>
    by_cases hf : s.regs.busFault = true ∨ d.broken = true
    · rw [stopCapture_noted r hst (hf.imp_right .inl)] at hc
      cases hc
      rw [if_pos (by rwa [Bool.or_eq_true])]
      rfl
    · obtain ⟨hb, hk⟩ := not_or.mp hf
      cases hp : d.page with
      | none => exact absurd (hpage d hst hp) hf
      | some pg =>
        rw [stopCapture_working r hst (by simpa using hb) (by simpa using hk) hp] at hc
        by_cases ho : d.endOpen = true
        · rw [if_pos ho] at hc
          cases hc
          rw [if_neg (by simpa using hf)]
          rfl
        · rw [if_neg ho, hst] at hc
          cases hc
          rw [if_neg (by simpa using hf)]
          cases hs : c.stop with
          | none => exact absurd (by rw [endOpen_iff, hs]; exact fun _ _ h => nomatch h) ho
          | some x => rfl

/-- A page stopped is still being taken, is at rest, or begins its close. -/
theorem stopped_cases (pg : TracePage) (r : EndReason) :
    pg.phase = .takeEntry ∧ pg.stopped r = pg
    ∨ pg.phase ≠ .takeEntry ∧ pg.stopped r = { pg with phase := .rest }
    ∨ pg.phase ≠ .takeEntry ∧ pg.stopped r = { pg with phase := .header 0, reason := r } := by
  obtain ⟨page, sequence, frames, pre, ticks, discontinuous, overRange, reason, phase⟩ := pg
  cases phase with
  | takeEntry => exact .inl ⟨rfl, rfl⟩
  | rest => exact .inr (.inl ⟨(fun h => nomatch h), rfl⟩)
  | frame f k => exact .inr (.inl ⟨(fun h => nomatch h), rfl⟩)
  | header k => exact .inr (.inr ⟨(fun h => nomatch h), rfl⟩)
  | closeEntry => exact .inr (.inr ⟨(fun h => nomatch h), rfl⟩)

/-- The trace writer goes on with a capture stopped: its page begins its close, once it has been taken. -/
theorem advanceTrace_stopped (hc : s.cap.st = .capturing { c with stop := some (c.pos, r), page := some (pg.stopped r) })
    (hb : s.regs.busFault = false) (hk : c.broken = false) :
    ∃ d x, (advanceTrace s).cap.st = .capturing d ∧ d.stop = some (c.pos, r) ∧ d.page = some x ∧ x.page = pg.page
      ∧ x.frames = pg.frames ∧ d.written = c.written ∧ (pg.phase = .takeEntry → x = pg)
      ∧ (pg.phase ≠ .takeEntry → x.phase = .header 0 ∧ x.reason = r) := by
  obtain ⟨hph, hst⟩ | ⟨hph, hst⟩ | ⟨hph, hst⟩ := stopped_cases pg r
  · rw [hst] at hc
    rw [advanceTrace_busy (pg := pg) hc rfl (by rw [mayGoOn_iff, hph]; simp)]
    exact ⟨_, _, hc, rfl, rfl, rfl, rfl, rfl, fun _ => rfl, fun h => absurd hph h⟩
  · rw [hst] at hc
    rw [advanceTrace_goes (pg := { pg with phase := .rest }) hc rfl hb hk (.inl rfl)]
    exact ⟨_, _, congrArg CaptureState.capturing (captureNext_stop (n := c.pos) (r := r) _ _ rfl (le_max_left ..)), rfl, rfl, rfl, rfl, rfl, fun h => absurd h hph, fun _ => ⟨rfl, rfl⟩⟩
  · rw [hst] at hc
    rw [advanceTrace_busy (pg := { pg with phase := .header 0, reason := r }) hc rfl (by rw [mayGoOn_iff]; simp)]
    exact ⟨_, _, hc, rfl, rfl, rfl, rfl, rfl, fun h => absurd h hph, fun _ => ⟨rfl, rfl⟩⟩

/-- The trace writer leaves the end taken, or ends the capture where no page is lent. -/
theorem captureNext_stop_or (h : History) (lent : Bool) :
    (c.next pg h lent).stop = c.stop ∨ ∃ m, (c.next pg h lent).stop = some (m, .truncated) := by
  by_cases hs : ∃ n q, c.stop = some (n, q) ∧ n ≤ max c.pos h.oldest
  · obtain ⟨n, q, hs, hn⟩ := hs
    exact .inl (by rw [captureNext_stop h lent hs hn])
  · rw [captureNext_copy h lent fun n q hq => Nat.lt_of_not_le fun hle => hs ⟨n, q, hq, hle⟩]
    unfold CaptureRun.copy
    split
    · exact .inl rfl
    · split
      · exact .inl rfl
      · split
        · exact .inl rfl
        · exact .inr ⟨_, rfl⟩

theorem advanceTrace_number (s : State) : (advanceTrace s).cap.number = s.cap.number := by
  unfold advanceTrace
  repeat' first | rfl | split

theorem advanceTrace_halted (hc : s.cap.st = .capturing c) (hf : s.regs.busFault = true ∨ c.broken = true) : advanceTrace s = s := by
  cases hp : c.page with
  | none =>
    unfold advanceTrace
    rw [hc]
    dsimp only
    rw [hp]
  | some pg => exact advanceTrace_busy hc hp fun ⟨_, hb, hk⟩ => hf.elim (fun h => by simp [hb] at h) fun h => by simp [hk] at h

/-- What stopping a capture, and the closes taken with it, leave of the capture unit once the trace writer has gone on. -/
theorem captureStopped_of {s v u t : State} (hcap : v.cap = (stopCapture r s).cap) (hbus : v.regs.busFault = s.regs.busFault)
    (hsets : v.mayArm → s.mayArm) (hstays : CaptureStays v u) (hempty : s.noContext = true → u.cap = v.cap)
    (ht : t.cap = (advanceTrace u).cap) : s.CaptureStopped t r r.dirFlag := by
  have hnumber : (stopCapture r s).cap.number = s.cap.number := by
    unfold stopCapture
    repeat' first | rfl | split
  have hsettled (h : ∀ c, s.cap.st = .capturing c → c.page = none → s.regs.busFault = true ∨ c.broken = true) : v.CaptureSettled := by
    intro c hc
    have := stopCapture_settled r s h c (by rw [← hcap]; exact hc)
    rwa [show (stopCapture r s).regs.busFault = v.regs.busFault by rw [hbus, stopCapture_frame]] at this
  refine ⟨?_, fun hidle => ?_, fun c hc => ⟨fun hf => ?_, fun pg hb hk hp => ?_⟩⟩
  · rw [ht, advanceTrace_number, hstays.number, hcap, hnumber]
  · have hv : v.cap.st = .idle := by rw [hcap]; exact stopCapture_waiting r hidle
    have hv' := hstays.cap (hsettled fun c hc => absurd hidle (by simp [State.capturing, hc]))
    have hu : u.cap.st = .idle ∨ ∃ req, u.cap.st = .armed req := hv'.imp (fun h => by rw [h, hv]) fun h => h.2.2
    rw [ht, advanceTrace_idle (capturing_false.mpr hu)]
    refine ⟨hu, fun hnone => ?_⟩
    obtain hnone | hnone := hnone
    · rw [hempty hnone, hv]
    · obtain h | ⟨_, harm, _⟩ := hv'
      · rw [h, hv]
      · obtain ⟨n, hn⟩ := hsets harm
        exact absurd (hnone n) hn
  · have hv : v.cap.st = .capturing { c with faultEnd := some (c.faultEnd.getD r), noted := c.noted ||| r.dirFlag } := by
      rw [hcap, stopCapture_noted r hc (hf.imp_right .inl)]
    have hu : u.cap = v.cap := (hstays.cap (hsettled fun d hd _ => by rw [hc] at hd; cases hd; exact hf)).resolve_right fun h => by
      rw [hv] at h
      cases h.1
    have hst := (congrArg CaptureUnit.st hu).trans hv
    rw [ht, advanceTrace_halted hst (by rw [hstays.busFault, hbus]; exact hf), hst]
  · have hu : u.cap = v.cap := by
      refine (hstays.cap (hsettled fun d hd hd' => by rw [hc] at hd; cases hd; rw [hp] at hd'; cases hd')).resolve_right fun h => ?_
      have hst := h.1
      rw [hcap, stopCapture_working r hc hb hk hp] at hst
      split at hst
      · cases hst
      · rw [hc] at hst
        cases hst
    have hst := (congrArg CaptureUnit.st (hu.trans hcap))
    rw [stopCapture_working r hc hb hk hp] at hst
    have hbu : u.regs.busFault = false := by rw [hstays.busFault, hbus, hb]
    refine ⟨fun hopen => ?_, fun n q hs hq => ?_⟩
    · rw [if_pos (endOpen_iff.mpr hopen)] at hst
      rw [ht]
      exact advanceTrace_stopped hst hbu hk
    · rw [if_neg (fun h => hq (endOpen_iff.mp h n q hs)), hc] at hst
      rw [ht]
      by_cases hgo : c.mayGoOn pg u.history = true
      · rw [advanceTrace_goes hst hp hbu hk ((mayGoOn_iff _).mp hgo)]
        refine ⟨⟨_, rfl, captureNext_stop_or ..⟩, fun hph => ?_⟩
        rw [mayGoOn_iff] at hgo
        obtain hph | hph | ⟨k, hph⟩ := hph <;> rw [hph] at hgo <;> simp at hgo
      · rw [advanceTrace_busy hst hp fun h => hgo h.1, hst]
        exact ⟨⟨c, rfl, .inl rfl⟩, fun _ => hc.symm⟩

end

end Sys2Proof.Machine
end

section
/-!
PROOFS. The orders CAPTURE and CANCEL CAPTURE (R34, R37, R163).
-/

namespace Sys2Proof.Machine

section
variable {s : State} {t : OrderPage} {len : Nat} {ps : List Word}

theorem fixOutcome_cap (o : OrderOutcome) (d : Nat) (s : State) : (fixOutcome o d s).cap = s.cap := by
  unfold fixOutcome
  repeat' first | rfl | split

theorem fixOutcome_stays (o : OrderOutcome) (d : Nat) (s : State) : CaptureStays s (fixOutcome o d s) :=
  .of_cap (fixOutcome_cap o d s) (fixOutcome_quiet o d s).busFault (fixOutcome_settings o d s)

theorem stopCapture_taken (r : EndReason) (s : State) : (stopCapture r s).ex.taken = s.ex.taken := by
  rw [stopCapture_frame]

theorem laneOf_eq {lane : Lane} {n : Nat} (h : lane.val + 1 = n) : laneOf n = lane :=
  Fin.ext (by have := lane.isLt; show (n - 1) % 4 = _; omega)

/-- CAPTURE with its lane in range (R34, steps 3 and 4). -/
theorem orderCapture_good {l p m : Word} (hrun : s.run ≠ .draining) (h1 : 1 ≤ l.toNat) (hl : l.toNat ≤ s.site.laneCount) :
    orderCapture 5 [l, p, m] s = armByOrder [l, p, m] s :=
  (if_neg hrun).trans ((ifLength_ok _ rfl).trans
    (ifFields_one_good _ (by rw [Bool.and_eq_true]; exact ⟨decide_eq_true h1, decide_eq_true hl⟩)))

theorem orderCapture_bad {l p m : Word} (hrun : s.run ≠ .draining) (hl : l.toNat = 0 ∨ s.site.laneCount < l.toNat) :
    orderCapture 5 [l, p, m] s = fixOutcome .invalid 2 s :=
  (if_neg hrun).trans ((ifLength_ok _ rfl).trans (ifFields_one_bad _ (by
    rw [Bool.and_eq_false_iff]
    exact hl.imp (fun h => decide_eq_false (by show ¬1 ≤ l.toNat; omega))
      fun h => decide_eq_false (by show ¬l.toNat ≤ s.site.laneCount; omega))))

theorem armByOrder_busy (h : s.cap.st ≠ .idle) : armByOrder ps s = fixOutcome .busy 0 s :=
  if_pos (captureBusy_iff.mpr h)

theorem armByOrder_idle {l p m : Word} {lane : Lane} (h : OrderHeld .capture 5 [l, p, m] t s) (hlane : lane.val + 1 = l.toNat)
    (hidle : s.cap.st = .idle) : armByOrder [l, p, m] s =
      ({ s with cap.st := .armed { lane := lane, pre := min 1024 p.toNat, maxFrames := bring 512 65535 m.toNat } } : State).answered t 5
        (rangeAnswer [(3, within 0 1024 p.toNat), (4, within 512 65535 m.toNat)]) := by
  have hpre : clamp 0 1024 p.toNat = min 1024 p.toNat := (clamp_eq_bring (by decide) _).trans (max_eq_right (Nat.zero_le _))
  refine (if_neg fun hb => captureBusy_iff.mp hb hidle).trans ?_
  rw [armCapture_idle hidle, ← hpre, ← clamp_eq_bring (by decide), ← laneOf_eq hlane]
  exact h.answerRanges (by rfl) [(3, 0, 1024, p.toNat), (4, 512, 65535, m.toNat)] (by simp)

/-- CANCEL CAPTURE stops the capture and is answered DONE. -/
theorem exec_cancelCapture {u : State} (h : OrderHeld .cancelCapture len ps t s) (hu : stopCapture .cancelled s = u) :
    exec .cancelCapture s = .next (settleDown (u.answered t len (.done, 0))) := by
  subst hu
  exact h.run_eq (h.answer (stopCapture_taken ..) _ _)

end

/-- Settles O48: CAPTURE by its checks, CANCEL CAPTURE by the state of the capture unit. -/
theorem captureOrders : Obligations.CaptureOrders := by
  refine ⟨fun l p m t s h hrun => ⟨fun hl => ?_, fun h1 hl hbusy => ?_, fun lane hlane hl hidle => ?_⟩,
    fun len ps t s h => ⟨fun hc => ?_, fun req hc => ?_, fun c pg hc hk hp => ⟨fun hopen => ?_, fun n q hs hq => ?_⟩,
      fun c hc hf => ?_, ?_⟩, fun s hb => ?_⟩
  · exact h.run_eq ((orderCapture_bad hrun hl).trans (h.answer rfl _ _))
  · exact h.run_eq ((orderCapture_good hrun h1 hl).trans ((armByOrder_busy hbusy).trans (h.answer rfl _ _)))
  · exact h.run_eq ((orderCapture_good hrun (by omega) hl).trans (armByOrder_idle h hlane hidle))
  · exact exec_cancelCapture h (stopCapture_idle _ hc)
  · exact exec_cancelCapture h (stopCapture_armed _ hc)
  · refine exec_cancelCapture h ((stopCapture_working _ hc h.2.1 hk hp).trans ((if_pos (endOpen_iff.mpr hopen)).trans ?_))
    unfold TracePage.stopped
    cases pg.phase <;> rfl
  · exact exec_cancelCapture h ((stopCapture_working _ hc h.2.1 hk hp).trans
      (if_neg fun e => hq (endOpen_iff.mp e n q hs)))
  · refine exec_cancelCapture h ((stopCapture_noted _ hc (.inr hf)).trans ?_)
    rw [show c.noted ||| EndReason.cancelled.dirFlag = c.noted from BitVec.or_zero]
  · refine ⟨_, h.run_eq rfl, captureStopped_of (r := .cancelled) rfl (by rw [stopCapture_frame]) (mayArm_of_settings (stopCapture_settings ..))
      (fixOutcome_stays .done 0 _) (fun _ => fixOutcome_cap ..) (settleDown_cap _)⟩
  · refine runOrder_none _ ?_
    unfold State.inHand
    rw [hb]
    exact if_neg (by simp)

end Sys2Proof.Machine
end

section
/-!
PROOFS. The orders START, STOP and HALT (R168 to R171), and what truncating every context leaves unchanged.
-/

namespace Sys2Proof.Machine

/-! ### Truncating every context -/

section
variable {s : State}

theorem closeContext_absent {l : Lane} {k : Slot} (x : CloseCause) (h : s.context l k = none) : closeContext l k x s = s := by
  unfold closeContext
  rw [h]

theorem truncateAll_idle (h : s.noContext = true) : truncateAll s = s := by
  have hfold (ls : List Lane) : ls.foldl (fun t l => truncateLane l t) s = s := by
    have hnone := (State.noContext_iff s).mp h
    induction ls with
    | nil => rfl
    | cons l rest ih =>
      rw [List.foldl_cons, truncateLane, closeContext_absent _ (hnone l _), closeContext_absent _ (hnone l _)]
      exact ih
  rw [truncateAll_eq]
  exact hfold _

/-- Outside a drain the close of every context changes only what a close changes. -/
theorem truncateAll_frame (h : s.run ≠ .draining) : CloseFrame s (truncateAll s) := by
  have hfold (ls : List Lane) (u : State) (hu : u.run ≠ .draining) : CloseFrame u (ls.foldl (fun t l => truncateLane l t) u) := by
    induction ls generalizing u with
    | nil => exact .refl u
    | cons l rest ih =>
      have hclosing := closeContext_close l .closingSlot .truncated u hu
      have hlane : CloseFrame u (truncateLane l u) :=
        hclosing.trans (closeContext_close l .openSlot .truncated _ (by rw [hclosing.run]; exact hu))
      exact hlane.trans (ih _ (by rw [hlane.run]; exact hu))
  rw [truncateAll_eq]
  exact hfold _ s h

/-- The trace writer looks at the capture unit, the history, BUS_FAULT and the trace empty list. -/
theorem advanceTrace_cap_of {s t : State} (hcap : t.cap = s.cap) (hhistory : t.history = s.history)
    (hb : t.regs.busFault = s.regs.busFault) (hlist : t.ex.traceList = s.ex.traceList) : (advanceTrace t).cap = (advanceTrace s).cap := by
  unfold advanceTrace
  rw [hcap, hhistory, hb, hlist]
  split
  · split
    · exact hcap
    · split
      · rfl
      · exact hcap
  · exact hcap

end

/-! ### The steps of HALT (R171) -/

section
variable {r : EndReason} {s : State} {t : OrderPage} {len : Nat} {ps : List Word}

/-- The stopping of a capture looks at the capture unit and BUS_FAULT. -/
theorem stopCapture_st_of {v : State} (hcap : v.cap = s.cap) (hb : v.regs.busFault = s.regs.busFault) :
    (stopCapture r v).cap.st = (stopCapture r s).cap.st := by
  unfold stopCapture
  rw [hcap, hb]
  split
  · rw [hcap]
  · rfl
  · split
    · rfl
    · split
      · rfl
      · rw [hcap]

/-- The part before its contexts are truncated by the steps of HALT. -/
def beforeTruncating (r : EndReason) (s : State) : State := stopMeasuring (stopCapture r (stopRunTimers s))

theorem haltSteps_eq (r : EndReason) (s : State) : haltSteps r s = emptyRowLists (truncateAll (beforeTruncating r s)) := rfl

theorem beforeTruncating_frame (r : EndReason) (s : State) : beforeTruncating r s =
    { s with
      det.chans := Tab.fill 16 .off, det.hits := { a := [], b := [] }, ctrl.drain := none, ctrl.quietTimer := none, ctrl.settle := none
      cap.st := (stopCapture r s).cap.st } := by
  have hcap : (stopCapture r (stopRunTimers s)).cap.st = (stopCapture r s).cap.st := stopCapture_st_of rfl rfl
  rw [← hcap, beforeTruncating, stopCapture_frame]
  rfl

theorem haltSteps_frame (r : EndReason) (h : s.run ≠ .draining) : CloseFrame (beforeTruncating r s) (truncateAll (beforeTruncating r s)) :=
  truncateAll_frame (by rw [beforeTruncating_frame]; exact h)

theorem emptyRowLists_stays (s : State) : CaptureStays s (emptyRowLists s) := .of_cap rfl rfl (emptyRowLists_settings s)

/-- What the steps of HALT leave of the capture unit. -/
theorem haltSteps_stays (r : EndReason) (s : State) : CaptureStays (beforeTruncating r s) (haltSteps r s) :=
  (truncateAll_stays _).trans (emptyRowLists_stays _)

theorem haltSteps_ex (r : EndReason) (h : s.run ≠ .draining) : (haltSteps r s).ex = s.ex := by
  have hex := congrArg State.ex (haltSteps_frame r h)
  have hbefore := congrArg State.ex (beforeTruncating_frame r s)
  exact (emptyRowLists_ex _).trans (hex.trans hbefore)

theorem haltSteps_ctrl (r : EndReason) (h : s.run ≠ .draining) :
    (haltSteps r s).ctrl = { s.ctrl with drain := none, quietTimer := none, settle := none } := by
  have hctrl := congrArg State.ctrl (haltSteps_frame r h)
  have hbefore := congrArg State.ctrl (beforeTruncating_frame r s)
  exact (emptyRowLists_ctrl _).trans (hctrl.trans hbefore)

theorem beforeTruncating_settings (r : EndReason) (s : State) : (beforeTruncating r s).settings = s.settings := by
  rw [beforeTruncating_frame]
  rfl

theorem haltSteps_capture (h : s.noContext = true) : (haltSteps r s).cap = (beforeTruncating r s).cap := by
  rw [haltSteps_eq, truncateAll_idle (by rw [beforeTruncating_frame]; exact h), emptyRowLists_cap]

/-- A part halted: READY, nothing measured, no timer running, its order answered DONE. -/
structure Halted (s : State) (t : OrderPage) (len : Nat) (u : State) : Prop where
  run : u.run = .ready
  settings : u.settings = s.settings
  noContext : u.noContext = true
  chans : ∀ c, u.det.chans.get c = .off
  hitsA : u.det.hits.a = []
  hitsB : u.det.hits.b = []
  rowA : u.axle.rowA = []
  drain : u.ctrl.drain = none
  settle : u.ctrl.settle = none
  taken : u.ex.taken = some { t with phase := .outcome len .done 0 false }

theorem Halted.settle_down {u : State} (h : Halted s t len u) : Halted s t len (settleDown u) :=
  ⟨(settleDown_run u).trans h.run, (settleDown_settings u).trans h.settings, (settleDown_noContext u).trans h.noContext,
    fun c => by rw [settleDown_det, h.chans c], by rw [settleDown_det, h.hitsA], by rw [settleDown_det, h.hitsB],
    by rw [settleDown_axle, h.rowA], (settleDown_ctrl_drain u).trans h.drain, (settleDown_ctrl_settle u).trans h.settle,
    (settleDown_ex_taken u).trans h.taken⟩

/-- The part made READY. -/
def State.madeReady (u : State) : State := { u with run := .ready }

/-- A part in which nothing is measured and no timer runs, made READY. -/
theorem Halted.of {u : State} (hnothing : u.NothingMeasured) (hset : u.settings = s.settings) (hdrain : u.ctrl.drain = none)
    (hsettle : u.ctrl.settle = none) : Halted s t len (u.madeReady.answered t len (.done, 0)) :=
  { run := rfl
    settings := hset
    noContext := hnothing.contexts
    chans := hnothing.channels
    hitsA := hnothing.hits.1
    hitsB := hnothing.hits.2
    rowA := hnothing.rowA
    drain := hdrain
    settle := hsettle
    taken := rfl }

theorem madeReady_stays (u : State) (t : OrderPage) (len : Nat) (a : OrderOutcome × Nat) :
    CaptureStays u (u.madeReady.answered t len a) := .of_cap rfl rfl rfl

theorem madeReady_cap (u : State) : u.madeReady.cap = u.cap := rfl

theorem answered_cap (u : State) (t : OrderPage) (len : Nat) (a : OrderOutcome × Nat) : (u.answered t len a).cap = u.cap := rfl

theorem madeReady_ex (u : State) : u.madeReady.ex = u.ex := rfl

/-- HALT out of a run is answered DONE by the part halted (R171). -/
theorem done_halt {k : OrderKind} (h : OrderHeld k len ps t s) (hopens : s.run.opens = true) :
    done (halt s) = (haltSteps .halted s).madeReady.answered t len (.done, 0) := by
  have hrun : s.run ≠ .draining := fun e => by rw [e] at hopens; exact absurd hopens (by decide)
  have hhalt : halt s = (haltSteps .halted s).madeReady := if_pos hopens
  rw [hhalt]
  exact h.answer (by rw [madeReady_ex, haltSteps_ex .halted hrun]) _ _

/-- Out of a run, HALT leaves the part halted and its capture stopped with HALTED (R38, R171). -/
theorem halt_ends {k : OrderKind} (h : OrderHeld k len ps t s) (hopens : s.run.opens = true) :
    Halted s t len (settleDown (done (halt s))) ∧ s.CaptureStopped (settleDown (done (halt s))) .halted 0 := by
  have hrun : s.run ≠ .draining := fun e => by rw [e] at hopens; exact absurd hopens (by decide)
  have hctrl := haltSteps_ctrl .halted hrun
  have hbefore := beforeTruncating_frame .halted s
  rw [done_halt h hopens]
  refine ⟨(Halted.of (haltSteps_nothing .halted s) (haltSteps_settings ..) (congrArg Control.drain hctrl)
    (congrArg Control.settle hctrl)).settle_down, ?_⟩
  have hcap : (beforeTruncating .halted s).cap = (stopCapture .halted s).cap := by rw [hbefore, stopCapture_frame]
  have hbus : (beforeTruncating .halted s).regs.busFault = s.regs.busFault := by rw [hbefore]
  exact captureStopped_of (r := .halted) hcap hbus
    (mayArm_of_settings (beforeTruncating_settings .halted s)) ((haltSteps_stays .halted s).trans (madeReady_stays ..))
    (fun hno => by rw [answered_cap, madeReady_cap, haltSteps_capture hno]) (settleDown_cap _)

/-! ### STOP and its drain (R169, R170) -/

/-- The drain that STOP begins, its page held. -/
def drainBegun (s : State) (t : OrderPage) (len : Nat) : State :=
  ({ s with run := .draining, ctrl.drain := some 0, ctrl.quietTimer := none, ctrl.settle := none } : State).reading t (.holding len)

theorem orderStop_begins {k : OrderKind} (h : OrderHeld k len ps t s) (hrun : s.run = .running ∨ s.run = .waking) :
    orderStop len ps s = testDrain (drainBegun s t len) := by
  have hhold : holdStop len { stopRunTimers s with run := .draining, ctrl.drain := some 0 } = drainBegun s t len :=
    setReader_taken _ h.taken
  unfold orderStop
  obtain hrun | hrun := hrun <;>
  · rw [hrun]
    exact congrArg testDrain hhold

/-- A drain that finds no context ends at once. -/
theorem drainBegun_ends (hno : s.noContext = true) : testDrain (drainBegun s t len) = endDrain (drainBegun s t len) :=
  testDrain_ends ⟨rfl, rfl, hno⟩

theorem drainBegun_halted (hno : s.noContext = true) : Halted s t len (endDrain (drainBegun s t len)) := by
  rw [endDrain_eq]
  exact ⟨rfl, rfl, hno, fun _ => Tab.get_fill .., rfl, rfl, rfl, rfl, rfl, rfl⟩

/-! ### START (R168) -/

theorem startChannels_get (c : Chan) : (startChannels s).det.chans.get c =
    if c.val / 4 < s.site.laneCount ∧ s.site.mask.get c = true then .learning 0 0 else .off := by
  have henabled : s.site.enabled c = true ↔ c.val / 4 < s.site.laneCount ∧ s.site.mask.get c = true := by
    unfold Site.enabled
    rw [Bool.and_eq_true, decide_eq_true_eq]
    rfl
  refine (Tab.get_ofNat ..).trans ((dif_pos c.isLt).trans ?_)
  exact if_congr henabled rfl rfl

end

/-- Settles O47: START, then STOP and HALT by the run state. -/
theorem startStopHalt : Obligations.StartStopHalt := by
  intro len ps t s quieted
  have hquieted {u : State} (h : Halted s t len u) : quieted u :=
    ⟨h.run, h.settings, h.noContext, h.chans, h.hitsA, h.hitsB, h.rowA, h.drain, h.settle, h.taken⟩
  refine ⟨fun h hrun => ⟨fun h0 => ?_, fun h0 => ⟨_, startChannels_get (s := s), ?_⟩⟩,
    fun h => ⟨fun hrun => ?_, fun hrun hno => ?_, fun hrun hno => ?_, fun hrun => ?_⟩,
    fun h => ⟨fun hrun hcap => ?_, fun req hrun hcap => ?_, fun hrun => ?_⟩⟩
  · exact h.run_eq ((ifReady_ready _ hrun).trans ((if_pos h0).trans (h.answer rfl _ _)))
  · exact h.run_eq ((ifReady_ready _ hrun).trans ((if_neg h0.ne').trans (h.answer (by rfl) _ _)))
  · refine h.run_eq (Eq.trans ?_ (h.answer rfl _ _))
    unfold orderStop
    rw [hrun]
    rfl
  · refine h.run_eq ((orderStop_begins h hrun).trans (if_neg ?_))
    rintro ⟨_, _, hyes⟩
    exact absurd (hno.symm.trans hyes) (by decide)
  · have hexec := h.run_eq ((orderStop_begins h hrun).trans (drainBegun_ends hno))
    refine ⟨_, hexec, hquieted (drainBegun_halted hno).settle_down, (settleDown_cap _).trans ?_⟩
    rw [endDrain_eq]
    exact advanceTrace_cap_of rfl rfl rfl rfl
  · have hopens : s.run.opens = true := by rw [hrun]; rfl
    have hstop : orderStop len ps s = done (halt s) := by
      unfold orderStop
      rw [hrun]
    obtain ⟨hhalted, hcapture⟩ := halt_ends h hopens
    exact ⟨_, h.run_eq hstop, hquieted hhalted, hcapture⟩
  · have hhalt : halt s = s := by
      unfold halt disarm
      rw [hrun]
      refine (if_neg (by decide)).trans ?_
      split
      · rename_i req hst
        obtain hcap | hcap := hcap
        · rw [hcap] at hst
          cases hst
        · rw [capturing_false.mpr (.inr ⟨req, hst⟩)] at hcap
          cases hcap
      · rfl
    exact h.run_eq ((congrArg done hhalt).trans (h.answer rfl _ _))
  · have hhalt : halt s = { s with cap.st := .idle } := by
      unfold halt disarm
      rw [hrun]
      refine (if_neg (by decide)).trans ?_
      rw [hcap]
    exact h.run_eq ((congrArg done hhalt).trans (h.answer (by rfl) _ _))
  · have hopens : s.run.opens = true := by
      obtain hrun | hrun | hrun := hrun <;> rw [hrun] <;> rfl
    obtain ⟨hhalted, hcapture⟩ := halt_ends h hopens
    exact ⟨_, h.run_eq rfl, hquieted hhalted, hcapture⟩

end Sys2Proof.Machine
end

section
/-!
PROOFS. SET CLOCK: the measuring it breaks off, and the ticks it moves (R29, R48, R82, R96, R144, R179).
-/

namespace Sys2Proof.Machine

/-! ### Truncating every context, in a drain too -/

section
variable {s t u : State}

/-- What the close of contexts leaves of the detector, the probes and the order in hand: a drain it ends stops the
detector. -/
structure TruncateFrame (s t : State) : Prop where
  run : RunKept s t
  det : t.det = s.det ∨ s.run = .draining ∧ t.det = { s.det with chans := Tab.fill 16 .off, hits := { a := [], b := [] } }
  taken : ∀ x, s.ex.taken = some x → (∀ len, x.phase ≠ .holding len) → t.ex.taken = some x
  temp : t.temp = s.temp

theorem TruncateFrame.refl (s : State) : TruncateFrame s s := ⟨.inl rfl, .inl rfl, fun _ h _ => h, rfl⟩

theorem TruncateFrame.trans (h : TruncateFrame s t) (k : TruncateFrame t u) : TruncateFrame s u := by
  refine ⟨h.run.trans k.run, ?_, fun x hx hph => k.taken x (h.taken x hx hph) hph, k.temp.trans h.temp⟩
  have hback (hd : t.run = .draining) : s.run = .draining := by
    obtain hr | ⟨hr, _⟩ := h.run
    · exact hr.symm.trans hd
    · exact hr
  obtain hd | ⟨hr, hd⟩ := h.det <;> obtain hd' | ⟨hr', hd'⟩ := k.det
  · exact .inl (hd'.trans hd)
  · exact .inr ⟨hback hr', by rw [hd', hd]⟩
  · exact .inr ⟨hr, hd'.trans hd⟩
  · exact .inr ⟨hr, by rw [hd', hd]⟩

theorem CloseFrame.truncate (h : CloseFrame s t) : TruncateFrame s t := by
  refine ⟨.inl h.run, .inl ?_, fun x hx _ => ?_, ?_⟩
  · rw [h]
  · rw [h]
    exact hx
  · rw [h]

theorem testDrain_truncate (s : State) : TruncateFrame s (testDrain s) := by
  by_cases h : s.run = .draining ∧ s.ctrl.drain.isSome = true ∧ s.noContext = true
  · rw [testDrain_ends h, endDrain_eq]
    refine ⟨.inr ⟨h.1, rfl⟩, .inr ⟨h.1, rfl⟩, fun x hx hph => ?_, rfl⟩
    show s.ex.taken.map _ = _
    rw [hx]
    refine congrArg some ?_
    unfold OrderPage.stopAnswered
    split
    · rename_i len hlen
      exact absurd hlen (hph len)
    · rfl
  · rw [testDrain, if_neg h]
    exact .refl s

theorem closeContext_truncate (l : Lane) (k : Slot) (x : CloseCause) (s : State) : TruncateFrame s (closeContext l k x s) := by
  cases hc : s.context l k with
  | none =>
    rw [closeContext_absent x hc]
    exact .refl s
  | some c =>
    rw [closeContext_some x hc]
    exact (closeBody_frame l k c x s).truncate.trans (testDrain_truncate _)

theorem truncateAll_truncate (s : State) : TruncateFrame s (truncateAll s) := by
  have hfold (ls : List Lane) (u : State) : TruncateFrame u (ls.foldl (fun t l => truncateLane l t) u) := by
    induction ls generalizing u with
    | nil => exact .refl u
    | cons l rest ih => exact ((closeContext_truncate l .closingSlot _ u).trans (closeContext_truncate l .openSlot _ _)).trans (ih _)
  rw [truncateAll_eq]
  exact hfold _ s

/-! ### Row-A axles where no context stands -/

theorem completeAxle_noContext (n : Nat) (f : Axle → Axle) (h : s.noContext = true) : completeAxle n f s = s := by
  unfold completeAxle
  split
  · rfl
  · rw [(State.noContext_iff s).mp h]

theorem foldl_expireAxle_noContext (ws : List WaitingAxle) (h : s.noContext = true) : ws.foldl (fun u w => expireAxle w u) s =
    { s with axle.rowA := s.axle.rowA.filter fun v => ws.all fun w => decide (v.id ≠ w.id) } := by
  induction ws generalizing s with
  | nil => simp
  | cons w rest ih =>
    have hfirst : expireAxle w s = { s with axle.rowA := s.axle.rowA.filter fun v => decide (v.id ≠ w.id) } :=
      completeAxle_noContext _ _ h
    rw [List.foldl_cons, hfirst]
    refine (ih (by exact h)).trans ?_
    dsimp only
    rw [List.filter_filter]
    simp only [List.all_cons, Bool.and_comm]

/-- The row-A list emptied. -/
def State.withoutRowA (s : State) : State := { s with axle.rowA := [] }

theorem withoutRowA_rowA (s : State) : s.withoutRowA.axle.rowA = [] := rfl

theorem withoutRowA_det (s : State) : s.withoutRowA.det = s.det := rfl

theorem withoutRowA_ex (s : State) : s.withoutRowA.ex = s.ex := rfl

theorem withoutRowA_trig (s : State) : s.withoutRowA.trig = s.trig := rfl

theorem withoutRowA_noContext (s : State) : s.withoutRowA.noContext = s.noContext := rfl

theorem releaseRowA_noContext (h : s.noContext = true) : releaseRowA s = s.withoutRowA := by
  have hnone : (s.axle.rowA.filter fun v => s.axle.rowA.all fun w => decide (v.id ≠ w.id)) = [] := by
    refine List.filter_eq_nil_iff.mpr fun v hv hall => ?_
    exact absurd rfl (of_decide_eq_true (List.all_eq_true.mp hall v hv))
  rw [releaseRowA, foldl_expireAxle_noContext _ h, hnone, State.withoutRowA]

/-! ### Step 1 and 2 of SET CLOCK: what is measured is broken off -/

/-- The open hits and the held hits lost, before the contexts close. -/
def hitsLost (s : State) : State := loseHitLists (loseOpenHits s)

theorem clockBreak_rest (h : s.run.measures = false) : clockBreak s = s := if_neg (by rw [h]; decide)

theorem clockBreak_measuring (h : s.run.measures = true) :
    clockBreak s = (truncateAll (hitsLost s)).withoutRowA := by
  rw [← releaseRowA_noContext (truncateAll_noContext _), clockBreak, if_pos h, hitsLost]

theorem clockBreak_settings (s : State) : (clockBreak s).settings = s.settings := by
  unfold clockBreak
  split
  · rw [releaseRowA_settings, truncateAll_settings, loseHitLists_settings, loseOpenHits_settings]
  · rfl

theorem clockBreak_clock (s : State) : (clockBreak s).clock = s.clock := congrArg Settings.clock (clockBreak_settings s)

theorem clockBreak_taken {x : OrderPage} (hx : s.ex.taken = some x) (hph : ∀ len, x.phase ≠ .holding len) :
    (clockBreak s).ex.taken = some x := by
  cases h : s.run.measures with
  | false => rw [clockBreak_rest h, hx]
  | true =>
    have hkept := (truncateAll_truncate (hitsLost s)).taken x hx hph
    rw [clockBreak_measuring h, withoutRowA_ex, hkept]

/-- With no set enabled what is broken off leaves sets and schedules (R133). -/
theorem clockBreak_trig (h : s.SetsDisabled) :
    (clockBreak s).trig.sets = s.trig.sets ∧ (clockBreak s).trig.lines = s.trig.lines := by
  cases hm : s.run.measures with
  | false =>
    rw [clockBreak_rest hm]
    exact ⟨rfl, rfl⟩
  | true =>
    have htrig := (truncateAll_quiet (hitsLost s) h).trig
    rw [clockBreak_measuring hm, withoutRowA_trig, htrig]
    exact ⟨rfl, rfl⟩

theorem hitsLost_chan (c : Chan) : (hitsLost s).det.chans.get c = match s.det.chans.get c with
    | .candidate b _ _ => .idle b
    | .hit b _ => .idle b
    | .tail b _ _ _ _ => .idle b
    | st => st :=
  (Tab.get_map ..).trans (loseHit_state _)

/-- The detector after the break: its counters have taken what was lost, and no hit is open. -/
theorem clockBreak_det (h : s.run.measures = true) :
    (clockBreak s).det.lost = raised s.det.lost (s.det.hits.a.length + s.det.hits.b.length)
    ∧ (clockBreak s).det.aborted = raised s.det.aborted (s.det.chans.items.countP fun c => match c with
        | .hit .. => true
        | .tail .. => true
        | _ => false)
    ∧ (clockBreak s).det.hits.a = [] ∧ (clockBreak s).det.hits.b = []
    ∧ (s.run ≠ .draining → ∀ c, (clockBreak s).det.chans.get c = (hitsLost s).det.chans.get c)
    ∧ ∀ c, (clockBreak s).det.chans.get c = (hitsLost s).det.chans.get c ∨ (clockBreak s).det.chans.get c = .off := by
  have hlost : (hitsLost s).det.lost = raised s.det.lost (s.det.hits.a.length + s.det.hits.b.length) := satAdd_eq ..
  have haborted : (hitsLost s).det.aborted = raised s.det.aborted (s.det.chans.items.countP fun c => match c with
      | .hit .. => true
      | .tail .. => true
      | _ => false) :=
    (satAdd_eq ..).trans (congrArg (raised s.det.aborted) (countP_congr_cases _))
  rw [clockBreak_measuring h, withoutRowA_det]
  obtain hd | ⟨hr, hd⟩ := (truncateAll_truncate (hitsLost s)).det
  · rw [hd]
    exact ⟨hlost, haborted, rfl, rfl, fun _ _ => rfl, fun _ => .inl rfl⟩
  · rw [hd]
    exact ⟨hlost, haborted, rfl, rfl, fun hne => absurd hr hne, fun _ => .inr (Tab.get_fill ..)⟩

theorem hitsLost_active {c : Chan} (h : ((hitsLost s).det.chans.get c).active = true) :
    ∃ b n, (hitsLost s).det.chans.get c = .long b n := by
  rw [hitsLost_chan] at h ⊢
  cases hc : s.det.chans.get c <;> rw [hc] at h <;> first | exact ⟨_, _, rfl⟩ | cases h

/-! ### Steps 3 to 5: the clock, the ticks and the summary -/

variable {v : Nat}

theorem loadClock_timer (n : SetId) : ((loadClock v s).trig.sets.get n).timer = match (s.trig.sets.get n).timer with
    | .running due => .running (((due : Int) + ((v : Int) - s.clock)) % 281474976710656).toNat
    | x => x := by
  have hset (x : TriggerSet) (off : Int) : (match x.timer with
      | .running due => { x with timer := .running (tickShift due off) }
      | _ => x).timer = match x.timer with
        | .running due => .running (((due : Int) + off) % 281474976710656).toNat
        | y => y := by
    obtain ⟨enabled, dfn, timer, side, degraded⟩ := x
    cases timer <;> rfl
  exact (congrArg TriggerSet.timer (Tab.get_map ..)).trans (hset _ _)

theorem loadClock_line (l : Line) : (loadClock v s).trig.lines.get l = match s.trig.lines.get l with
    | .input x => .input x
    | .output ps => .output (ps.map fun p =>
        { p with
          start := (((p.start : Int) + ((v : Int) - s.clock)) % 281474976710656).toNat
          stop := (((p.stop : Int) + ((v : Int) - s.clock)) % 281474976710656).toNat }) := by
  refine (Tab.get_map ..).trans ?_
  cases s.trig.lines.get l <;> rfl

theorem loadClock_settings (v : Nat) (s : State) : (loadClock v s).settings = { s.settings with clock := v } := by
  have hsets : (loadClock v s).settings.triggers = s.settings.triggers := by
    refine Tab.ext_get fun i => ?_
    refine Eq.trans (Tab.get_map ..) (Eq.trans (congrArg TriggerSet.dfn (Tab.get_map ..)) (Eq.trans ?_ (Tab.get_map ..).symm))
    split <;> rfl
  have hrest : (loadClock v s).settings = { s.settings with clock := v, triggers := (loadClock v s).settings.triggers } := rfl
  rw [hrest, hsets]

theorem loadClock_same (v : Nat) (s : State) : (loadClock v s).det = s.det ∧ (loadClock v s).veh = s.veh ∧ (loadClock v s).cal = s.cal
    ∧ (loadClock v s).rw = s.rw ∧ (loadClock v s).axle = s.axle ∧ (loadClock v s).ex = s.ex ∧ (loadClock v s).clock = v :=
  ⟨rfl, rfl, rfl, rfl, rfl, rfl, rfl⟩

theorem loadClock_summary (v : Nat) (s : State) : (loadClock v s).temp.summary.short = true
    ∧ (loadClock v s).temp.summary.next = (v / 8192 / s.temp.interval + 1) * s.temp.interval :=
  ⟨rfl, rfl⟩

theorem noContext_of_veh (h : t.veh = s.veh) : t.noContext = s.noContext := by
  unfold State.noContext
  rw [h]

/-- The order SET CLOCK with a good high word (R179). -/
theorem exec_setClock {lo hi : Word} {x : OrderPage} (h : OrderHeld .setClock 4 [lo, hi] x s) (hhi : hi.toNat ≤ 65535) :
    exec .setClock s = .next (settleDown
      ((loadClock (lo.toNat + 4294967296 * hi.toNat) (clockBreak s)).answered x 4 (.done, 0))) := by
  have htaken : (clockBreak s).ex.taken = s.ex.taken :=
    (clockBreak_taken h.taken fun len hlen => by rw [h.2.2.2.2] at hlen; cases hlen).trans h.taken.symm
  have hanswer := h.answer (u := loadClock (lo.toNat + 4294967296 * hi.toNat) (clockBreak s))
    (by rw [(loadClock_same _ _).2.2.2.2.2.1, htaken]) .done 0
  exact h.run_eq (((ifLength_ok _ rfl).trans (ifFields_one_good _ (decide_eq_true hhi))).trans hanswer)

end

/-- Settles O46: the high word's check, then what is broken off and what moves with the clock. -/
theorem setClockLoads : Obligations.SetClockLoads := by
  intro lo hi t s h v
  refine ⟨fun hhi => ?_, fun hhi => ?_⟩
  · exact h.run_eq (((ifLength_ok _ rfl).trans (ifFields_one_bad _ (decide_eq_false (Nat.not_le.mpr hhi)))).trans (h.answer rfl _ _))
  · obtain ⟨hdet, hveh, hcal, hrw, haxle, _, hclock⟩ := loadClock_same v (clockBreak s)
    obtain ⟨hshort, hnext⟩ := loadClock_summary v (clockBreak s)
    have hinterval : (clockBreak s).temp.interval = s.temp.interval := congrArg Settings.interval (clockBreak_settings s)
    have htimer (n : SetId) := loadClock_timer (s := clockBreak s) (v := v) n
    have hline (l : Line) := loadClock_line (s := clockBreak s) (v := v) l
    have hset := loadClock_settings v (clockBreak s)
    rw [clockBreak_clock] at htimer hline
    rw [clockBreak_settings] at hset
    rw [hinterval] at hnext
    refine ⟨_, exec_setClock h hhi, ?_, ?_, ?_, ?_, ?_, fun hm => ?_, ⟨fun n => ?_, fun l => ?_, clockBreak_rest, clockBreak_trig⟩,
      fun hm => ?_, fun hm => ?_⟩
    · rw [settleDown_clock]
      exact hclock
    · rw [settleDown_settings]
      exact hset
    · rw [settleDown_ex_taken]
      rfl
    · rw [settleDown_temp]
      exact hshort
    · rw [settleDown_temp]
      exact hnext
    · rw [clockBreak_rest hm] at htimer hdet hveh hcal hrw ⊢
      rw [settleDown_rw_queue, settleDown_veh, settleDown_cal, settleDown_det, settleDown_trig]
      exact ⟨htimer, congrArg RecordWriter.queue hrw, hveh, hcal, hdet⟩
    · rw [settleDown_trig]
      exact htimer n
    · rw [settleDown_trig]
      exact hline l
    · obtain ⟨hlost, haborted, _, _, hchans, _⟩ := clockBreak_det hm
      rw [settleDown_det]
      rw [← hdet] at hlost haborted hchans
      exact ⟨hlost, haborted, fun hne c => (hchans hne c).trans (hitsLost_chan c)⟩
    · obtain ⟨_, _, hA, hB, _, hchan⟩ := clockBreak_det hm
      have hno : (clockBreak s).noContext = true := by
        rw [clockBreak_measuring hm, withoutRowA_noContext, truncateAll_noContext]
      have hrow : (clockBreak s).axle.rowA = [] := by rw [clockBreak_measuring hm, withoutRowA_rowA]
      rw [settleDown_noContext, settleDown_det, settleDown_axle]
      rw [← hdet] at hA hB hchan
      rw [← noContext_of_veh hveh] at hno
      rw [← haxle] at hrow
      refine ⟨hno, hA, hB, hrow, fun c hact => ?_⟩
      have hact' : ((loadClock v (clockBreak s)).det.chans.get c).active = true := hact
      obtain hc | hc := hchan c
      · rw [hc] at hact'
        obtain ⟨b, n, hlong⟩ := hitsLost_active hact'
        exact ⟨b, n, hc.trans hlong⟩
      · rw [hc] at hact'
        cases hact'

end Sys2Proof.Machine
end

section
/-!
PROOFS. SET PROBES and SET TEMPERATURE (R65, R79, R82, R83, R122).
-/

namespace Sys2Proof.Machine

/-! ### Fields checked in order, each beside the one before it -/

section
variable {α : Type} {key : α → Int} {ok : Option Int → α → Bool}

/-- Entries numbered from `n`, each with its check beside the entry before it. -/
def numberedBy (key : α → Int) (ok : Option Int → α → Bool) (n : Nat) (before : Option Int) : List α → List (Nat × Bool)
  | [] => []
  | a :: rest => (n, ok before a) :: numberedBy key ok (n + 1) (some (key a)) rest

/-- The entry before entry `i`. -/
def entryBefore (key : α → Int) (before : Option Int) (l : List α) : Nat → Option Int
  | 0 => before
  | i + 1 => (l[i]?).map key

theorem entryBefore_cons (before : Option Int) (a : α) (l : List α) (i : Nat) :
    entryBefore key before (a :: l) (i + 1) = entryBefore key (some (key a)) l i := by
  cases i <;> rfl

theorem firstBad_numberedBy_none {l : List α} {n : Nat} {before : Option Int}
    (h : ∀ i a, l[i]? = some a → ok (entryBefore key before l i) a = true) : firstBad (numberedBy key ok n before l) = none := by
  induction l generalizing n before with
  | nil => rfl
  | cons a rest ih =>
    have hfirst : ok before a = true := h 0 a rfl
    rw [numberedBy, firstBad, if_pos hfirst]
    exact ih fun i b hb => by rw [← entryBefore_cons before]; exact h (i + 1) b hb

theorem firstBad_numberedBy_some {l : List α} {n i : Nat} {before : Option Int} {a : α}
    (h : ∀ j, j < i → ∀ b, l[j]? = some b → ok (entryBefore key before l j) b = true) (ha : l[i]? = some a)
    (hbad : ok (entryBefore key before l i) a = false) : firstBad (numberedBy key ok n before l) = some (n + i) := by
  induction l generalizing n before i with
  | nil => cases ha
  | cons b rest ih =>
    rw [numberedBy, firstBad]
    cases i with
    | zero =>
      cases ha
      have hfirst : ok before a = false := hbad
      exact if_neg (by rw [hfirst]; exact Bool.false_ne_true)
    | succ i =>
      have hfirst : ok before b = true := h 0 (Nat.succ_pos i) b rfl
      have hrest := ih (n := n + 1) (i := i) (before := some (key b))
        (fun j hj c hc => by rw [← entryBefore_cons before]; exact h (j + 1) (Nat.succ_lt_succ hj) c hc) ha
        (by rw [← entryBefore_cons before]; exact hbad)
      rw [if_pos hfirst, hrest]
      exact congrArg some (by omega)

end

/-! ### SET PROBES (R83) -/

section
variable {mask p w : Word} {s : State}

theorem assignOf_probe (h : w.toNat < 6) : assignOf w = .probe ⟨w.toNat, h⟩ := dif_pos h

theorem assignOf_none (h : w.toNat = 15) : assignOf w = .unassigned := (dif_neg (by omega)).trans (if_pos h)

theorem assignOf_bad (h6 : ¬w.toNat < 6) (h : w.toNat ≠ 15) : assignOf w = .bad := (dif_neg h6).trans (if_neg h)

theorem primaryOk_iff : primaryOk mask (assignOf w) = true ↔ w.toNat = 15 ∨ w.toNat < 6 ∧ mask.getLsbD w.toNat = true := by
  by_cases h6 : w.toNat < 6
  · rw [assignOf_probe h6]
    exact ⟨fun h => .inr ⟨h6, h⟩, fun h => h.elim (fun e => by omega) And.right⟩
  · by_cases h : w.toNat = 15
    · rw [assignOf_none h]
      exact ⟨fun _ => .inl h, fun _ => rfl⟩
    · rw [assignOf_bad h6 h]
      exact ⟨fun e => (nomatch e), fun e => e.elim (fun e => absurd e h) fun e => absurd e.1 h6⟩

theorem assignOf_unassigned_iff : assignOf w = .unassigned ↔ w.toNat = 15 := by
  refine ⟨fun h => ?_, assignOf_none⟩
  by_contra hne
  by_cases h6 : w.toNat < 6
  · rw [assignOf_probe h6] at h
    cases h
  · rw [assignOf_bad h6 hne] at h
    cases h

theorem assignOf_probe_iff (hw : w.toNat < 6) : assignOf p = .probe ⟨w.toNat, hw⟩ ↔ p.toNat = w.toNat := by
  refine ⟨fun h => ?_, fun h => ?_⟩
  · by_cases h6 : p.toNat < 6
    · rw [assignOf_probe h6] at h
      have hval := congrArg Fin.val (Assign.probe.inj h)
      exact hval
    · by_cases h15 : p.toNat = 15
      · rw [assignOf_none h15] at h
        cases h
      · rw [assignOf_bad h6 h15] at h
        cases h
  · rw [assignOf_probe (h ▸ hw)]
    simp only [h]

theorem secondaryOk_iff : secondaryOk mask (assignOf p) (assignOf w) = true ↔
    w.toNat = 15 ∨ w.toNat < 6 ∧ mask.getLsbD w.toNat = true ∧ p.toNat ≠ 15 ∧ p.toNat ≠ w.toNat := by
  by_cases h6 : w.toNat < 6
  · rw [assignOf_probe h6, secondaryOk, Bool.and_eq_true, Bool.and_eq_true, decide_eq_true_eq, decide_eq_true_eq,
      ne_eq, ne_eq, assignOf_unassigned_iff, assignOf_probe_iff h6]
    exact ⟨fun h => .inr ⟨h6, h⟩, fun h => h.elim (fun e => by omega) And.right⟩
  · by_cases h : w.toNat = 15
    · rw [assignOf_none h]
      exact ⟨fun _ => .inl h, fun _ => rfl⟩
    · rw [assignOf_bad h6 h]
      exact ⟨fun e => (nomatch e), fun e => e.elim (fun e => absurd e h) fun e => absurd e.1 h6⟩

/-- An assignment word gives the probe it was made from. -/
theorem assignOf_probe? {x : Option Probe} (h : w.toNat = match x with | some p => p.val | none => 15) :
    (assignOf w).probe? = x := by
  cases x with
  | none => rw [assignOf_none h]; rfl
  | some q =>
    dsimp only at h
    rw [assignOf_probe (h ▸ q.isLt)]
    simp only [h]
    rfl

/-- The assignments of a good SET PROBES pass its checks. -/
theorem assign_ok {wa : Word} {a : Option Probe} (h : wa.toNat = match a with | some p => p.val | none => 15)
    (hmask : ∀ p, a = some p → mask.getLsbD p.val = true) : wa.toNat = 15 ∨ wa.toNat < 6 ∧ mask.getLsbD wa.toNat = true := by
  cases a with
  | none => exact .inl h
  | some p =>
    dsimp only at h
    rw [h]
    exact .inr ⟨p.isLt, hmask p rfl⟩

theorem assign_secondary_ok {wa va : Word} {a a2 : Option Probe} (h : wa.toNat = match a with | some p => p.val | none => 15)
    (h2 : va.toNat = match a2 with | some p => p.val | none => 15) (hmask : ∀ p, a2 = some p → mask.getLsbD p.val = true)
    (hbeside : a2 = none ∨ (a ≠ none ∧ a2 ≠ a)) :
    va.toNat = 15 ∨ va.toNat < 6 ∧ mask.getLsbD va.toNat = true ∧ wa.toNat ≠ 15 ∧ wa.toNat ≠ va.toNat := by
  refine (assign_ok h2 hmask).imp_right fun ⟨h6, hbit⟩ => ⟨h6, hbit, ?_⟩
  obtain hnone | ⟨hsome, hne⟩ := hbeside
  · rw [hnone] at h2
    dsimp only at h2
    omega
  · cases a with
    | none => exact absurd rfl hsome
    | some p =>
      cases a2 with
      | none => dsimp only at h2; omega
      | some q =>
        have hp := p.isLt
        dsimp only at h h2
        refine ⟨by omega, fun e => hne (congrArg some (Fin.ext ?_))⟩
        omega

theorem configure_eq (on : Bool) (x : ProbeState) :
    x.configure on = if on then (if x = .absent then .starting [] 0 else x) else .absent := rfl

theorem configureProbes_probe (mask : Word) (s : State) (q : Probe) :
    (configureProbes mask s).temp.probes.get q = (s.temp.probes.get q).configure (mask.getLsbD q.val) :=
  (Tab.get_ofNat ..).trans (dif_pos q.isLt)

theorem configureProbes_line (mask : Word) (s : State) : (configureProbes mask s).temp.line =
    s.temp.line.map fun x => { x with discard := x.discard || !mask.getLsbD x.probe.val } := by
  have hone (x : Polled) : (if bitAt mask x.probe.val then x else { x with discard := true }) =
      { x with discard := x.discard || !mask.getLsbD x.probe.val } := by
    unfold bitAt
    cases mask.getLsbD x.probe.val
    · exact (if_neg Bool.false_ne_true).trans (by rw [Bool.not_false, Bool.or_true])
    · exact (if_pos rfl).trans (by rw [Bool.not_true, Bool.or_false])
  exact congrArg (Option.map · s.temp.line) (funext hone)

end

/-! ### SET TEMPERATURE (R79, R82) -/

section
variable {s : State} {bs : List Int}

theorem halves_eq (lo hi : Int) : halves lo hi = half lo + 65536 * half hi := by
  unfold halves
  rw [put_eq]
  rfl

theorem boundsOf_eq {hold step interval : Word} {bs : List Word} (h : bs.length = 7) :
    boundsOf (hold :: step :: interval :: bs) = bs.map (·.toInt) := by
  match bs, h with
  | [_, _, _, _, _, _, _], _ => rfl

/-- A boundary is good beside the one before it. -/
def boundOk (before : Option Int) (b : Int) : Bool :=
  readingInRange b && (match before with | none => true | some p => decide (p < b))

theorem numberedBounds_eq (n : Nat) (before : Option Int) (bs : List Int) :
    numberedBounds n before bs = numberedBy id boundOk n before bs := by
  induction bs generalizing n before with
  | nil => rfl
  | cons b rest ih =>
    cases before <;> exact congrArg (List.cons _) (ih _ _)

theorem boundOk_iff {before : Option Int} {b : Int} :
    boundOk before b = true ↔ (-400 ≤ b ∧ b ≤ 850) ∧ ∀ p, before = some p → p < b := by
  unfold boundOk readingInRange
  rw [Bool.and_eq_true, Bool.and_eq_true, decide_eq_true_eq, decide_eq_true_eq]
  cases before <;> simp

theorem numberedBounds_good (hrange : ∀ b ∈ bs, -400 ≤ b ∧ b ≤ 850) (hrise : bs.Pairwise (· < ·)) :
    firstBad (numberedBounds 5 none bs) = none := by
  rw [numberedBounds_eq]
  refine firstBad_numberedBy_none fun i b hb => boundOk_iff.mpr ⟨hrange b (List.mem_of_getElem? hb), fun p hp => ?_⟩
  cases i with
  | zero => cases hp
  | succ i =>
    rw [entryBefore, Option.map_id] at hp
    obtain ⟨hj, hpj⟩ := List.getElem?_eq_some_iff.mp hp
    obtain ⟨hi, hbi⟩ := List.getElem?_eq_some_iff.mp hb
    rw [← hpj, ← hbi]
    exact List.pairwise_iff_getElem.mp hrise i (i + 1) hj hi (Nat.lt_succ_self i)

/-- SET TEMPERATURE with good boundaries, the lock clear or the boundaries held. -/
theorem setTemperature_good {hold step interval : Word} {ws : List Word} {t : OrderPage} {u : State}
    (h : OrderHeld .setTemperature 12 (hold :: step :: interval :: ws) t s) (hlen : ws.length = 7) (hbs : ws.map (·.toInt) = bs)
    (hrise : bs.Pairwise (· < ·)) (hrange : ∀ b ∈ bs, -400 ≤ b ∧ b ≤ 850) (hlock : ¬(s.cal.lock = true ∧ bs ≠ s.temp.bounds))
    (hu : storeTemperature (bring 60 86400 hold.toNat) (bring 2 100 step.toNat) (bring 60 3600 interval.toNat) bs s = u)
    (hex : u.ex.taken = s.ex.taken) : orderSetTemperature 12 (hold :: step :: interval :: ws) s =
      u.answered t 12 (rangeAnswer [(2, within 60 86400 hold.toNat), (3, within 2 100 step.toNat), (4, within 60 3600 interval.toNat)]) := by
  subst hu
  rw [← clamp_eq_bring (by decide), ← clamp_eq_bring (by decide), ← clamp_eq_bring (by decide)] at hex ⊢
  have hbounds := (boundsOf_eq (hold := hold) (step := step) (interval := interval) hlen).trans hbs
  unfold orderSetTemperature
  rw [hbounds, ifLength_ok _ rfl, if_neg hlock, numberedBounds_good hrange hrise]
  exact h.answerRanges hex [(2, 60, 86400, hold.toNat), (3, 2, 100, step.toNat), (4, 60, 3600, interval.toNat)] (by simp)

/-- A state whose temperature parameters are stored, the summary cut anew with another interval. -/
def State.temperatureStored (s : State) (hold step interval : Nat) : State :=
  let s1 : State := { s with temp.holdLimit := hold, temp.stepLimit := step, temp.interval := interval }
  if interval = s.temp.interval then s1 else recutSummary s1

theorem storeTemperature_eq (hold step interval : Nat) (bs : List Int) (s : State) : storeTemperature hold step interval bs s =
    if bs = s.temp.bounds then s.temperatureStored hold step interval else changeBounds bs (s.temperatureStored hold step interval) := rfl

theorem temperatureStored_frame (hold step interval : Nat) (s : State) : ∃ x, s.temperatureStored hold step interval =
    { s with temp.holdLimit := hold, temp.stepLimit := step, temp.interval := interval, temp.summary := x } := by
  unfold State.temperatureStored
  dsimp only
  split
  · exact ⟨_, rfl⟩
  · exact ⟨_, rfl⟩

theorem temperatureStored_held {interval : Nat} (hold step : Nat) (h : interval = s.temp.interval) :
    s.temperatureStored hold step interval = { s with temp.holdLimit := hold, temp.stepLimit := step } := by
  subst h
  exact if_pos rfl

theorem temperatureStored_recut {interval : Nat} (hold step : Nat) (h : interval ≠ s.temp.interval) :
    s.temperatureStored hold step interval =
      { s with
        temp.holdLimit := hold
        temp.stepLimit := step
        temp.interval := interval
        temp.summary.next := (s.clock / 8192 / interval + 1) * interval
        temp.summary.short := true } :=
  if_neg h

/-- The state whose boundaries are changed, before its record is made (R79). -/
def State.boundsChanged (s : State) (bs : List Int) : State := raiseGeneration (clearTallies { s with temp.bounds := bs })

theorem changeBounds_eq (bs : List Int) (s : State) : changeBounds bs s =
    calibrationRecord 5 0 0 0 0 (half (bs.getD 0 0) + 65536 * half (bs.getD 1 0)) (half (bs.getD 2 0) + 65536 * half (bs.getD 3 0))
      (half (bs.getD 4 0) + 65536 * half (bs.getD 5 0)) (half (bs.getD 6 0)) (s.boundsChanged bs) := by
  unfold changeBounds
  dsimp only
  rw [halves_eq, halves_eq, halves_eq, halves_eq]
  rfl

theorem boundsChanged_cell (bs : List Int) (s : State) (l : Lane) (b : Fin 8) :
    (((s.boundsChanged bs).cal.cells.get l).get b).kd = ((s.cal.cells.get l).get b).kd
      ∧ (((s.boundsChanged bs).cal.cells.get l).get b).count = 0 := by
  have hcell : ((s.boundsChanged bs).cal.cells.get l).get b = ((s.cal.cells.get l).get b).clearTally := map_clearTally_get ..
  rw [hcell]
  exact ⟨rfl, rfl⟩

theorem calibrationRecord_same (k l c n b w x y z : Nat) (s : State) :
    (calibrationRecord k l c n b w x y z s).temp = s.temp ∧ (calibrationRecord k l c n b w x y z s).ex = s.ex
      ∧ (calibrationRecord k l c n b w x y z s).rw.created = s.rw.created + 1 := by
  refine ⟨?_, ?_, createRecord_created ..⟩ <;>
  · unfold calibrationRecord
    rw [createRecord_firing .other _ s]

/-- The queue, with room, takes the calibration record (R122, R153). -/
theorem calibrationRecord_queue (k l c n b w x y z : Nat) {s : State} (h : s.rw.queue.length < 64) :
    (calibrationRecord k l c n b w x y z s).rw.queue = s.rw.queue ++ [s.calRecord k l c n b w x y z] := by
  unfold calibrationRecord
  rw [createRecord_queue_free _ _ h, calRecord_eq]

theorem calRecord_of {v : State} (hlock : v.cal.lock = s.cal.lock) (hclock : v.clock = s.clock) (hgen : v.cal.gen = s.cal.gen)
    (hcreated : v.rw.created = s.rw.created) (k l c n b w x y z : Nat) :
    v.calRecord k l c n b w x y z = s.calRecord k l c n b w x y z := by
  unfold State.calRecord State.newRecord
  rw [hlock, hclock, hgen, hcreated]

/-- The words 3 to 6 of the record of kind bands changed. -/
def boundWords (bs : List Int) : Nat × Nat × Nat × Nat :=
  (half (bs.getD 0 0) + 65536 * half (bs.getD 1 0), half (bs.getD 2 0) + 65536 * half (bs.getD 3 0),
    half (bs.getD 4 0) + 65536 * half (bs.getD 5 0), half (bs.getD 6 0))

/-- What a change of boundaries leaves (R79, R122). -/
theorem changeBounds_changed (bs : List Int) (s : State) :
    (changeBounds bs s).temp = { s.temp with bounds := bs } ∧ (changeBounds bs s).cal = (s.boundsChanged bs).cal
      ∧ (changeBounds bs s).ex = s.ex ∧ (changeBounds bs s).rw.created = s.rw.created + 1
      ∧ (s.rw.queue.length < 64 → (changeBounds bs s).rw.queue = s.rw.queue ++
          [(s.boundsChanged bs).calRecord 5 0 0 0 0 (boundWords bs).1 (boundWords bs).2.1 (boundWords bs).2.2.1 (boundWords bs).2.2.2]) := by
  rw [changeBounds_eq]
  obtain ⟨htemp, hex, hcreated⟩ := calibrationRecord_same 5 0 0 0 0 (boundWords bs).1 (boundWords bs).2.1 (boundWords bs).2.2.1
    (boundWords bs).2.2.2 (s.boundsChanged bs)
  exact ⟨htemp, calibrationRecord_cal .., hex, hcreated, fun hroom => calibrationRecord_queue (s := s.boundsChanged bs) 5 0 0 0 0 _ _ _ _ hroom⟩

/-- What SET TEMPERATURE stores with other boundaries (R79, R122). -/
theorem temperature_changed (hold step interval : Nat) (hne : bs ≠ s.temp.bounds) :
    ∃ u, storeTemperature hold step interval bs s = u ∧ u.temp.bounds = bs ∧ u.temp.holdLimit = hold ∧ u.temp.stepLimit = step
      ∧ u.temp.interval = interval ∧ u.cal.gen = nextGen s.cal.gen
      ∧ (∀ l b, ((u.cal.cells.get l).get b).kd = ((s.cal.cells.get l).get b).kd ∧ ((u.cal.cells.get l).get b).count = 0)
      ∧ u.ex.taken = s.ex.taken ∧ u.rw.created = s.rw.created + 1
      ∧ (s.rw.queue.length < 64 → u.rw.queue = s.rw.queue ++ [({ s with cal.gen := u.cal.gen } : State).calRecord 5 0 0 0 0
          (boundWords bs).1 (boundWords bs).2.1 (boundWords bs).2.2.1 (boundWords bs).2.2.2]) := by
  have hu := (storeTemperature_eq hold step interval bs s).trans (if_neg hne)
  obtain ⟨x, hstored⟩ := temperatureStored_frame hold step interval s
  have hcells := boundsChanged_cell bs (s.temperatureStored hold step interval)
  obtain ⟨htemp, hcal, hex, hcreated, hqueue⟩ := changeBounds_changed bs (s.temperatureStored hold step interval)
  have hrecord (k l c n b w x y z : Nat) : ((s.temperatureStored hold step interval).boundsChanged bs).calRecord k l c n b w x y z
      = ({ s with cal.gen := nextGen s.cal.gen } : State).calRecord k l c n b w x y z :=
    calRecord_of (by rw [hstored]; rfl) (by rw [hstored]; rfl) (by rw [hstored]; rfl) (by rw [hstored]; rfl) ..
  have hgen : ((s.temperatureStored hold step interval).boundsChanged bs).cal.gen = nextGen s.cal.gen := by rw [hstored]; rfl
  have hsame : (s.temperatureStored hold step interval).cal = s.cal ∧ (s.temperatureStored hold step interval).rw = s.rw
      ∧ (s.temperatureStored hold step interval).ex = s.ex := by rw [hstored]; exact ⟨rfl, rfl, rfl⟩
  obtain ⟨hcal0, hrw0, hex0⟩ := hsame
  rw [hrecord, hrw0] at hqueue
  rw [hcal0] at hcells
  refine ⟨_, hu, ?_, ?_, ?_, ?_, ?_, fun l b => ?_, ?_, ?_, fun hroom => ?_⟩
  · rw [htemp]
  · rw [htemp, hstored]
  · rw [htemp, hstored]
  · rw [htemp, hstored]
  · rw [hcal, hgen]
  · rw [hcal]
    exact hcells l b
  · rw [hex, hex0]
  · rw [hcreated, hrw0]
  · rw [hqueue hroom, hcal, hgen]

end

/-- Settles O49: SET PROBES with good assignments, and SET TEMPERATURE by its boundaries. -/
theorem temperatureOrders : Obligations.TemperatureOrders := by
  refine ⟨fun mask wa va wb vb a a2 b b2 t s h hwords ha hb => ?_, fun hold step interval ws t s h hlen => ?_⟩
  · obtain ⟨hwa, hma⟩ := hwords wa a (by simp)
    obtain ⟨hva, hma2⟩ := hwords va a2 (by simp)
    obtain ⟨hwb, hmb⟩ := hwords wb b (by simp)
    obtain ⟨hvb, hmb2⟩ := hwords vb b2 (by simp)
    have hgood : firstBad [(3, primaryOk mask (assignOf wa)), (4, secondaryOk mask (assignOf wa) (assignOf va)),
        (5, primaryOk mask (assignOf wb)), (6, secondaryOk mask (assignOf wb) (assignOf vb))] = none := by
      rw [primaryOk_iff.mpr (assign_ok hwa hma), primaryOk_iff.mpr (assign_ok hwb hmb),
        secondaryOk_iff.mpr (assign_secondary_ok hwa hva hma2 ha), secondaryOk_iff.mpr (assign_secondary_ok hwb hvb hmb2 hb)]
      rfl
    have hdone := h.answer (u := { configureProbes mask s with
      temp.assign :=
        { a := { primary := (assignOf wa).probe?, secondary := (assignOf va).probe? },
          b := { primary := (assignOf wb).probe?, secondary := (assignOf vb).probe? } } }) rfl .done 0
    have horder : orderSetProbes 7 [mask, wa, va, wb, vb] s = _ :=
      (ifLength_ok _ rfl).trans ((congrArg (ifFields · _ s) hgood).trans hdone)
    rw [assignOf_probe? hwa, assignOf_probe? hva, assignOf_probe? hwb, assignOf_probe? hvb] at horder
    refine ⟨_, h.run_eq horder, settleDown_ex_taken _, fun p => ?_, ?_, ?_, ?_, ?_, settleDown_cal _, settleDown_settings _⟩ <;>
      rw [settleDown_temp]
    · exact (configureProbes_probe mask s p).trans (configure_eq ..)
    · rfl
    · rfl
    · exact configureProbes_line mask s
    · rfl
  · intro hh k i ans to_ hrise hrange
    refine ⟨fun hsame hi => ?_, fun hsame hi => ?_, fun hne hlock => ?_⟩
    · exact h.run_eq (setTemperature_good h hlen rfl hrise hrange (fun e => e.2 hsame)
        ((storeTemperature_eq ..).trans ((if_pos hsame).trans (temperatureStored_held _ _ hi))) rfl)
    · exact h.run_eq (setTemperature_good h hlen rfl hrise hrange (fun e => e.2 hsame)
        ((storeTemperature_eq ..).trans ((if_pos hsame).trans (temperatureStored_recut _ _ hi))) rfl)
    · obtain ⟨u, hu, hbounds, hhold, hstep, hint, hgen, hcells, hex, hcreated, hqueue⟩ := temperature_changed hh k i hne
      refine ⟨_, h.run_eq (setTemperature_good h hlen rfl hrise hrange (fun e => absurd (hlock.symm.trans e.1) (by decide)) hu hex),
        settleDown_ex_taken _, ?_, ?_, ?_, ?_, ?_, fun l b => ?_, ?_, fun hroom => ?_⟩
      · rw [settleDown_temp]
        exact hbounds
      · rw [settleDown_temp]
        exact hhold
      · rw [settleDown_temp]
        exact hstep
      · rw [settleDown_temp]
        exact hint
      · rw [settleDown_cal]
        exact hgen
      · rw [settleDown_cal]
        exact hcells l b
      · rw [settleDown_rw_created]
        exact hcreated
      · rw [settleDown_rw_queue, settleDown_cal]
        exact hqueue hroom

end Sys2Proof.Machine
end

section
/-!
PROOFS. The curve orders (R76, R77, R111, R122).
-/

namespace Sys2Proof.Machine

section
variable {k : OrderKind} {len : Nat} {ps : List Word} {t : OrderPage} {s u : State}

/-- A LOAD goes on to read its inline data into the empty shadow of its kind. -/
theorem beginLoad_curve (ht : s.ex.taken = some t) : beginLoad .loadTemperatureCurve len ps s =
    ({ s with temp.shadow := some [] } : State).reading t (.loading .loadTemperatureCurve len ps) :=
  setReader_taken _ ht

theorem beginLoad_classes (ht : s.ex.taken = some t) : beginLoad .loadClassTable len ps s =
    ({ s with cls.shadow := some [] } : State).reading t (.loading .loadClassTable len ps) :=
  setReader_taken _ ht

/-! ### Curve points (R76) -/

theorem signed16_low (w : Word) : signed16 (field w 0 16) = (w.setWidth 16).toInt := by
  rw [field_eq, BitVec.toInt_eq_toNat_cond, BitVec.toNat_setWidth]
  unfold signed16
  norm_num
  split <;> split <;> omega

theorem pointOf_eq (w : Word) : pointOf w = ((w.setWidth 16).toInt, w.toNat / 65536) := by
  have hw := w.isLt
  unfold pointOf
  rw [signed16_low, field_eq, Nat.mod_eq_of_lt (by omega)]
  norm_num

/-- A point is good beside the temperature of the one before it. -/
def pointOk (before : Option Int) (x : Int × Nat) : Bool :=
  (match before with | none => true | some b => decide (b < x.1)) && (decide (8192 ≤ x.2) && decide (x.2 ≤ 32767))

theorem numberedPoints_eq (n : Nat) (before : Option Int) (l : List (Int × Nat)) :
    numberedPoints n before l = numberedBy Prod.fst pointOk n before l := by
  induction l generalizing n before with
  | nil => rfl
  | cons x rest ih =>
    cases before <;> exact congrArg (List.cons _) (ih _ _)

theorem pointOk_iff {before : Option Int} {x : Int × Nat} :
    pointOk before x = true ↔ (8192 ≤ x.2 ∧ x.2 ≤ 32767) ∧ ∀ b, before = some b → b < x.1 := by
  unfold pointOk
  rw [Bool.and_eq_true, Bool.and_eq_true, decide_eq_true_eq, decide_eq_true_eq]
  cases before <;> simp [and_comm]

theorem numberedPoints_good {l : List (Int × Nat)} (hrise : l.Pairwise (·.1 < ·.1)) (hrange : ∀ x ∈ l, 8192 ≤ x.2 ∧ x.2 ≤ 32767) :
    firstBad (numberedPoints 1 none l) = none := by
  rw [numberedPoints_eq]
  refine firstBad_numberedBy_none fun i x hx => pointOk_iff.mpr ⟨hrange x (List.mem_of_getElem? hx), fun b hb => ?_⟩
  cases i with
  | zero => cases hb
  | succ i =>
    obtain ⟨y, hy, hyb⟩ := Option.map_eq_some_iff.mp hb
    obtain ⟨hj, hyj⟩ := List.getElem?_eq_some_iff.mp hy
    obtain ⟨hi, hxi⟩ := List.getElem?_eq_some_iff.mp hx
    rw [← hyb, ← hyj, ← hxi]
    exact List.pairwise_iff_getElem.mp hrise i (i + 1) hj hi (Nat.lt_succ_self i)

/-! ### A curve becomes active -/

/-- What a curve made active leaves (R76, R77, R111, R122). -/
theorem installCurve_installed {c : Curve} {w3 : Nat} (hw : b2n c.loaded + put 8 c.points.length = w3) (s : State) :
    (installCurve c s).temp = { s.temp with curve := c, shadow := none }
      ∧ (installCurve c s).cal = { s.cal with gen := nextGen s.cal.gen } ∧ (installCurve c s).ex = s.ex
      ∧ (installCurve c s).rw.created = s.rw.created + 1
      ∧ (s.rw.queue.length < 64 → (installCurve c s).rw.queue = s.rw.queue ++
          [({ s with cal.gen := nextGen s.cal.gen } : State).calRecord 4 0 0 0 0 w3 0 0 0]) := by
  subst hw
  obtain ⟨htemp, hex, hcreated⟩ := calibrationRecord_same 4 0 0 0 0 (b2n c.loaded + put 8 c.points.length) 0 0 0
    (raiseGeneration { s with temp.curve := c, temp.shadow := none })
  exact ⟨htemp, calibrationRecord_cal .., hex, hcreated, fun hroom => calibrationRecord_queue (s := raiseGeneration
    { s with temp.curve := c, temp.shadow := none }) 4 0 0 0 0 _ _ _ _ hroom⟩

/-- The state an order that makes a curve active leaves once it is answered. -/
theorem curve_installed {c : Curve} {w3 : Nat} (hw : b2n c.loaded + put 8 c.points.length = w3)
    (hu : u = settleDown ((installCurve c s).answered t len (.done, 0))) :
    u.temp.curve = c ∧ u.temp.shadow = none ∧ u.cal.gen = nextGen s.cal.gen ∧ u.cal.cells = s.cal.cells
      ∧ u.rw.created = s.rw.created + 1 ∧ u.ex.taken = some { t with phase := .outcome len .done 0 false }
      ∧ (s.rw.queue.length < 64 → u.rw.queue = s.rw.queue
          ++ [({ s with cal.gen := u.cal.gen } : State).calRecord 4 0 0 0 0 w3 0 0 0]) := by
  obtain ⟨htemp, hcal, -, hcreated, hqueue⟩ := installCurve_installed hw s
  have htemp' : u.temp = { s.temp with curve := c, shadow := none } := by rw [hu, settleDown_temp]; exact htemp
  have hcal' : u.cal = { s.cal with gen := nextGen s.cal.gen } := by rw [hu, settleDown_cal]; exact hcal
  refine ⟨by rw [htemp'], by rw [htemp'], by rw [hcal'], by rw [hcal'], ?_, ?_, fun hroom => ?_⟩
  · rw [hu, settleDown_rw_created]
    exact hcreated
  · rw [hu]
    exact settleDown_ex_taken _
  · rw [hcal', hu, settleDown_rw_queue]
    exact hqueue hroom

/-- LOAD TEMPERATURE CURVE once its data has been read (R76). -/
theorem exec_loadTemperatureCurveDone {ws : List Word} (h : LoadHeld .loadTemperatureCurve len ps t s)
    (hs : s.temp.shadow = some ws) (hu : finishCurve ws s = u) : exec .loadTemperatureCurveDone s = .next (settleDown u) := by
  show execLoadTemperatureCurveDone s = _
  unfold execLoadTemperatureCurveDone
  rw [h.loadedInHand]
  exact answerNext_eq (by rw [hs]; exact hu)

theorem finishCurve_good {ws : List Word} (h : LoadHeld .loadTemperatureCurve len ps t s)
    (hgood : firstBad (numberedPoints 1 none (ws.map pointOf)) = none) : finishCurve ws s =
      (installCurve { points := ws.map pointOf, loaded := true } s).answered t len (.done, 0) := by
  unfold finishCurve
  dsimp only
  rw [hgood]
  exact h.answer (congrArg Exchange.taken (installCurve_installed rfl s).2.2.1) _ _

end

/-- Settles O50: a LOAD checks its count, its points once read become active, and so does the built-in curve. -/
theorem curveOrders : Obligations.CurveOrders := by
  refine ⟨fun len n t s h hlock => ⟨fun h2 h16 hlen => ?_, fun hbad => ?_⟩, fun len ps ws t s h hs => ?_,
    fun len ps t s h hlock => ?_⟩
  · refine h.run_eq ((ifUnlocked_clear _ hlock).trans ((ifFields_one_good _ ?_).trans (beginLoad_curve h.taken)))
    show (decide (3 ≤ len) && (decide (2 ≤ n.toNat) && (decide (n.toNat ≤ 16) && decide (len = 3 + n.toNat)))) = true
    simp only [Bool.and_eq_true, decide_eq_true_eq]
    omega
  · refine h.run_eq ((ifUnlocked_clear _ hlock).trans ((ifFields_one_bad _ ?_).trans (h.answer rfl _ _)))
    show (decide (3 ≤ len) && (decide (2 ≤ n.toNat) && (decide (n.toNat ≤ 16) && decide (len = 3 + n.toNat)))) = false
    rw [Bool.eq_false_iff]
    simp only [ne_eq, Bool.and_eq_true, decide_eq_true_eq]
    omega
  · intro points hrise hrange
    have hpoints : ws.map pointOf = points := List.map_congr_left fun w _ => pointOf_eq w
    have hw : b2n true + put 8 points.length = 1 + 256 * points.length := by rw [put_eq]; rfl
    have hfinish := finishCurve_good (ws := ws) h (by rw [hpoints]; exact numberedPoints_good hrise hrange)
    rw [hpoints] at hfinish
    obtain ⟨hcurve, hshadow, hgen, hcells, hcreated, htaken, hqueue⟩ :=
      curve_installed (c := { points := points, loaded := true }) (s := s) (t := t) (len := len) hw rfl
    exact ⟨_, exec_loadTemperatureCurveDone h hs hfinish, hcurve, hshadow, hgen, hcells, hcreated, htaken, hqueue⟩
  · obtain ⟨hcurve, -, hgen, hcells, hcreated, htaken, hqueue⟩ :=
      curve_installed (c := builtInCurve) (s := s) (t := t) (len := len) (w3 := 256 * 5) rfl rfl
    exact ⟨_, h.run_eq ((ifUnlocked_clear _ hlock).trans (h.answer
      (congrArg Exchange.taken (installCurve_installed (c := builtInCurve) rfl s).2.2.1) _ _)), hcurve, hgen, hcells, hcreated, htaken, hqueue⟩

end Sys2Proof.Machine
end

section
/-!
PROOFS. LOAD CLASS TABLE: entries are read back from the layout of 10.6, and the walk of the data (R104, R183).
-/

namespace Sys2Proof.Machine

/-! ### Fields of the words of the layouts -/

/-- The sum of the fields of a word, each at its bit. -/
def placed (fs : List (Nat × Nat)) : Nat := (fs.map fun f => f.2 * 2 ^ f.1).sum

theorem placed_nil : placed [] = 0 := Eq.trans List.sum_nil rfl

theorem placed_cons (lo v : Nat) (rest : List (Nat × Nat)) : placed ((lo, v) :: rest) = v * 2 ^ lo + placed rest :=
  (congrArg List.sum List.map_cons).trans List.sum_cons

theorem wordOf_toNat (fs : List (Nat × Nat)) : (wordOf fs).toNat = placed fs % 4294967296 := BitVec.toNat_ofNat ..

theorem bitAt_eq (w : Word) (i : Nat) : bitAt w i = decide (w.toNat / 2 ^ i % 2 = 1) :=
  Nat.testBit_eq_decide_div_mod_eq

theorem present_eq {α : Type} (x : Option α) : present x = if x.isSome then 1 else 0 := rfl

theorem present_le {α : Type} (x : Option α) : present x ≤ 1 := by
  unfold present
  split <;> omega

theorem decide_present {α : Type} (x : Option α) : decide (present x = 1) = x.isSome := by
  cases x <;> rfl

section
variable {e : ClassEntry} {es : List ClassEntry} {n : Nat}

/-! ### An entry read back -/

/-- The first word of an entry. -/
def ClassEntry.headWord (e : ClassEntry) : Word :=
  wordOf [(0, e.code), (8, e.axMin), (12, e.axMax), (16, e.windows.length), (20, present e.gross), (21, present e.firstMin),
    (22, present e.reference)]

theorem headWord_toNat (h : e.fitsFields) : e.headWord.toNat = e.code + e.axMin * 256 + e.axMax * 4096 + e.windows.length * 65536
    + present e.gross * 1048576 + present e.firstMin * 2097152 + present e.reference * 4194304 := by
  obtain ⟨hcode, hmin, hmax, hlen, -⟩ := h
  have hg := present_le e.gross
  have hf := present_le e.firstMin
  have hr := present_le e.reference
  rw [ClassEntry.headWord, wordOf_toNat]
  simp only [placed_cons, placed_nil, Nat.reducePow]
  omega

theorem headWord_field {lo width v : Nat} (h : e.fitsFields)
    (hv : e.code + e.axMin * 256 + e.axMax * 4096 + e.windows.length * 65536 + present e.gross * 1048576
      + present e.firstMin * 2097152 + present e.reference * 4194304 = v) : field e.headWord lo width = v / 2 ^ lo % 2 ^ width := by
  rw [field_eq, headWord_toNat h, hv]

theorem headWord_bit {i v : Nat} (h : e.fitsFields)
    (hv : (e.code + e.axMin * 256 + e.axMax * 4096 + e.windows.length * 65536 + present e.gross * 1048576
      + present e.firstMin * 2097152 + present e.reference * 4194304) / 2 ^ i % 2 = v) : bitAt e.headWord i = decide (v = 1) := by
  rw [bitAt_eq, headWord_toNat h, hv]

theorem wordOf_whole {v : Nat} (h : v ≤ 4294967295) : (wordOf [(0, v)]).toNat = v := by
  rw [wordOf_toNat]
  simp only [placed_cons, placed_nil, Nat.reducePow]
  omega

theorem wordOf_halves {a b : Nat} (ha : a ≤ 65535) (hb : b ≤ 65535) :
    field (wordOf [(0, a), (16, b)]) 0 16 = a ∧ field (wordOf [(0, a), (16, b)]) 16 16 = b := by
  rw [field_eq, field_eq, wordOf_toNat]
  simp only [placed_cons, placed_nil, Nat.reducePow]
  omega

theorem wordOf_low {a b : Nat} (ha : a < 16) (_ : b ≤ 65535) : field (wordOf [(0, a), (16, b)]) 0 4 = a := by
  rw [field_eq, wordOf_toNat]
  simp only [placed_cons, placed_nil, Nat.reducePow]
  omega

theorem windowOf_wordOf {w : Nat × Nat} (h : w.1 ≤ 65535 ∧ w.2 ≤ 65535) : windowOf (wordOf [(0, w.1), (16, w.2)]) = w := by
  obtain ⟨h1, h2⟩ := wordOf_halves h.1 h.2
  exact Prod.ext h1 h2

/-- The entry read from its own words. -/
theorem entryOf_words (h : e.fitsFields) : entryOf e.headWord (wordOf [(0, (e.gross.getD (0, 0)).1)])
    (wordOf [(0, (e.gross.getD (0, 0)).2)]) (wordOf [(0, e.firstMin.getD 0)])
    (wordOf [(0, (e.reference.getD (0, 0)).1), (16, (e.reference.getD (0, 0)).2)])
    (e.windows.map fun w => wordOf [(0, w.1), (16, w.2)]) = e := by
  obtain ⟨hcode, hmin, hmax, hlen, hwin, hgross, hfirst, href⟩ := id h
  have hg := present_le e.gross
  have hf := present_le e.firstMin
  have hr := present_le e.reference
  have hbits : bitAt e.headWord 20 = e.gross.isSome ∧ bitAt e.headWord 21 = e.firstMin.isSome
      ∧ bitAt e.headWord 22 = e.reference.isSome := by
    rw [headWord_bit (v := present e.gross) h (by omega), headWord_bit (v := present e.firstMin) h (by omega),
      headWord_bit (v := present e.reference) h (by omega)]
    exact ⟨decide_present _, decide_present _, decide_present _⟩
  have hfields : field e.headWord 0 6 = e.code ∧ field e.headWord 8 4 = e.axMin ∧ field e.headWord 12 4 = e.axMax := by
    rw [headWord_field h rfl, headWord_field h rfl, headWord_field h rfl]
    omega
  have hwindows : (e.windows.map fun w => wordOf [(0, w.1), (16, w.2)]).map windowOf = e.windows := by
    rw [List.map_map]
    exact (List.map_congr_left fun w hw => windowOf_wordOf (hwin w hw)).trans (List.map_id' _)
  obtain ⟨hb20, hb21, hb22⟩ := hbits
  obtain ⟨hf0, hf8, hf12⟩ := hfields
  unfold entryOf
  rw [hb20, hb21, hb22, hf0, hf8, hf12, hwindows]
  obtain ⟨code, axMin, axMax, windows, gross, firstMin, reference⟩ := e
  dsimp only at hgross hfirst href ⊢
  congr 1
  · cases gross with
    | none => rfl
    | some g =>
      obtain ⟨hlo, hhi⟩ := hgross g.1 g.2 rfl
      simp only [Option.isSome_some, if_true, Option.getD_some]
      rw [wordOf_whole hlo, wordOf_whole hhi]
  · cases firstMin with
    | none => rfl
    | some m =>
      simp only [Option.isSome_some, if_true, Option.getD_some]
      rw [wordOf_whole (hfirst m rfl)]
  · cases reference with
    | none => rfl
    | some r =>
      obtain ⟨hidx, htarget⟩ := href r.1 r.2 rfl
      simp only [Option.isSome_some, if_true, Option.getD_some]
      rw [wordOf_low hidx htarget, (wordOf_halves (by omega) htarget).2]

/-! ### The walk of the entries (R183) -/

theorem walkEntries_words (h : ∀ e ∈ es, e.fitsFields) : walkEntries es.length (es.flatMap ClassEntry.words) = some es := by
  induction es with
  | nil => rfl
  | cons e rest ih =>
    obtain ⟨he, hrest⟩ := List.forall_mem_cons.mp h
    have hg := present_le e.gross
    have hf := present_le e.firstMin
    have hr := present_le e.reference
    have hcount : field e.headWord 16 4 = (e.windows.map fun w => wordOf [(0, w.1), (16, w.2)]).length := by
      obtain ⟨hcode, hmin, hmax, hlen, -⟩ := id he
      rw [headWord_field he rfl, List.length_map]
      omega
    have hwords : (e :: rest).flatMap ClassEntry.words = e.headWord :: wordOf [(0, (e.gross.getD (0, 0)).1)]
        :: wordOf [(0, (e.gross.getD (0, 0)).2)] :: wordOf [(0, e.firstMin.getD 0)]
        :: wordOf [(0, (e.reference.getD (0, 0)).1), (16, (e.reference.getD (0, 0)).2)]
        :: ((e.windows.map fun w => wordOf [(0, w.1), (16, w.2)]) ++ rest.flatMap ClassEntry.words) := rfl
    rw [hwords, List.length_cons, walkEntries]
    rw [hcount, List.drop_left, List.take_left, if_neg (by rw [List.length_append]; omega), ih hrest, Option.map_some, entryOf_words he]

theorem walkEnds_of_walkEntries {ws : List Word} (h : walkEntries n ws = some es) : WalkEnds n ws := by
  induction n, ws using walkEntries.induct generalizing es with
  | case1 => exact .none
  | case2 => cases h
  | case3 n w0 w1 w2 w3 w4 rest w =>
    rename_i hlt
    rw [walkEntries, if_pos hlt] at h
    cases h
  | case4 n w0 w1 w2 w3 w4 rest w hge =>
    rename_i ih
    rw [walkEntries, if_neg hge] at h
    obtain ⟨es', hes, -⟩ := Option.map_eq_some_iff.mp h
    have hw : field w0 16 4 = w0.toNat / 65536 % 16 := field_eq ..
    rw [← List.take_append_drop (field w0 16 4) rest]
    exact .entry (by rw [List.length_take, ← hw]; omega) (ih hes)
  | case5 n ws hshort =>
    rw [walkEntries] at h
    · cases h
    · exact hshort

/-! ### The checks of the entries (R104) -/

theorem good_iff : e.good = true ↔ e.Sound := by
  obtain ⟨code, axMin, axMax, windows, gross, firstMin, reference⟩ := e
  unfold ClassEntry.good ClassEntry.Sound
  obtain _ | ⟨lo, hi⟩ := gross
  · obtain _ | ⟨idx, target⟩ := reference <;> simp [and_assoc]
  · obtain _ | ⟨idx, target⟩ := reference <;> simp [and_assoc]

theorem numberedFrom_eq (n : Nat) (es : List ClassEntry) :
    numberedFrom n es = numberedBy (fun _ => 0) (fun _ e => e.good) n none es := by
  have hany (before : Option Int) : numberedFrom n es = numberedBy (fun _ => 0) (fun _ e => e.good) n before es := by
    induction es generalizing n before with
    | nil => rfl
    | cons e rest ih => exact congrArg (List.cons _) (ih _ _)
  exact hany none

theorem fitsLayout_fields (h : e.fitsLayout) : e.fitsFields := by
  obtain ⟨⟨hc1, hc2⟩, ⟨ha1, ha2, ha3⟩, ⟨hl, hw⟩, hg, hf, hr⟩ := h
  refine ⟨by omega, by omega, by omega, by omega, fun w hw' => ?_, fun lo hi hgs => ?_, hf, fun idx target hrs => ?_⟩
  · have := hw w hw'
    omega
  · have := hg lo hi hgs
    omega
  · have := hr idx target hrs
    omega

theorem fitsLayout_sound (h : e.fitsLayout) : e.Sound := by
  obtain ⟨hc, ha, ⟨hl, hw⟩, hg, hf, hr⟩ := h
  refine ⟨hc, ha, ⟨hl, fun w hw' => (hw w hw').1⟩, fun lo hi hgs => (hg lo hi hgs).1, fun idx target hrs => ?_⟩
  have := hr idx target hrs
  omega

theorem numberedFrom_good (h : ∀ e ∈ es, e.Sound) : firstBad (numberedFrom 1 es) = none := by
  rw [numberedFrom_eq]
  exact firstBad_numberedBy_none fun i e he => good_iff.mpr (h e (List.mem_of_getElem? he))

theorem numberedFrom_bad {pre post : List ClassEntry} (h : ∀ d ∈ pre, d.Sound) (he : ¬e.Sound) :
    firstBad (numberedFrom 1 (pre ++ e :: post)) = some (pre.length + 1) := by
  rw [numberedFrom_eq, Nat.add_comm]
  refine firstBad_numberedBy_some (a := e) (fun j hj d hd => ?_) ?_ (Bool.eq_false_iff.mpr (mt good_iff.mp he))
  · rw [List.getElem?_append_left hj] at hd
    exact good_iff.mpr (h d (List.mem_of_getElem? hd))
  · rw [List.getElem?_append_right (Nat.le_refl _), Nat.sub_self]
    rfl

end

section
variable {len : Nat} {n : Word} {ps ws : List Word} {t : OrderPage} {s u : State}

/-- LOAD CLASS TABLE once its data has been read (R104). -/
theorem exec_loadClassTableDone (h : LoadHeld .loadClassTable len (n :: ps) t s) (hs : s.cls.shadow = some ws)
    (hu : finishClassTable n.toNat ws s = u) : exec .loadClassTableDone s = .next (settleDown u) := by
  have hcount : s.loadCount = n.toNat := by
    unfold State.loadCount
    rw [h.taken]
    dsimp only
    rw [h.2.2.2.2]
    rfl
  show execLoadClassTableDone s = _
  unfold execLoadClassTableDone
  rw [h.loadedInHand, hcount]
  exact answerNext_eq (by rw [hs]; exact hu)

end

/-- Settles O51: the count is checked, and the entries read back from their words become the active table. -/
theorem classTableLoads : Obligations.ClassTableLoads := by
  refine ⟨fun len n t s h => ⟨fun h1 h32 hlen => ?_, fun hbad => ?_⟩, fun es len n ps t s h hn hfits hs => ?_⟩
  · refine h.run_eq ((ifFields_one_good _ ?_).trans (beginLoad_classes h.taken))
    show (decide (3 < len) && (decide (1 ≤ n.toNat) && decide (n.toNat ≤ 32))) = true
    simp only [Bool.and_eq_true, decide_eq_true_eq]
    omega
  · refine h.run_eq ((ifFields_one_bad _ ?_).trans (h.answer rfl _ _))
    show (decide (3 < len) && (decide (1 ≤ n.toNat) && decide (n.toNat ≤ 32))) = false
    rw [Bool.eq_false_iff]
    simp only [ne_eq, Bool.and_eq_true, decide_eq_true_eq]
    omega
  · intro g
    refine exec_loadClassTableDone h hs ?_
    unfold finishClassTable
    rw [hn, walkEntries_words fun e he => fitsLayout_fields (hfits e he)]
    dsimp only
    rw [numberedFrom_good fun e he => fitsLayout_sound (hfits e he)]
    exact h.answer (by rfl) _ _

end Sys2Proof.Machine
end

section
/-!
PROOFS. Channel factors, drift parameters, reset, restore and lock, with their records (R110, R113, R114, R120-R122, R124).
-/

namespace Sys2Proof.Machine

section
variable {len w3 : Nat} {ps : List Word} {t : OrderPage} {s u v : State}

/-! ### An order answered with one calibration record -/

/-- What an order leaves that makes one calibration record of kind `k` from `v` and is answered. -/
structure RecordAnswered (t : OrderPage) (len k w3 : Nat) (ans : OrderOutcome × Nat) (v u : State) : Prop where
  cal : u.cal = v.cal
  settings : u.settings = v.settings
  created : u.rw.created = v.rw.created + 1
  taken : u.ex.taken = some { t with phase := .outcome len ans.1 ans.2 false }
  queue : v.rw.queue.length < 64 → u.rw.queue = v.rw.queue ++ [v.calRecord k 0 0 0 0 w3 0 0 0]

theorem record_answered (t : OrderPage) (len k w3 : Nat) (ans : OrderOutcome × Nat) (v : State) :
    RecordAnswered t len k w3 ans v (settleDown ((calibrationRecord k 0 0 0 0 w3 0 0 0 v).answered t len ans)) := by
  refine ⟨?_, ?_, ?_, settleDown_ex_taken _, fun hroom => ?_⟩
  · rw [settleDown_cal]
    exact calibrationRecord_cal ..
  · rw [settleDown_settings]
    exact calibrationRecord_settings ..
  · rw [settleDown_rw_created]
    exact (calibrationRecord_same ..).2.2
  · rw [settleDown_rw_queue]
    exact calibrationRecord_queue k 0 0 0 0 w3 0 0 0 hroom

theorem OrderHeld.answerRecord {k : OrderKind} {c : Nat} (h : OrderHeld k len ps t s) (hv : v.ex.taken = s.ex.taken) (o : OrderOutcome)
    (d : Nat) : fixOutcome o d (calibrationRecord c 0 0 0 0 w3 0 0 0 v) =
      (calibrationRecord c 0 0 0 0 w3 0 0 0 v).answered t len (o, d) :=
  h.answer ((congrArg Exchange.taken (calibrationRecord_same ..).2.1).trans hv) o d

theorem OrderHeld.answerRangesRecord {k : OrderKind} {c : Nat} (h : OrderHeld k len ps t s) (hv : v.ex.taken = s.ex.taken)
    (fs : List (Nat × Nat × Nat × Nat)) (hfs : ∀ f ∈ fs, f.2.1 ≤ f.2.2.1) :
    answerClamped (firstClamped (fs.map fun f => clamped f.1 f.2.1 f.2.2.1 f.2.2.2)) (calibrationRecord c 0 0 0 0 w3 0 0 0 v) =
      (calibrationRecord c 0 0 0 0 w3 0 0 0 v).answered t len (rangeAnswer (fs.map fun f => (f.1, within f.2.1 f.2.2.1 f.2.2.2))) :=
  h.answerRanges ((congrArg Exchange.taken (calibrationRecord_same ..).2.1).trans hv) fs hfs

/-! ### SET CHANNEL FACTORS (R110) -/

theorem firstClamped_isSome (fs : List (Nat × Int × Int)) : (firstClamped fs).isSome = fs.any fun f => decide (f.2.1 ≠ f.2.2) := by
  induction fs with
  | nil => rfl
  | cons f rest ih =>
    rw [firstClamped, List.any_cons]
    by_cases hf : f.2.1 = f.2.2
    · rw [if_pos hf, ih, decide_eq_false (not_not.mpr hf), Bool.false_or]
    · rw [if_neg hf, decide_eq_true hf, Bool.true_or]
      rfl

theorem clamp_factor (w : Word) : clamp 1 4294967295 w.toNat = max 1 w.toNat := by
  have hw := w.isLt
  unfold clamp
  split
  · omega
  · rw [if_neg (by omega)]
    omega

/-- The factor fields of an order as position, range and value. -/
def factorRanges (ps : List Word) : List (Nat × Nat × Nat × Nat) :=
  (List.range 16).map fun i => (2 + i, 1, 4294967295, (ps.getD i 0).toNat)

theorem param_from_two (ps : List Word) (i : Nat) : paramNat ps (2 + i) = (ps.getD i 0).toNat := by
  unfold paramNat
  rw [param_eq, Nat.add_sub_cancel_left]

theorem factorFields_eq (ps : List Word) : ((List.range 16).map fun i => clamped (2 + i) 1 4294967295 (paramNat ps (2 + i))) =
    (factorRanges ps).map fun f => clamped f.1 f.2.1 f.2.2.1 f.2.2.2 := by
  rw [factorRanges, List.map_map]
  exact List.map_congr_left fun i _ => congrArg (clamped (2 + i) 1 4294967295) (param_from_two ps i)

theorem factorFields_isSome (ps : List Word) :
    b2n (firstClamped ((List.range 16).map fun i => clamped (2 + i) 1 4294967295 (paramNat ps (2 + i)))).isSome =
      if ∃ c : Chan, (ps.getD c.val 0).toNat = 0 then 1 else 0 := by
  have hiff : (firstClamped ((List.range 16).map fun i => clamped (2 + i) 1 4294967295 (paramNat ps (2 + i)))).isSome = true ↔
      ∃ c : Chan, (ps.getD c.val 0).toNat = 0 := by
    rw [firstClamped_isSome, List.any_map, List.any_eq_true]
    constructor
    · rintro ⟨i, hi, hne⟩
      rw [Function.comp_apply, decide_eq_true_eq, clamped, param_from_two, clamp_factor] at hne
      exact ⟨⟨i, List.mem_range.mp hi⟩, by dsimp only at hne ⊢; omega⟩
    · rintro ⟨c, hc⟩
      refine ⟨c.val, List.mem_range.mpr c.isLt, ?_⟩
      rw [Function.comp_apply, decide_eq_true_eq, clamped, param_from_two, clamp_factor]
      dsimp only
      omega
  unfold b2n
  exact if_congr hiff rfl rfl

theorem setChannelFactors_stores (h : OrderHeld .setChannelFactors 18 ps t s) (hrun : s.run = .ready) (hlock : s.cal.lock = false) :
    orderSetChannelFactors 18 ps s =
      (calibrationRecord 3 0 0 0 0 (if ∃ c : Chan, (ps.getD c.val 0).toNat = 0 then 1 else 0) 0 0 0
        (raiseGeneration { s with cal.factors := Tab.ofNat 16 fun i => clamp 1 4294967295 (paramNat ps (2 + i)) })).answered t 18
        (rangeAnswer ((List.range 16).map fun i => (2 + i, within 1 4294967295 (ps.getD i 0).toNat))) := by
  refine ((ifReady_ready _ hrun).trans ((ifUnlocked_clear _ hlock).trans (ifLength_ok _ rfl))).trans ?_
  dsimp only
  rw [factorFields_isSome, factorFields_eq]
  have hanswer := h.answerRangesRecord (v := raiseGeneration
    { s with cal.factors := Tab.ofNat 16 fun i => clamp 1 4294967295 (paramNat ps (2 + i)) }) (c := 3)
    (w3 := if ∃ c : Chan, (ps.getD c.val 0).toNat = 0 then 1 else 0) rfl (factorRanges ps) fun f hf => by
      obtain ⟨i, -, rfl⟩ := List.mem_map.mp hf
      exact Nat.le_of_ble_eq_true rfl
  rw [factorRanges, List.map_map, List.map_map] at hanswer
  rw [factorRanges, List.map_map]
  exact hanswer

/-! ### RESTORE DRIFT (R121) -/

/-- The factor fields of RESTORE DRIFT as position, range and value. -/
def restoreRanges (lower upper : Nat) (ps : List Word) : List (Nat × Nat × Nat × Nat) :=
  (List.range 32).map fun i => (2 + i, lower, upper, (ps.getD i 0).toNat)

theorem restoreFields_eq (lower upper : Nat) (ps : List Word) :
    ((List.range 32).map fun i => clamped (2 + i) lower upper (paramNat ps (2 + i))) =
      (restoreRanges lower upper ps).map fun f => clamped f.1 f.2.1 f.2.2.1 f.2.2.2 := by
  rw [restoreRanges, List.map_map]
  exact List.map_congr_left fun i _ => congrArg (clamped (2 + i) lower upper) (param_from_two ps i)

theorem restoreFields_count {lower upper : Nat} (h : lower ≤ upper) (ps : List Word) :
    (((List.range 32).map fun i => clamped (2 + i) lower upper (paramNat ps (2 + i))).countP fun f => decide (f.2.1 ≠ f.2.2)) =
      (List.range 32).countP fun i => !within lower upper (ps.getD i 0).toNat := by
  rw [List.countP_map]
  refine List.countP_congr fun i _ => ?_
  rw [Function.comp_apply, decide_eq_true_eq, clamped, param_from_two, Bool.not_eq_true', ← Bool.not_eq_true,
    ← clamp_eq_self h]
  dsimp only
  exact not_congr Int.ofNat_inj

theorem restoreDrift_stores (h : OrderHeld .restoreDrift 34 ps t s) (hlock : s.cal.lock = false) (hle : s.cal.lower ≤ s.cal.upper) :
    orderRestoreDrift 34 ps s =
      (calibrationRecord 7 0 0 0 0 ((List.range 32).countP fun i => !within s.cal.lower s.cal.upper (ps.getD i 0).toNat) 0 0 0
        { s with cal.cells := restoredCells s.cal.lower s.cal.upper ps }).answered t 34
        (rangeAnswer ((List.range 32).map fun i => (2 + i, within s.cal.lower s.cal.upper (ps.getD i 0).toNat))) := by
  refine ((ifUnlocked_clear _ hlock).trans (ifLength_ok _ rfl)).trans ?_
  dsimp only
  rw [restoreFields_count hle, restoreFields_eq]
  have hanswer := h.answerRangesRecord (v := { s with cal.cells := restoredCells s.cal.lower s.cal.upper ps }) (c := 7)
    (w3 := (List.range 32).countP fun i => !within s.cal.lower s.cal.upper (ps.getD i 0).toNat) rfl
    (restoreRanges s.cal.lower s.cal.upper ps) fun f hf => by
      obtain ⟨i, -, rfl⟩ := List.mem_map.mp hf
      exact hle
  rw [restoreRanges, List.map_map, List.map_map] at hanswer
  rw [restoreRanges, List.map_map]
  exact hanswer

/-! ### The narrowing of SET DRIFT (R114) -/

/-- A cell outside the limits held. -/
def State.beyondLimits (s : State) (x : Lane × Fin 8) : Bool := !within s.cal.lower s.cal.upper ((s.cal.cells.get x.1).get x.2).kd

/-- The record of a cell brought within the limits, made after `i` others. -/
def State.narrowRecord (s : State) (x : Lane × Fin 8) (i : Nat) : Rec :=
  let c := (s.cal.cells.get x.1).get x.2
  ({ s with rw.created := s.rw.created + i } : State).calRecord 2 (if s.cal.upper < c.kd then 1 else 0) 1 (x.1.val + 1) x.2.val
    (c.kd + 65536 * bring s.cal.lower s.cal.upper c.kd) (c.lastTick % 4294967296) 0 c.updates

theorem narrow_within {lower upper : Nat} {c : Cell} (h : within lower upper c.kd = true) : c.narrow lower upper = none := by
  unfold within at h
  rw [Bool.and_eq_true, decide_eq_true_eq, decide_eq_true_eq] at h
  exact (if_neg (by omega)).trans (if_neg (by omega))

theorem narrow_outside {lower upper : Nat} (hle : lower ≤ upper) {c : Cell} (h : within lower upper c.kd = false) :
    c.narrow lower upper = some ({ c with kd := bring lower upper c.kd, limit := true }, decide (upper < c.kd)) := by
  have hout : c.kd < lower ∨ upper < c.kd := by
    by_contra hin
    rw [within, Bool.and_eq_false_iff, decide_eq_false_iff_not, decide_eq_false_iff_not] at h
    omega
  unfold Cell.narrow bring
  obtain hlow | hup := hout
  · rw [if_pos hlow, show max lower (min upper c.kd) = lower by omega, decide_eq_false (by omega)]
  · rw [if_neg (by omega), if_pos hup, show max lower (min upper c.kd) = upper by omega, decide_eq_true hup]

/-- What the limits make of a cell (R114). -/
theorem within_eq {lower upper : Nat} (hle : lower ≤ upper) (c : Cell) : c.within lower upper =
    { c with kd := bring lower upper c.kd, limit := c.limit || !within lower upper c.kd } := by
  unfold Cell.within
  cases h : within lower upper c.kd with
  | false =>
    rw [narrow_outside hle h, Bool.not_false, Bool.or_true]
    rfl
  | true =>
    rw [narrow_within h, Bool.not_true, Bool.or_false]
    unfold within at h
    rw [Bool.and_eq_true, decide_eq_true_eq, decide_eq_true_eq] at h
    have hkd : bring lower upper c.kd = c.kd := by unfold bring; omega
    rw [hkd]
    rfl

theorem narrowCell_inside {x : Lane × Fin 8} (h : s.beyondLimits x = false) : narrowCell x.1 x.2 s = s := by
  unfold State.beyondLimits at h
  unfold narrowCell
  dsimp only
  rw [narrow_within (by simpa using h)]

/-- The state of a cell brought within the limits and its record. -/
theorem narrowCell_outside {x : Lane × Fin 8} (hle : s.cal.lower ≤ s.cal.upper) (h : s.beyondLimits x = true) :
    (narrowCell x.1 x.2 s).clock = s.clock ∧ (narrowCell x.1 x.2 s).ex = s.ex ∧ (narrowCell x.1 x.2 s).rw.created = s.rw.created + 1
      ∧ (s.rw.queue.length < 64 → (narrowCell x.1 x.2 s).rw.queue = s.rw.queue ++ [s.narrowRecord x 0]) := by
  unfold State.beyondLimits at h
  rw [Bool.not_eq_true'] at h
  have hput (a b : Nat) : a + put 16 b = a + 65536 * b := by rw [put_eq]; rfl
  unfold narrowCell
  dsimp only
  rw [narrow_outside hle h]
  dsimp only
  obtain ⟨-, hex, hcreated⟩ := calibrationRecord_same 2 (b2n (decide (s.cal.upper < ((s.cal.cells.get x.1).get x.2).kd))) 1
    (x.1.val + 1) x.2.val (((s.cal.cells.get x.1).get x.2).kd + put 16 (bring s.cal.lower s.cal.upper ((s.cal.cells.get x.1).get x.2).kd))
    (tickLow ((s.cal.cells.get x.1).get x.2).lastTick) 0 ((s.cal.cells.get x.1).get x.2).updates
    (setCell x.1 x.2 { (s.cal.cells.get x.1).get x.2 with
      kd := bring s.cal.lower s.cal.upper ((s.cal.cells.get x.1).get x.2).kd, limit := true } s)
  refine ⟨?_, hex, hcreated, fun hroom => ?_⟩
  · unfold calibrationRecord
    rw [createRecord_firing .other _ (setCell ..)]
    rfl
  · rw [calibrationRecord_queue (s := setCell ..) 2 _ 1 _ _ _ _ 0 _ hroom, hput]
    refine congrArg (fun r => s.rw.queue ++ [r]) ((calRecord_of (s := { s with rw.created := s.rw.created + 0 }) rfl rfl rfl rfl ..).trans ?_)
    unfold State.narrowRecord b2n tickLow
    dsimp only
    congr 1
    exact if_congr decide_eq_true_iff rfl rfl

theorem outside_narrowed {x y : Lane × Fin 8} (hne : y ≠ x) :
    (narrowCell x.1 x.2 s).beyondLimits y = s.beyondLimits y := by
  unfold State.beyondLimits
  rw [narrowCell_cal, setCell_get_ne _ _ _ _ _ _ (by grind)]
  rfl

theorem narrowRecord_narrowed {x y : Lane × Fin 8} (hle : s.cal.lower ≤ s.cal.upper) (hx : s.beyondLimits x = true) (hne : y ≠ x) (i : Nat) :
    (narrowCell x.1 x.2 s).narrowRecord y i = s.narrowRecord y (i + 1) := by
  obtain ⟨hclock, -, hcreated, -⟩ := narrowCell_outside hle hx
  have hcal := narrowCell_cal x.1 x.2 s
  have hcell : (((narrowCell x.1 x.2 s).cal.cells.get y.1).get y.2) = (s.cal.cells.get y.1).get y.2 := by
    rw [hcal, setCell_get_ne _ _ _ _ _ _ (by grind)]
  have hlimits : (narrowCell x.1 x.2 s).cal.lower = s.cal.lower ∧ (narrowCell x.1 x.2 s).cal.upper = s.cal.upper := by
    rw [hcal]
    exact ⟨rfl, rfl⟩
  have hcounts (i : Nat) : (narrowCell x.1 x.2 s).rw.created + i = s.rw.created + (i + 1) := by omega
  unfold State.narrowRecord
  dsimp only
  rw [hcell, hlimits.1, hlimits.2]
  exact calRecord_of (v := { narrowCell x.1 x.2 s with rw.created := (narrowCell x.1 x.2 s).rw.created + i })
    (s := { s with rw.created := s.rw.created + (i + 1) }) (by rw [hcal]; rfl) hclock (by rw [hcal]; rfl) (hcounts i) ..

/-- A fold of narrowings over cells each listed once: its records, in the order of the list. -/
theorem foldl_narrowCell_records (xs : List (Lane × Fin 8)) (s : State) (hle : s.cal.lower ≤ s.cal.upper) (hnodup : xs.Nodup) :
    (xs.foldl (fun u x => narrowCell x.1 x.2 u) s).ex = s.ex
      ∧ (xs.foldl (fun u x => narrowCell x.1 x.2 u) s).rw.created = s.rw.created + (xs.filter s.beyondLimits).length
      ∧ (s.rw.queue.length + (xs.filter s.beyondLimits).length ≤ 64 → (xs.foldl (fun u x => narrowCell x.1 x.2 u) s).rw.queue =
          s.rw.queue ++ (xs.filter s.beyondLimits).zipIdx.map fun y => s.narrowRecord y.1 y.2) := by
  induction xs generalizing s with
  | nil => exact ⟨rfl, rfl, fun _ => (List.append_nil _).symm⟩
  | cons x rest ih =>
    obtain ⟨hx, hrest⟩ := List.nodup_cons.mp hnodup
    rw [List.foldl_cons, List.filter_cons]
    cases hout : s.beyondLimits x with
    | false =>
      rw [if_neg Bool.false_ne_true, narrowCell_inside hout]
      exact ih s hle hrest
    | true =>
      have hne {y : Lane × Fin 8} (hy : y ∈ rest) : y ≠ x := fun e => hx (e ▸ hy)
      have hcal := narrowCell_cal x.1 x.2 s
      obtain ⟨-, hex, hcreated, hqueue⟩ := narrowCell_outside hle hout
      obtain ⟨ihex, ihcreated, ihqueue⟩ := ih (narrowCell x.1 x.2 s) (by rw [hcal]; exact hle) hrest
      have hfilter : rest.filter (narrowCell x.1 x.2 s).beyondLimits = rest.filter s.beyondLimits :=
        List.filter_congr fun y hy => outside_narrowed (hne hy)
      rw [hfilter] at ihcreated ihqueue
      rw [if_pos rfl, List.length_cons]
      refine ⟨ihex.trans hex, by omega, fun hroom => ?_⟩
      have hq := hqueue (by omega)
      rw [ihqueue (by rw [hq, List.length_append, List.length_singleton]; omega), hq, List.append_assoc, List.zipIdx_cons',
        List.map_cons, List.map_map]
      refine congrArg (fun l => s.rw.queue ++ (s.narrowRecord x 0 :: l)) (List.map_congr_left fun y hy => ?_)
      have hy' : y.1 ∈ rest := List.mem_of_mem_filter (List.fst_mem_of_mem_zipIdx hy)
      exact narrowRecord_narrowed hle hout (hne hy') y.2

theorem cellList_nodup : cellList.Nodup := by decide

/-! ### SET DRIFT (R113, R114) -/

variable {window maxStep lower upper : Nat} {enables : Tab 4 Bool}

/-- The drift fields of an order, the drift table aside. -/
theorem driftFields_frame (window maxStep lower upper : Nat) (enables : Tab 4 Bool) (s : State) :
    ∃ cells, driftFields window maxStep lower upper enables s = { s with cal := { s.cal with
      cells := cells, window := window, maxStep := maxStep, lower := lower, upper := upper, enables := enables } } := by
  unfold driftFields
  dsimp only
  split
  · exact ⟨s.cal.cells, rfl⟩
  · exact ⟨_, rfl⟩

theorem driftFields_cell (l : Lane) (b : Fin 8) :
    let x := (s.cal.cells.get l).get b
    let y := ((driftFields window maxStep lower upper enables s).cal.cells.get l).get b
    y.kd = x.kd ∧ y.limit = x.limit ∧ y.updates = x.updates ∧ y.lastTick = x.lastTick
      ∧ y.count = if window = s.cal.window then x.count else 0 := by
  intro x y
  by_cases hw : window = s.cal.window
  · have hy : y = x := by
      show ((driftFields window maxStep lower upper enables s).cal.cells.get l).get b = x
      unfold driftFields
      rw [if_pos hw]
    rw [hy, if_pos hw]
    exact ⟨rfl, rfl, rfl, rfl, rfl⟩
  · have hy : y = x.clearTally := by
      show ((driftFields window maxStep lower upper enables s).cal.cells.get l).get b = x.clearTally
      unfold driftFields
      rw [if_neg hw]
      exact map_clearTally_get ..
    rw [hy, if_neg hw]
    exact ⟨rfl, rfl, rfl, rfl, rfl⟩

/-- The record of a cell narrowed once the fields of the order are stored. -/
theorem driftFields_record (x : Lane × Fin 8) (i : Nat) :
    (driftFields window maxStep lower upper enables s).narrowRecord x i =
      ({ s with rw.created := s.rw.created + i } : State).calRecord 2 (if upper < ((s.cal.cells.get x.1).get x.2).kd then 1 else 0) 1
        (x.1.val + 1) x.2.val (((s.cal.cells.get x.1).get x.2).kd + 65536 * bring lower upper ((s.cal.cells.get x.1).get x.2).kd)
        (((s.cal.cells.get x.1).get x.2).lastTick % 4294967296) 0 ((s.cal.cells.get x.1).get x.2).updates := by
  obtain ⟨hkd, -, hupdates, hlast, -⟩ := driftFields_cell (s := s) (window := window) (maxStep := maxStep) (lower := lower)
    (upper := upper) (enables := enables) x.1 x.2
  obtain ⟨cells, hframe⟩ := driftFields_frame window maxStep lower upper enables s
  have hlimits : (driftFields window maxStep lower upper enables s).cal.lower = lower
      ∧ (driftFields window maxStep lower upper enables s).cal.upper = upper := by
    rw [hframe]
    exact ⟨rfl, rfl⟩
  unfold State.narrowRecord
  dsimp only
  rw [hkd, hupdates, hlast, hlimits.1, hlimits.2]
  exact calRecord_of (by rw [hframe]) (by rw [hframe]) (by rw [hframe]) (by rw [hframe]) ..

/-- What the fields of SET DRIFT leave once stored: the narrowed cells and their records in order (R113, R114). -/
theorem storeDrift_stored (hle : lower ≤ upper) :
    ∃ u, storeDrift window maxStep lower upper enables s = u ∧ u.ex = s.ex
      ∧ (∃ cells, u.cal = { s.cal with
          cells := cells, window := window, maxStep := maxStep, lower := lower, upper := upper, enables := enables })
      ∧ (∀ l k, let x := (s.cal.cells.get l).get k
          let y := (u.cal.cells.get l).get k
          y.kd = bring lower upper x.kd ∧ y.limit = (x.limit || !within lower upper x.kd) ∧ y.updates = x.updates
            ∧ y.lastTick = x.lastTick ∧ y.count = (if window = s.cal.window then x.count else 0))
      ∧ (let narrowed := cellList.filter fun x => !within lower upper ((s.cal.cells.get x.1).get x.2).kd
         u.rw.created = s.rw.created + narrowed.length
         ∧ (s.rw.queue.length + narrowed.length ≤ 64 → u.rw.queue = s.rw.queue ++ narrowed.zipIdx.map fun y =>
             let x := (s.cal.cells.get y.1.1).get y.1.2
             ({ s with rw.created := s.rw.created + y.2 } : State).calRecord 2 (if upper < x.kd then 1 else 0) 1 (y.1.1.val + 1) y.1.2.val
               (x.kd + 65536 * bring lower upper x.kd) (x.lastTick % 4294967296) 0 x.updates)) := by
  obtain ⟨cells0, hframe⟩ := driftFields_frame window maxStep lower upper enables s
  have hlimits : (driftFields window maxStep lower upper enables s).cal.lower = lower
      ∧ (driftFields window maxStep lower upper enables s).cal.upper = upper
      ∧ (driftFields window maxStep lower upper enables s).ex = s.ex ∧ (driftFields window maxStep lower upper enables s).rw = s.rw := by
    rw [hframe]
    exact ⟨rfl, rfl, rfl, rfl⟩
  obtain ⟨hlower, hupper, hex0, hrw0⟩ := hlimits
  have hle' : (driftFields window maxStep lower upper enables s).cal.lower ≤ (driftFields window maxStep lower upper enables s).cal.upper := by
    rw [hlower, hupper]
    exact hle
  obtain ⟨cells, hcal, hget⟩ := narrowAll_cal _ hle'
  obtain ⟨hex, hcreated, hqueue⟩ := foldl_narrowCell_records cellList _ hle' cellList_nodup
  have hout : (driftFields window maxStep lower upper enables s).beyondLimits =
      fun x => !within lower upper ((s.cal.cells.get x.1).get x.2).kd := by
    funext x
    unfold State.beyondLimits
    rw [(driftFields_cell x.1 x.2).1, hlower, hupper]
  rw [← narrowAll_eq] at hex hcreated hqueue
  rw [hout, hrw0] at hcreated hqueue
  refine ⟨_, storeDrift_eq .., hex.trans hex0, ⟨cells, ?_⟩, fun l k => ?_, hcreated, fun hroom => (hqueue hroom).trans ?_⟩
  · rw [hcal, hframe]
  · intro x y
    obtain ⟨hkd, hlimit, hupdates, hlast, hcount⟩ := driftFields_cell (s := s) (window := window) (maxStep := maxStep)
      (lower := lower) (upper := upper) (enables := enables) l k
    have hy : y = (((driftFields window maxStep lower upper enables s).cal.cells.get l).get k).within lower upper := by
      show ((narrowAll (driftFields window maxStep lower upper enables s)).cal.cells.get l).get k = _
      rw [hcal]
      exact (hget l k).trans (by rw [hlower, hupper])
    rw [hy, within_eq hle]
    dsimp only
    rw [hkd, hlimit, hupdates, hlast, hcount]
    exact ⟨rfl, rfl, rfl, rfl, rfl⟩
  · exact congrArg (s.rw.queue ++ ·) (List.map_congr_left fun y _ => driftFields_record y.1 y.2)

end

/-- SET DRIFT, unlocked or with the limits held. -/
theorem setDrift_stores {a b c d e : Word} {t : OrderPage} {s u : State} (h : OrderHeld .setDrift 7 [a, b, c, d, e] t s)
    (hlock : s.cal.lock = false ∨ (c.toNat = s.cal.lower ∧ d.toNat = s.cal.upper))
    (hu : storeDrift (bring 8 1024 a.toNat) (bring 16 1638 b.toNat) (bring 8192 16384 c.toNat) (bring 16384 24576 d.toNat)
      (Tab.ofNat 4 fun i => bitAt e i) s = u) (hex : u.ex.taken = s.ex.taken) :
    orderSetDrift 7 [a, b, c, d, e] s = u.answered t 7 (rangeAnswer [(2, within 8 1024 a.toNat), (3, within 16 1638 b.toNat),
      (4, within 8192 16384 c.toNat), (5, within 16384 24576 d.toNat)]) := by
  rw [← clamp_eq_bring (by decide), ← clamp_eq_bring (by decide), ← clamp_eq_bring (by decide), ← clamp_eq_bring (by decide)] at hu
  have hfree : ¬(s.cal.lock = true ∧ (c.toNat ≠ s.cal.lower ∨ d.toNat ≠ s.cal.upper)) := fun ⟨hset, hne⟩ =>
    hlock.elim (fun hclear => Bool.false_ne_true (hclear.symm.trans hset)) fun heq => hne.elim (absurd heq.1) (absurd heq.2)
  unfold orderSetDrift
  rw [ifLength_ok _ rfl]
  refine (if_neg hfree).trans ?_
  show answerClamped _ (storeDrift (clamp 8 1024 a.toNat) (clamp 16 1638 b.toNat) (clamp 8192 16384 c.toNat)
    (clamp 16384 24576 d.toNat) (Tab.ofNat 4 fun i => bitAt e i) s) = _
  rw [hu]
  exact h.answerRanges hex [(2, 8, 1024, a.toNat), (3, 16, 1638, b.toNat), (4, 8192, 16384, c.toNat), (5, 16384, 24576, d.toNat)] (by simp)

/-- Settles O52: each order as its lemma gives it, SET DRIFT by the narrowing of the cells in their order. -/
theorem calibrationOrders : Obligations.CalibrationOrders := by
  refine ⟨fun ps t s h hlen hrun hlock => ?_, fun a b c d e t s h hlock => ?_, fun len ps t s h hlock => ?_,
    fun ps t s h hlen hlock hle => ?_, fun len ps t s h => ?_⟩
  · have hr := record_answered t 18 3 (if ∃ c : Chan, (ps.getD c.val 0).toNat = 0 then 1 else 0)
      (rangeAnswer ((List.range 16).map fun i => (2 + i, within 1 4294967295 (ps.getD i 0).toNat)))
      (raiseGeneration { s with cal.factors := Tab.ofNat 16 fun i => clamp 1 4294967295 (paramNat ps (2 + i)) })
    refine ⟨_, h.run_eq (setChannelFactors_stores h hrun hlock), fun c => ?_, ?_, ?_, hr.created, hr.taken, fun hroom => ?_⟩
    · rw [hr.cal]
      refine (Tab.get_ofNat ..).trans ?_
      rw [param_from_two, clamp_factor]
    · rw [hr.cal]
      rfl
    · rw [hr.cal]
      rfl
    · rw [hr.cal, hr.queue hroom]
      exact congrArg (fun r => s.rw.queue ++ [r]) (calRecord_of rfl rfl rfl rfl ..)
  · intro lower upper
    have hle : lower ≤ upper := (bring_le (by decide) _).trans (le_bring 16384 24576 d.toNat)
    obtain ⟨u, hu, hex, ⟨cells, hcal⟩, hcells, hcreated, hqueue⟩ := storeDrift_stored (s := s) (window := bring 8 1024 a.toNat)
      (maxStep := bring 16 1638 b.toNat) (enables := Tab.ofNat 4 fun i => bitAt e i) hle
    refine ⟨_, h.run_eq (setDrift_stores h hlock hu (congrArg Exchange.taken hex)), ?_⟩
    rw [settleDown_cal, settleDown_ex_taken, settleDown_rw_created, settleDown_rw_queue]
    have hcal' : (u.answered t 7 (rangeAnswer [(2, within 8 1024 a.toNat), (3, within 16 1638 b.toNat),
      (4, within 8192 16384 c.toNat), (5, within 16384 24576 d.toNat)])).cal = u.cal := rfl
    rw [hcal', hcal]
    rw [hcal] at hcells
    exact ⟨rfl, rfl, rfl, rfl, fun l => Tab.get_ofNat .., rfl, hcells, rfl, hcreated, hqueue⟩
  · have hr := record_answered t len 6 0 (.done, 0) { s with cal.cells := Tab.fill 4 (Tab.fill 8 Cell.reset) }
    refine ⟨_, h.run_eq ((ifUnlocked_clear _ hlock).trans (h.answerRecord (by rfl) _ _)), fun l b => ?_, hr.settings, hr.created,
      hr.taken, fun hroom => hr.queue hroom⟩
    rw [hr.cal]
    show ((Tab.fill 4 (Tab.fill 8 Cell.reset)).get l).get b = _
    rw [Tab.get_fill, Tab.get_fill]
    rfl
  · have hr := record_answered t 34 7 ((List.range 32).countP fun i => !within s.cal.lower s.cal.upper (ps.getD i 0).toNat)
      (rangeAnswer ((List.range 32).map fun i => (2 + i, within s.cal.lower s.cal.upper (ps.getD i 0).toNat)))
      { s with cal.cells := restoredCells s.cal.lower s.cal.upper ps }
    refine ⟨_, h.run_eq (restoreDrift_stores h hlock hle), fun l b => ?_, hr.settings, hr.created, hr.taken, fun hroom => hr.queue hroom⟩
    rw [hr.cal]
    refine (restoredCells_get ..).trans ?_
    rw [Nat.add_assoc, param_from_two, clamp_eq_bring hle]
    rfl
  · cases hset : s.cal.lock with
    | true =>
      refine ⟨_, h.run_eq ((congrArg done (if_pos hset)).trans (h.answer rfl _ _)), ?_, ?_, settleDown_rw_created _, settleDown_ex_taken _,
        fun hclear => (nomatch hclear)⟩
      · rw [settleDown_settings]
        show s.settings = _
        rw [← hset]
        rfl
      · rw [settleDown_cal]
        rfl
    | false =>
      have hr := record_answered t len 8 0 (.done, 0) { s with cal.lock := true }
      refine ⟨_, h.run_eq ((congrArg done (if_neg (by rw [hset]; decide))).trans (h.answerRecord (by rfl) _ _)), hr.settings, ?_,
        hr.created, hr.taken, fun _ hroom => hr.queue hroom⟩
      rw [hr.cal]

end Sys2Proof.Machine
end

section
/-!
PROOFS. SET TRIGGER reads a definition back from the words of its layout (R128; 10, 10.6).
-/

namespace Sys2Proof.Machine

/-! ### Fields of a word read back -/

section
variable {fs : List (Nat × Nat)}

theorem field_wordOf {lo width x : Nat} (h : placed fs % 4294967296 / 2 ^ lo % 2 ^ width = x) : field (wordOf fs) lo width = x := by
  rw [field_eq, wordOf_toNat, h]

theorem flagOf_le (b : Bool) : flagOf b ≤ 1 := by cases b <;> decide

theorem bitAt_wordOf {i : Nat} {b : Bool} (h : placed fs % 4294967296 / 2 ^ i % 2 = flagOf b) : bitAt (wordOf fs) i = b := by
  rw [bitAt_eq, wordOf_toNat, h]
  cases b <;> rfl

theorem present_flagOf {α : Type} (x : Option α) : present x = flagOf x.isSome := by cases x <;> rfl

/-- A mask read back, an empty one being absent. -/
theorem mask_read {m : Option (BitVec 4)} (h : m ≠ some 0) {x : Nat} (hx : x = (m.getD 0).toNat) :
    (if x = 0 then none else some (BitVec.ofNat 4 x)) = m := by
  subst hx
  cases m with
  | none => rfl
  | some v =>
    have hv : v.toNat ≠ 0 := fun e => h (congrArg some (BitVec.eq_of_toNat_eq e))
    exact (if_neg hv).trans (congrArg some (BitVec.ofNat_toNat ..))

theorem signed16_ofInt {theta : Int} (hlo : -400 ≤ theta) (hhi : theta ≤ 850) {x : Nat} (hx : x = (BitVec.ofInt 16 theta).toNat) :
    signed16 x = theta := by
  subst hx
  rw [BitVec.toNat_ofInt]
  unfold signed16
  norm_num
  split <;> omega

end

/-! ### The words of a definition -/

section
variable (d : TriggerDef) (n : SetId) (en : Bool)

/-- Each word of a definition, at its position in the order. -/
theorem param_words :
    param (d.words n en) 2 = wordOf [(0, n.val), (8, flagOf en), (9, flagOf d.once), (10, flagOf d.report), (16, d.factor.code)]
      ∧ param (d.words n en) 3 = wordOf [(0, d.enableMask.toNat), (8, d.disableMask.toNat), (16, d.activateMask.toNat)]
      ∧ (param (d.words n en) 4 = d.factor.words.getD 0 0 ∧ param (d.words n en) 5 = d.factor.words.getD 1 0
        ∧ param (d.words n en) 6 = d.factor.words.getD 2 0 ∧ param (d.words n en) 7 = d.factor.words.getD 3 0)
      ∧ (param (d.words n en) 8 = (pulseWords d.pulse).getD 0 0 ∧ param (d.words n en) 9 = (pulseWords d.pulse).getD 1 0)
      ∧ param (d.words n en) 10 = timerWord d.timerAct
      ∧ (param (d.words n en) 11 = (captureWords d.captureAct).getD 0 0 ∧ param (d.words n en) 12 = (captureWords d.captureAct).getD 1 0)
      ∧ param (d.words n en) 13 = wordOf [(0, d.period)] ∧ param (d.words n en) 14 = wordOf [(0, flagOf d.repeats)] := by
  obtain ⟨w4, w5, w6, w7, hfactor⟩ : ∃ a b c e, d.factor.words = [a, b, c, e] := by
    cases d.factor <;> exact ⟨_, _, _, _, rfl⟩
  obtain ⟨w8, w9, hpulse⟩ : ∃ a b, pulseWords d.pulse = [a, b] := by
    obtain _ | ⟨line, width, timing⟩ := d.pulse
    · exact ⟨_, _, rfl⟩
    · cases timing <;> exact ⟨_, _, rfl⟩
  obtain ⟨w11, w12, hcapture⟩ : ∃ a b, captureWords d.captureAct = [a, b] := by
    obtain _ | ⟨lane, pre, maxFrames⟩ := d.captureAct
    · exact ⟨_, _, rfl⟩
    · cases lane <;> exact ⟨_, _, rfl⟩
  simp only [param_eq, TriggerDef.words, hfactor, hpulse, hcapture]
  exact ⟨rfl, rfl, ⟨rfl, rfl, rfl, rfl⟩, ⟨rfl, rfl⟩, rfl, ⟨rfl, rfl⟩, rfl, rfl⟩

variable {d n en}

theorem factor_code_le : d.factor.code ≤ 8 := by
  cases d.factor <;> simp [Factor.code]

/-- Word 2: the set, its enabled state, ONCE, REPORT and the factor code. -/
theorem head_read : field (param (d.words n en) 2) 0 4 = n.val ∧ bitAt (param (d.words n en) 2) 8 = en
    ∧ bitAt (param (d.words n en) 2) 9 = d.once ∧ bitAt (param (d.words n en) 2) 10 = d.report
    ∧ factorCode (d.words n en) = d.factor.code := by
  have hn := n.isLt
  have hen := flagOf_le en
  have honce := flagOf_le d.once
  have hreport := flagOf_le d.report
  have hcode := factor_code_le (d := d)
  unfold factorCode
  rw [(param_words d n en).1]
  refine ⟨field_wordOf ?_, bitAt_wordOf ?_, bitAt_wordOf ?_, bitAt_wordOf ?_, field_wordOf ?_⟩ <;>
  · simp only [placed_cons, placed_nil, Nat.reducePow]
    omega

/-- Word 3: the chain masks. -/
theorem chain_read : chainMask (d.words n en) 0 = d.enableMask ∧ chainMask (d.words n en) 8 = d.disableMask
    ∧ chainMask (d.words n en) 16 = d.activateMask := by
  have he := d.enableMask.isLt
  have hd := d.disableMask.isLt
  have ha := d.activateMask.isLt
  have hmask {x : Nat} {m : BitVec 8} (h : x = m.toNat) : BitVec.ofNat 8 x = m := h ▸ BitVec.ofNat_toNat ..
  unfold chainMask
  rw [(param_words d n en).2.1]
  refine ⟨hmask (field_wordOf ?_), hmask (field_wordOf ?_), hmask (field_wordOf ?_)⟩ <;>
  · simp only [placed_cons, placed_nil, Nat.reducePow]
    omega

/-! ### The factor -/

theorem vehicleCond_read {ps : List Word} {c : VehicleCond} (h : (Factor.vehicle c).fitsLayout)
    (h4 : param ps 4 = wordOf [(0, (c.lanes.getD 0).toNat), (8, present c.classes), (16, (c.classes.getD (0, 0)).1),
      (24, (c.classes.getD (0, 0)).2)]) (h5 : param ps 5 = wordOf [(0, c.grossMin)]) (h6 : param ps 6 = wordOf [(0, c.heaviestMin)])
    (h7 : param ps 7 = wordOf [(0, present c.grades), (4, (c.grades.getD (0, 0)).1), (8, (c.grades.getD (0, 0)).2),
      (16, (c.flags.getD 0).toNat)]) :
    vehicleCondOf ps = c ∧ (!bitAt (param ps 4) 8 || decide (field (param ps 4) 16 6 ≤ field (param ps 4) 24 6)) = true
      ∧ (!bitAt (param ps 7) 0 || decide (field (param ps 7) 4 2 ≤ field (param ps 7) 8 2)) = true := by
  obtain ⟨hlanes, hflags, hgross, hheaviest, hclasses, hgrades⟩ := h
  obtain ⟨lanes, classes, grossMin, heaviestMin, grades, flags⟩ := c
  dsimp only at hlanes hflags hgross hheaviest hclasses hgrades h4 h5 h6 h7
  have hl := (lanes.getD 0).isLt
  have hf := (flags.getD 0).isLt
  have hc : (classes.getD (0, 0)).1 ≤ (classes.getD (0, 0)).2 ∧ (classes.getD (0, 0)).2 ≤ 63 := by
    cases classes with
    | none => exact ⟨Nat.le_refl _, Nat.zero_le _⟩
    | some x => exact hclasses x.1 x.2 rfl
  have hg : (grades.getD (0, 0)).1 ≤ (grades.getD (0, 0)).2 ∧ (grades.getD (0, 0)).2 ≤ 3 := by
    cases grades with
    | none => exact ⟨Nat.le_refl _, Nat.zero_le _⟩
    | some x => exact hgrades x.1 x.2 rfl
  have hcp := present_le classes
  have hgp := present_le grades
  have hlanes4 : field (param ps 4) 0 4 = (lanes.getD 0).toNat := by
    rw [h4]
    refine field_wordOf ?_
    simp only [placed_cons, placed_nil, Nat.reducePow]
    omega
  have hclo : field (param ps 4) 16 6 = (classes.getD (0, 0)).1 := by
    rw [h4]
    refine field_wordOf ?_
    simp only [placed_cons, placed_nil, Nat.reducePow]
    omega
  have hchi : field (param ps 4) 24 6 = (classes.getD (0, 0)).2 := by
    rw [h4]
    refine field_wordOf ?_
    simp only [placed_cons, placed_nil, Nat.reducePow]
    omega
  have hcbit : bitAt (param ps 4) 8 = classes.isSome := by
    rw [h4]
    refine bitAt_wordOf ?_
    rw [← present_flagOf]
    simp only [placed_cons, placed_nil, Nat.reducePow]
    omega
  have hglo : field (param ps 7) 4 2 = (grades.getD (0, 0)).1 := by
    rw [h7]
    refine field_wordOf ?_
    simp only [placed_cons, placed_nil, Nat.reducePow]
    omega
  have hghi : field (param ps 7) 8 2 = (grades.getD (0, 0)).2 := by
    rw [h7]
    refine field_wordOf ?_
    simp only [placed_cons, placed_nil, Nat.reducePow]
    omega
  have hgbit : bitAt (param ps 7) 0 = grades.isSome := by
    rw [h7]
    refine bitAt_wordOf ?_
    rw [← present_flagOf]
    simp only [placed_cons, placed_nil, Nat.reducePow]
    omega
  have hflags7 : field (param ps 7) 16 4 = (flags.getD 0).toNat := by
    rw [h7]
    refine field_wordOf ?_
    simp only [placed_cons, placed_nil, Nat.reducePow]
    omega
  have hread {α : Type} (x : Option α) (y : α) : (if x.isSome = true then some (x.getD y) else none) = x := by cases x <;> rfl
  refine ⟨?_, ?_, ?_⟩
  · unfold vehicleCondOf paramNat
    dsimp only
    rw [hclo, hchi, hcbit, hglo, hghi, hgbit, mask_read hlanes hlanes4, mask_read hflags hflags7, h5, h6, wordOf_whole hgross,
      wordOf_whole hheaviest]
    exact congrArg₂ (fun x y => VehicleCond.mk lanes x grossMin heaviestMin y flags) (hread classes (0, 0)) (hread grades (0, 0))
  · rw [hclo, hchi, decide_eq_true hc.1, Bool.or_true]
  · rw [hglo, hghi, decide_eq_true hg.1, Bool.or_true]

section
variable {ps : List Word} {theta : Int} {row : Row} {line : Line} {x y z : Bool}

/-- The fields of a factor are good, and none of them is clamped. -/
structure FactorGood (ps : List Word) : Prop where
  condition : conditionOk ps = true
  grades : gradesOk ps = true
  theta : factorCode ps = 5 → clampInt (-400) 850 (thetaOf ps) = thetaOf ps

/-- The factors whose conditions are never bad. -/
theorem factorGood_of (h1 : factorCode ps ≠ 1) (h4 : factorCode ps ≠ 4) (h5 : factorCode ps ≠ 5) : FactorGood ps := by
  refine ⟨?_, ?_, fun h => absurd h h5⟩
  · unfold conditionOk
    dsimp only
    split
    · exact absurd ‹_› h1
    · exact absurd ‹_› h4
    · exact absurd ‹_› h5
    · rfl
  · unfold gradesOk
    dsimp only
    rw [decide_eq_true h1, Bool.true_or]

theorem vehicle_read {c : VehicleCond} (hcode : factorCode ps = 1) (hc : vehicleCondOf ps = c)
    (hclasses : (!bitAt (param ps 4) 8 || decide (field (param ps 4) 16 6 ≤ field (param ps 4) 24 6)) = true)
    (hgrades : (!bitAt (param ps 7) 0 || decide (field (param ps 7) 4 2 ≤ field (param ps 7) 8 2)) = true) :
    factorOf ps = .vehicle c ∧ FactorGood ps := by
  refine ⟨?_, ?_, ?_, fun h => by omega⟩
  · unfold factorOf
    dsimp only
    rw [hcode, hc]
    rfl
  · unfold conditionOk
    dsimp only
    rw [hcode]
    exact hclasses
  · unfold gradesOk
    dsimp only
    rw [hgrades, Bool.or_true]

theorem loopOnset_read {lanes : BitVec 4} (hcode : factorCode ps = 2) (h4 : param ps 4 = wordOf [(0, lanes.toNat)]) :
    factorOf ps = .loopOnset lanes ∧ FactorGood ps := by
  have hl := lanes.isLt
  refine ⟨?_, factorGood_of (by omega) (by omega) (by omega)⟩
  unfold factorOf
  dsimp only
  rw [hcode, h4, field_wordOf (x := lanes.toNat) (by simp only [placed_cons, placed_nil, Nat.reducePow]; omega)]
  exact congrArg Factor.loopOnset (BitVec.ofNat_toNat ..)

theorem fieldEdge_read (hcode : factorCode ps = 4) (h4 : param ps 4 = wordOf [(0, line.val), (4, flagOf x), (5, flagOf y)]) :
    factorOf ps = .fieldEdge line x y ∧ FactorGood ps := by
  have hl := line.isLt
  have hx := flagOf_le x
  have hy := flagOf_le y
  have hline : field (param ps 4) 0 4 = line.val := by
    rw [h4]
    exact field_wordOf (by simp only [placed_cons, placed_nil, Nat.reducePow]; omega)
  have hbits : bitAt (param ps 4) 4 = x ∧ bitAt (param ps 4) 5 = y := by
    rw [h4]
    refine ⟨bitAt_wordOf ?_, bitAt_wordOf ?_⟩ <;>
    · simp only [placed_cons, placed_nil, Nat.reducePow]
      omega
  refine ⟨?_, ?_, ?_, fun h => by omega⟩
  · unfold factorOf
    dsimp only
    rw [hcode, hline, hbits.1, hbits.2]
    exact congrArg (Factor.fieldEdge · x y) (Fin.ext (Nat.mod_eq_of_lt hl))
  · unfold conditionOk
    dsimp only
    rw [hcode, hline]
    exact decide_eq_true (by omega)
  · unfold gradesOk
    dsimp only
    rw [decide_eq_true (by omega), Bool.true_or]

theorem temperature_read (hcode : factorCode ps = 5) (hlo : -400 ≤ theta) (hhi : theta ≤ 850)
    (h4 : param ps 4 = wordOf [(0, if row = .a then 0 else 1), (4, flagOf x), (5, flagOf y), (8, flagOf z),
      (16, (BitVec.ofInt 16 theta).toNat)]) : factorOf ps = .temperature row theta x y z ∧ FactorGood ps := by
  have hx := flagOf_le x
  have hy := flagOf_le y
  have hz := flagOf_le z
  have ht := (BitVec.ofInt 16 theta).isLt
  have hr : (if row = .a then 0 else 1) ≤ 1 := by split <;> omega
  have hrow : field (param ps 4) 0 2 = if row = .a then 0 else 1 := by
    rw [h4]
    exact field_wordOf (by simp only [placed_cons, placed_nil, Nat.reducePow]; omega)
  have hbits : bitAt (param ps 4) 4 = x ∧ bitAt (param ps 4) 5 = y ∧ bitAt (param ps 4) 8 = z := by
    rw [h4]
    refine ⟨bitAt_wordOf ?_, bitAt_wordOf ?_, bitAt_wordOf ?_⟩ <;>
    · simp only [placed_cons, placed_nil, Nat.reducePow]
      omega
  have htheta : thetaOf ps = theta := by
    refine signed16_ofInt hlo hhi ?_
    rw [h4]
    exact field_wordOf (by simp only [placed_cons, placed_nil, Nat.reducePow]; omega)
  have hclamp : clampInt (-400) 850 theta = theta := (if_neg (by omega)).trans (if_neg (by omega))
  obtain ⟨hb4, hb5, hb8⟩ := hbits
  refine ⟨?_, ?_, ?_, fun _ => by rw [htheta, hclamp]⟩
  · unfold factorOf
    dsimp only
    rw [hcode, hrow, hb4, hb5, hb8, htheta, hclamp]
    cases row <;> rfl
  · unfold conditionOk
    dsimp only
    rw [hcode, hrow]
    exact decide_eq_true hr
  · unfold gradesOk
    dsimp only
    rw [decide_eq_true (by omega), Bool.true_or]

theorem driftLimit_read {lanes : Option (BitVec 4)} (hcode : factorCode ps = 6) (hl : lanes ≠ some 0)
    (h4 : param ps 4 = wordOf [(0, (lanes.getD 0).toNat), (4, flagOf x), (5, flagOf y)]) :
    factorOf ps = .driftLimit lanes x y ∧ FactorGood ps := by
  have hlt := (lanes.getD 0).isLt
  have hx := flagOf_le x
  have hy := flagOf_le y
  have hlanes : field (param ps 4) 0 4 = (lanes.getD 0).toNat := by
    rw [h4]
    exact field_wordOf (by simp only [placed_cons, placed_nil, Nat.reducePow]; omega)
  have hbits : bitAt (param ps 4) 4 = x ∧ bitAt (param ps 4) 5 = y := by
    rw [h4]
    refine ⟨bitAt_wordOf ?_, bitAt_wordOf ?_⟩ <;>
    · simp only [placed_cons, placed_nil, Nat.reducePow]
      omega
  refine ⟨?_, factorGood_of (by omega) (by omega) (by omega)⟩
  unfold factorOf
  dsimp only
  rw [hcode, hbits.1, hbits.2]
  exact congrArg (Factor.driftLimit · x y) (mask_read hl hlanes)

theorem recordLost_read (hcode : factorCode ps = 8) (h4 : param ps 4 = wordOf [(0, flagOf x), (1, flagOf y)]) :
    factorOf ps = .recordLost x y ∧ FactorGood ps := by
  have hx := flagOf_le x
  have hy := flagOf_le y
  have hbits : bitAt (param ps 4) 0 = x ∧ bitAt (param ps 4) 1 = y := by
    rw [h4]
    refine ⟨bitAt_wordOf ?_, bitAt_wordOf ?_⟩ <;>
    · simp only [placed_cons, placed_nil, Nat.reducePow]
      omega
  refine ⟨?_, factorGood_of (by omega) (by omega) (by omega)⟩
  unfold factorOf
  dsimp only
  rw [hcode, hbits.1, hbits.2]
  rfl

end

/-- The factor is read back, and its fields are good. -/
theorem factor_read (h : d.factor.fitsLayout) : factorOf (d.words n en) = d.factor ∧ FactorGood (d.words n en) := by
  have hcode := (head_read (d := d) (n := n) (en := en)).2.2.2.2
  obtain ⟨-, -, ⟨h4, h5, h6, h7⟩, -⟩ := param_words d n en
  cases hd : d.factor <;> rw [hd] at h hcode h4 h5 h6 h7
  case none => exact ⟨by unfold factorOf; dsimp only; rw [hcode]; rfl, factorGood_of (by rw [hcode]; decide) (by rw [hcode]; decide) (by rw [hcode]; decide)⟩
  case timer => exact ⟨by unfold factorOf; dsimp only; rw [hcode]; rfl, factorGood_of (by rw [hcode]; decide) (by rw [hcode]; decide) (by rw [hcode]; decide)⟩
  case backlog => exact ⟨by unfold factorOf; dsimp only; rw [hcode]; rfl, factorGood_of (by rw [hcode]; decide) (by rw [hcode]; decide) (by rw [hcode]; decide)⟩
  case vehicle c =>
    obtain ⟨hc, hclasses, hgrades⟩ := vehicleCond_read h h4 h5 h6 h7
    exact vehicle_read hcode hc hclasses hgrades
  case loopOnset => exact loopOnset_read hcode h4
  case fieldEdge => exact fieldEdge_read hcode h4
  case temperature => exact temperature_read hcode h.1 h.2 h4
  case driftLimit => exact driftLimit_read hcode h h4
  case recordLost => exact recordLost_read hcode h4

/-! ### The actions -/

theorem clamp_inside {lo hi v : Nat} (h1 : lo ≤ v) (h2 : v ≤ hi) : clamp lo hi v = v :=
  (if_neg (by omega)).trans (if_neg (by omega))

theorem bitAt_zero (i : Nat) : bitAt 0 i = false := BitVec.getLsbD_zero

/-- The pulse fields are good, and none of them is clamped. -/
structure PulseGood (ps : List Word) : Prop where
  fields : (!bitAt (param ps 8) 0 || (decide (field (param ps 8) 4 4 ≤ 3) && (!distanceTiming ps || decide (factorCode ps = 1)))) = true
  width : bitAt (param ps 8) 0 = true → clamp 1 8192 (field (param ps 8) 16 14) = field (param ps 8) 16 14
  timing : bitAt (param ps 8) 0 = true → clamp 0 (if distanceTiming ps then 100000 else 65535) (paramNat ps 9) = paramNat ps 9

theorem pulse_absent {ps : List Word} (h8 : param ps 8 = 0) : pulseOf ps = none ∧ PulseGood ps := by
  have hbit : bitAt (param ps 8) 0 = false := by rw [h8]; exact bitAt_zero 0
  refine ⟨?_, ?_, fun h => ?_, fun h => ?_⟩
  · unfold pulseOf
    dsimp only
    rw [hbit]
    rfl
  · rw [hbit]
    rfl
  · rw [hbit] at h
    cases h
  · rw [hbit] at h
    cases h

theorem pulse_present {ps : List Word} {line : Line} {width v : Nat} (hdist : Bool) (hw : 1 ≤ width ∧ width ≤ 8192)
    (hv : v ≤ if hdist then 100000 else 65535) (hcode : hdist = true → factorCode ps = 1)
    (h8 : placed [(0, 1), (4, line.val), (8, flagOf hdist), (16, width)] % 4294967296 = (param ps 8).toNat)
    (h9 : param ps 9 = wordOf [(0, v)]) :
    pulseOf ps = some { line := line, width := width, timing := if hdist then .distance v else .fixed v } ∧ PulseGood ps := by
  have hl := line.isLt
  have hd := flagOf_le hdist
  have hvmax : v ≤ 4294967295 := by split at hv <;> omega
  simp only [placed_cons, placed_nil, Nat.reducePow] at h8
  have hbit : bitAt (param ps 8) 0 = true := by
    rw [bitAt_eq, decide_eq_true_eq]
    omega
  have hline : field (param ps 8) 4 4 = line.val := by
    rw [field_eq]
    omega
  have hwidth : field (param ps 8) 16 14 = width := by
    rw [field_eq]
    omega
  have hdistance : distanceTiming ps = hdist := by
    unfold distanceTiming
    have hdiv : (param ps 8).toNat / 2 ^ 8 % 2 = flagOf hdist := by omega
    rw [bitAt_eq, hdiv]
    cases hdist <;> rfl
  have hvalue : paramNat ps 9 = v := by
    unfold paramNat
    rw [h9, wordOf_whole hvmax]
  have hclamp : clamp 0 (if hdist then 100000 else 65535) v = v := clamp_inside (Nat.zero_le _) hv
  refine ⟨?_, ?_, fun _ => ?_, fun _ => ?_⟩
  · unfold pulseOf
    dsimp only
    rw [hbit, hline, hwidth, hdistance, hvalue, clamp_inside hw.1 hw.2]
    have hmod : lineOf line.val = line := Fin.ext (Nat.mod_eq_of_lt hl)
    rw [hmod]
    cases hdist
    · exact congrArg (fun x => some (PulseAction.mk line width (.fixed x))) hclamp
    · exact congrArg (fun x => some (PulseAction.mk line width (.distance x))) hclamp
  · rw [hline, hdistance, decide_eq_true (show line.val ≤ 3 by omega)]
    cases hdist with
    | false => exact Bool.or_true _
    | true => rw [decide_eq_true (hcode rfl)]; exact Bool.or_true _
  · rw [hwidth, clamp_inside hw.1 hw.2]
  · rw [hdistance, hvalue, hclamp]

/-- The pulse action is read back, and its fields are good. -/
theorem pulse_read (h : d.fitsLayout n) : pulseOf (d.words n en) = d.pulse ∧ PulseGood (d.words n en) := by
  have hcode := (head_read (d := d) (n := n) (en := en)).2.2.2.2
  obtain ⟨-, -, -, hpulse, -⟩ := h
  obtain ⟨-, -, -, ⟨h8, h9⟩, -⟩ := param_words d n en
  cases hd : d.pulse with
  | none =>
    rw [hd] at h8
    exact pulse_absent h8
  | some p =>
    obtain ⟨hlo, hhi, hfixed, hdistance⟩ := hpulse p hd
    obtain ⟨line, width, timing⟩ := p
    rw [hd] at h8 h9
    dsimp only at hlo hhi hfixed hdistance
    cases timing with
    | fixed delay =>
      refine pulse_present false ⟨hlo, hhi⟩ (hfixed delay rfl) (fun e => (nomatch e)) ?_ h9
      rw [h8]
      show _ = (wordOf [(0, 1), (4, line.val), (16, width)]).toNat
      rw [wordOf_toNat]
      simp only [placed_cons, placed_nil, flagOf, Nat.zero_mul, Nat.zero_add, Bool.false_eq_true, if_false]
    | distance dOut =>
      obtain ⟨hout, hone⟩ := hdistance dOut rfl
      refine pulse_present true ⟨hlo, hhi⟩ hout (fun _ => hcode.trans hone) ?_ h9
      rw [h8]
      show _ = (wordOf [(0, 1), (4, line.val), (8, 1), (16, width)]).toNat
      rw [wordOf_toNat]
      rfl

/-- The timer action is read back, and its set is good. -/
theorem timer_read : timerActionOf (d.words n en) = d.timerAct
    ∧ (!bitAt (param (d.words n en) 10) 0 || decide (field (param (d.words n en) 10) 4 4 ≤ 7)) = true := by
  obtain ⟨-, -, -, -, h10, -⟩ := param_words d n en
  unfold timerActionOf
  dsimp only
  cases hd : d.timerAct with
  | none =>
    rw [hd] at h10
    have hbit : bitAt (param (d.words n en) 10) 0 = false := by rw [h10]; exact bitAt_zero 0
    rw [hbit]
    exact ⟨rfl, rfl⟩
  | some a =>
    rw [hd] at h10
    have h10' : param (d.words n en) 10 = wordOf [(0, 1), (4, a.target.val), (8, a.op.code)] := h10
    have ht := a.target.isLt
    have hop : a.op.code ≤ 3 := by cases a.op <;> decide
    have hbit : bitAt (param (d.words n en) 10) 0 = true := by
      rw [h10']
      exact bitAt_wordOf (b := true) (by simp only [placed_cons, placed_nil, Nat.reducePow, flagOf, if_true]; omega)
    have htarget : field (param (d.words n en) 10) 4 4 = a.target.val := by
      rw [h10']
      exact field_wordOf (by simp only [placed_cons, placed_nil, Nat.reducePow]; omega)
    have hcode : field (param (d.words n en) 10) 8 2 = a.op.code := by
      rw [h10']
      exact field_wordOf (by simp only [placed_cons, placed_nil, Nat.reducePow]; omega)
    rw [hbit, htarget, hcode]
    refine ⟨?_, decide_eq_true (by omega)⟩
    have hset : setOf a.target.val = a.target := Fin.ext (Nat.mod_eq_of_lt ht)
    rw [hset]
    obtain ⟨target, op⟩ := a
    cases op <;> rfl

/-- The capture fields are good, and none of them is clamped. -/
structure CaptureGood (ps : List Word) : Prop where
  fields : (!bitAt (param ps 11) 0
    || (!bitAt (param ps 11) 1 || (decide (1 ≤ field (param ps 11) 4 3) && decide (field (param ps 11) 4 3 ≤ 4)))) = true
  pre : bitAt (param ps 11) 0 = true → clamp 0 1024 (field (param ps 11) 16 11) = field (param ps 11) 16 11
  maxFrames : bitAt (param ps 11) 0 = true → clamp 512 65535 (paramNat ps 12) = paramNat ps 12

theorem capture_present {ps : List Word} {lane : Option Lane} {pre maxFrames : Nat} (hpre : pre ≤ 1024)
    (hmax : 512 ≤ maxFrames ∧ maxFrames ≤ 65535)
    (h11 : placed [(0, 1), (1, present lane), (4, (lane.map fun l => l.val + 1).getD 0), (16, pre)] % 4294967296 = (param ps 11).toNat)
    (h12 : param ps 12 = wordOf [(0, maxFrames)]) :
    captureActionOf ps = some { lane := lane, pre := pre, maxFrames := maxFrames } ∧ CaptureGood ps := by
  have hp := present_le lane
  have hn : (lane.map fun l => l.val + 1).getD 0 ≤ 4 ∧ (lane.isSome = true → 1 ≤ (lane.map fun l => l.val + 1).getD 0) := by
    cases lane with
    | none => exact ⟨Nat.zero_le _, fun h => (nomatch h)⟩
    | some l => exact ⟨l.isLt, fun _ => Nat.succ_pos _⟩
  obtain ⟨hn4, hn1⟩ := hn
  simp only [placed_cons, placed_nil, Nat.reducePow] at h11
  have hbit : bitAt (param ps 11) 0 = true := by
    rw [bitAt_eq, decide_eq_true_eq]
    omega
  have hfixed : bitAt (param ps 11) 1 = lane.isSome := by
    have hdiv : (param ps 11).toNat / 2 ^ 1 % 2 = present lane := by omega
    rw [bitAt_eq, hdiv, decide_present]
  have hlane : field (param ps 11) 4 3 = (lane.map fun l => l.val + 1).getD 0 := by
    rw [field_eq]
    omega
  have hpre' : field (param ps 11) 16 11 = pre := by
    rw [field_eq]
    omega
  have hframes : paramNat ps 12 = maxFrames := by
    unfold paramNat
    rw [h12, wordOf_whole (by omega)]
  refine ⟨?_, ?_, fun _ => ?_, fun _ => ?_⟩
  · unfold captureActionOf
    dsimp only
    rw [hbit, hfixed, hpre', hframes, clamp_inside (Nat.zero_le _) hpre, clamp_inside hmax.1 hmax.2]
    cases lane with
    | none => rfl
    | some l =>
      refine congrArg (fun x => some (CaptureAction.mk (some x) pre maxFrames)) (Fin.ext ?_)
      show (field (param ps 11) 4 3 - 1) % 4 = l.val
      rw [hlane]
      exact Nat.mod_eq_of_lt l.isLt
  · rw [hfixed, hlane]
    cases hsome : lane.isSome with
    | false => exact Bool.or_true _
    | true =>
      rw [decide_eq_true (hn1 hsome), decide_eq_true hn4]
      exact Bool.or_true _
  · rw [hpre', clamp_inside (Nat.zero_le _) hpre]
  · rw [hframes, clamp_inside hmax.1 hmax.2]

/-- The capture action is read back, and its fields are good. -/
theorem capture_read (h : d.fitsLayout n) : captureActionOf (d.words n en) = d.captureAct ∧ CaptureGood (d.words n en) := by
  obtain ⟨-, -, -, -, hcapture⟩ := h
  obtain ⟨-, -, -, -, -, ⟨h11, h12⟩, -⟩ := param_words d n en
  cases hd : d.captureAct with
  | none =>
    rw [hd] at h11
    have hbit : bitAt (param (d.words n en) 11) 0 = false := by rw [h11]; exact bitAt_zero 0
    unfold captureActionOf
    dsimp only
    refine ⟨by rw [hbit]; rfl, by rw [hbit]; rfl, fun e => ?_, fun e => ?_⟩ <;>
    · rw [hbit] at e
      cases e
  | some a =>
    obtain ⟨hpre, hmax⟩ := hcapture a hd
    obtain ⟨lane, pre, maxFrames⟩ := a
    rw [hd] at h11 h12
    cases lane with
    | none =>
      refine capture_present hpre hmax ?_ h12
      rw [h11]
      show _ = (wordOf [(0, 1), (16, pre)]).toNat
      rw [wordOf_toNat]
      simp only [placed_cons, placed_nil, present, Option.map_none, Option.getD_none, Option.isSome_none, Nat.zero_mul, Nat.zero_add,
        Bool.false_eq_true, if_false]
    | some l =>
      refine capture_present hpre hmax ?_ h12
      rw [h11]
      show _ = (wordOf [(0, 1), (1, 1), (4, l.val + 1), (16, pre)]).toNat
      rw [wordOf_toNat]
      rfl

/-! ### The whole definition -/

theorem trigger_read (h : d.fitsLayout n) : triggerOf (d.words n en) = d := by
  obtain ⟨-, -, -, -, -, -, h13, h14⟩ := param_words d n en
  obtain ⟨-, -, honce, hreport, -⟩ := head_read (d := d) (n := n) (en := en)
  obtain ⟨he, hd, ha⟩ := chain_read (d := d) (n := n) (en := en)
  have hperiod : paramNat (d.words n en) 13 = d.period := by
    unfold paramNat
    rw [h13]
    exact wordOf_whole (by have := h.2.1.2; omega)
  have hrepeats : bitAt (param (d.words n en) 14) 0 = d.repeats := by
    have := flagOf_le d.repeats
    rw [h14]
    exact bitAt_wordOf (by simp only [placed_cons, placed_nil, Nat.reducePow]; omega)
  unfold triggerOf
  rw [honce, (factor_read h.1).1, (pulse_read h).1, timer_read.1, (capture_read h).1, hreport, he, hd, ha, hperiod, hrepeats,
    clamp_inside h.2.1.1 h.2.1.2]

theorem checks_pass (h : d.fitsLayout n) : firstBad (triggerChecks (d.words n en)) = none := by
  obtain ⟨hn, -, -, -, hcode⟩ := head_read (d := d) (n := n) (en := en)
  obtain ⟨he, hd, ha⟩ := chain_read (d := d) (n := n) (en := en)
  obtain ⟨-, hgood⟩ := factor_read (n := n) (en := en) h.1
  obtain ⟨hme, hmd, hma⟩ := h.2.2.1
  have hset : setOf n.val = n := Fin.ext (Nat.mod_eq_of_lt n.isLt)
  have hlt := n.isLt
  have hle := factor_code_le (d := d)
  unfold triggerChecks
  dsimp only
  rw [hn, hset, he, hd, ha, hcode, hgood.condition, hgood.grades, timer_read.2, (capture_read h).2.fields]
  have hpulse := (pulse_read (en := en) h).2.fields
  rw [hcode] at hpulse
  rw [hpulse, decide_eq_true (show n.val ≤ 7 by omega), decide_eq_true hle]
  unfold inMask
  rw [hme, hmd, hma]
  rfl

theorem clamps_none (h : d.fitsLayout n) : firstClamped (triggerClamps (d.words n en)) = none := by
  have hnone : (firstClamped (triggerClamps (d.words n en))).isSome = false := by
    rw [firstClamped_isSome, List.any_eq_false]
    intro f hf
    rw [decide_eq_true_eq, not_not]
    have hnat {pos lo hi v : Nat} (hv : clamp lo hi v = v) : (clamped pos lo hi v).2.1 = (clamped pos lo hi v).2.2 :=
      congrArg Int.ofNat hv.symm
    unfold triggerClamps at hf
    rw [List.mem_append, List.mem_append, List.mem_append] at hf
    obtain ((hf | hf) | hf) | hf := hf
    · split at hf
      · rw [List.mem_singleton.mp hf]
        exact ((factor_read h.1).2.theta ‹_›).symm
      · cases hf
    · split at hf
      · obtain rfl | hf := List.mem_cons.mp hf
        · exact hnat ((pulse_read h).2.width ‹_›)
        · rw [List.mem_singleton.mp hf]
          exact hnat ((pulse_read h).2.timing ‹_›)
      · cases hf
    · split at hf
      · obtain rfl | hf := List.mem_cons.mp hf
        · exact hnat ((capture_read h).2.pre ‹_›)
        · rw [List.mem_singleton.mp hf]
          exact hnat ((capture_read h).2.maxFrames ‹_›)
      · cases hf
    · rw [List.mem_singleton.mp hf]
      obtain ⟨-, -, -, -, -, -, h13, -⟩ := param_words d n en
      obtain ⟨hlo, hhi⟩ := h.2.1
      refine hnat ?_
      unfold paramNat
      rw [h13, wordOf_whole (by omega), clamp_inside hlo hhi]
  exact Option.isSome_eq_false_iff.mp hnone |> Option.isNone_iff_eq_none.mp

end

/-- Settles O53: every check passes, nothing is clamped, and each field is read back. -/
theorem triggerDefinitionRoundTrip : Obligations.TriggerDefinitionRoundTrip := by
  intro n en d t s h hheld
  obtain ⟨hn, hen, -⟩ := head_read (d := d) (n := n) (en := en)
  have hset : setOf (field (param (d.words n en) 2) 0 4) = n := by
    rw [hn]
    exact Fin.ext (Nat.mod_eq_of_lt n.isLt)
  refine hheld.run_eq ((ifLength_ok _ rfl).trans ?_)
  rw [checks_pass h]
  refine (congrArg (fun c => answerClamped c _) (clamps_none h)).trans ((hheld.answer (by rfl) _ _).trans ?_)
  rw [hset, hen, trigger_read h]
  have hwaiting : TrigEvent.redefined n = fun (e : TrigEvent) => match e with
      | .temperature row temp occ => TrigEvent.temperature row temp (occ &&& ~~~BitVec.ofNat 8 (2 ^ n.val))
      | x => x := by
    funext e
    cases e <;> rfl
  rw [hwaiting]
  rfl

end Sys2Proof.Machine
end

section
/-!
PROOFS. SET FIELD LINES and CONTROL TRIGGERS (R127, R143).
-/

namespace Sys2Proof.Machine

section
variable {len : Nat} {w : Word} {t : OrderPage} {s : State}

/-! ### SET FIELD LINES (R127) -/

theorem functionCode_eq (w : Word) (l : Nat) : functionCode w l = w.toNat / 2 ^ (4 * l) % 4 := field_eq ..

theorem functionOk_iff {l : Nat} : functionOk w l = true ↔ functionCode w l = 1 ∨ functionCode w l = 2 := by
  unfold functionOk
  rw [Bool.or_eq_true, decide_eq_true_eq, decide_eq_true_eq]

theorem functionsOk_iff : (functionOk w 0 && (functionOk w 1 && (functionOk w 2 && functionOk w 3))) = true ↔
    ∀ l : Line, functionCode w l.val = 1 ∨ functionCode w l.val = 2 := by
  rw [Bool.and_eq_true, Bool.and_eq_true, Bool.and_eq_true, functionOk_iff, functionOk_iff, functionOk_iff, functionOk_iff]
  exact ⟨fun ⟨h0, h1, h2, h3⟩ l => match l with | 0 => h0 | 1 => h1 | 2 => h2 | 3 => h3, fun h => ⟨h 0, h 1, h 2, h 3⟩⟩

theorem assign_eq (code : Nat) (h : code = 1 ∨ code = 2) (level : Bool) (x : FieldLine) : x.assign code level = match x with
    | .output ps => if code = 1 then .output ps else .input level
    | .input v => if code = 1 then .output [] else .input v := by
  cases x with
  | input v => rfl
  | output ps => obtain rfl | rfl := h <;> rfl

theorem assignLines_line (h : ∀ l : Line, functionCode w l.val = 1 ∨ functionCode w l.val = 2) (l : Line) :
    (assignLines w s).trig.lines.get l = match s.trig.lines.get l with
      | .output ps => if functionCode w l.val = 1 then .output ps else .input (s.pins.field.get l)
      | .input v => if functionCode w l.val = 1 then .output [] else .input v := by
  refine ((Tab.get_ofNat ..).trans (dif_pos l.isLt)).trans ((assign_eq _ (h l) _ _).trans ?_)
  cases s.trig.lines.get l <;> rfl

theorem assignLines_edgeTaken (l : Line) :
    (assignLines w s).trig.edgeTaken.get l = (s.trig.edgeTaken.get l && s.isInput l) := by
  refine (Tab.get_zipWith ..).trans ?_
  unfold State.isInput
  cases s.trig.lines.get l with
  | input v => exact (Bool.and_true _).symm
  | output ps => exact (Bool.and_false _).symm

theorem assignLines_discarded : (assignLines w s).trig.discarded = min 4294967295 (s.trig.discarded
    + ((indices 4).map fun l => if functionCode w l.val = 2 then (s.trig.lines.get l).pulses.length else 0).sum) :=
  satAdd_eq ..

/-! ### CONTROL TRIGGERS (R143) -/

theorem FiringFrame.ex_taken {u v : State} (h : FiringFrame u v) : v.ex.taken = u.ex.taken := by
  rw [h]

theorem control_masks (w : Word) : (∀ m : SetId, (BitVec.ofNat 8 (field w 0 8)).getLsbD m.val = w.getLsbD m.val)
    ∧ ∀ m : SetId, (BitVec.ofNat 8 (field w 8 8)).getLsbD m.val = w.getLsbD (8 + m.val) := by
  have hbit (lo : Nat) (m : SetId) : (BitVec.ofNat 8 (field w lo 8)).getLsbD m.val = w.getLsbD (lo + m.val) := by
    rw [BitVec.getLsbD_ofNat, field_eq, Nat.testBit_mod_two_pow, Nat.testBit_div_two_pow, decide_eq_true m.isLt, Bool.true_and,
      Bool.true_and, Nat.add_comm]
    rfl
  exact ⟨fun m => (hbit 0 m).trans (by rw [Nat.zero_add]), hbit 8⟩

/-- The sets under the enable and the disable mask of a control word. -/
theorem controlSets_get (n : SetId) :
    (applyMasks (BitVec.ofNat 8 (field w 0 8)) (BitVec.ofNat 8 (field w 8 8)) s).trig.sets.get n = { s.trig.sets.get n with
      enabled := if w.getLsbD (8 + n.val) then false else w.getLsbD n.val || (s.trig.sets.get n).enabled } := by
  rw [applyMasks_get, (control_masks w).1, (control_masks w).2]

theorem controlCascade_empty (s : State) : controlCascade 0#8 s = s := by
  have hpass (ns : List SetId) (a : State × BitVec 8) :
      ns.foldl (fun a m => if inMask 0 m && mayFire a.1 a.2 m then fire .control chainDepth m true a else a) a = a := by
    induction ns with
    | nil => rfl
    | cons n ns ih =>
      have hn : inMask 0 n = false := BitVec.getLsbD_zero
      rw [List.foldl_cons, hn, Bool.false_and, if_neg Bool.false_ne_true]
      exact ih
  exact congrArg Prod.fst (hpass ..)

theorem orderControlTriggers_eq (h : OrderHeld .controlTriggers 3 [w] t s) : orderControlTriggers 3 [w] s =
    (controlCascade (BitVec.ofNat 8 (field w 16 8))
      (applyMasks (BitVec.ofNat 8 (field w 0 8)) (BitVec.ofNat 8 (field w 8 8)) s)).answered t 3 (.done, 0) := by
  unfold orderControlTriggers
  dsimp only
  rw [ifLength_ok _ rfl]
  refine h.answer ?_ _ _
  exact (controlCascade_firing _ _).ex_taken

end

/-- Settles O54: the functions are given line by line; the masks are applied and the activated sets are taken in turn. -/
theorem lineAndControlOrders : Obligations.LineAndControlOrders := by
  refine ⟨fun w t s h => ?_, fun w t s h hmask => ?_, fun w t s h => ?_⟩
  · intro code
    have hcode (l : Line) : functionCode w l.val = code l := functionCode_eq w l.val
    refine ⟨fun hgood => ?_, fun ⟨l, h1, h2⟩ => ?_⟩
    · have hok : ∀ l : Line, functionCode w l.val = 1 ∨ functionCode w l.val = 2 := fun l => by
        rw [hcode l]
        exact hgood l
      refine ⟨_, h.run_eq ((ifLength_ok _ rfl).trans ((ifFields_one_good _ (functionsOk_iff.mpr hok)).trans (h.answer (by rfl) _ _))),
        settleDown_settings _, fun l => ?_, ?_, ?_, fun l => ?_, ?_, settleDown_ex_taken _⟩
      · rw [settleDown_trig, ← hcode l]
        exact (assignLines_line hok l).trans (by cases s.trig.lines.get l <;> rfl)
      · rw [settleDown_trig]
        refine assignLines_discarded.trans (congrArg (fun x : List Nat => min 4294967295 (s.trig.discarded + x.sum)) ?_)
        exact List.map_congr_left fun l _ => if_congr (hcode l ▸ Iff.rfl) rfl rfl
      · rw [settleDown_trig]
        rfl
      · rw [settleDown_trig]
        exact assignLines_edgeTaken l
      · rw [settleDown_trig]
        rfl
    · refine h.run_eq ((ifLength_ok _ rfl).trans ((ifFields_one_bad _ ?_).trans (h.answer rfl _ _)))
      rw [Bool.eq_false_iff]
      intro hok
      have hl : functionCode w l.val = 1 ∨ functionCode w l.val = 2 := functionsOk_iff.mp hok l
      rw [hcode l] at hl
      exact hl.elim h1 h2
  · have hzero : field w 16 8 = 0 := (field_eq ..).trans hmask
    have horder := orderControlTriggers_eq h
    rw [hzero] at horder
    rw [controlCascade_empty] at horder
    refine ⟨_, h.run_eq horder, ?_, fun n => ?_, ?_, ?_, settleDown_ex_taken _⟩
    · rw [settleDown_settings]
      exact applyMasks_settings _ _ s
    · rw [settleDown_trig]
      exact controlSets_get n
    · rw [settleDown_trig]
      rfl
    · rw [settleDown_rw_created]
      rfl
  · have hmask : BitVec.ofNat 8 (w.toNat / 65536 % 256) = BitVec.ofNat 8 (field w 16 8) := by
      rw [field_eq]
      simp only [Nat.reducePow]
    rw [hmask]
    exact ⟨_, _, fun n => controlSets_get n, activates_foldl chainDepth _ _ _ (Nat.le_add_right 9 _),
      h.run_eq (orderControlTriggers_eq h)⟩

end Sys2Proof.Machine
end

section
/-!
PROOFS. Orders refused, and SET TRIGGER by its first bad and its first clamped field (R128, R159, R183).
-/

namespace Sys2Proof.Machine

section
variable {k : OrderKind} {len : Nat} {ps : List Word} {t : OrderPage} {s : State} {f : Nat → List Word → State → State}
  {g : State → State}

/-! ### The three refusals -/

theorem OrderHeld.refusedState (h : OrderHeld k len ps t s) (hrun : s.run ≠ .ready) (hf : f len ps s = ifReady g s) :
    runOrder k f s = .next (settleDown (s.answered t len (.wrongState, 0))) :=
  h.run_eq (hf.trans ((ifReady_other g hrun).trans (h.answer rfl _ _)))

theorem OrderHeld.refusedLocked (h : OrderHeld k len ps t s) (hlock : s.cal.lock = true) (hf : f len ps s = ifUnlocked g s) :
    runOrder k f s = .next (settleDown (s.answered t len (.locked, 0))) :=
  h.run_eq (hf.trans ((ifUnlocked_set g hlock).trans (h.answer rfl _ _)))

theorem OrderHeld.refusedLength (h : OrderHeld k len ps t s) (hlen : k.lengthOk len = false) (hf : f len ps s = ifLength k len g s) :
    runOrder k f s = .next (settleDown (s.answered t len (.invalid, 0))) :=
  h.run_eq (hf.trans ((ifLength_wrong g hlen).trans (h.answer rfl _ _)))

/-- The first failing test of a list is INVALID with its position. -/
theorem OrderHeld.refusedField {pos : Nat} (h : OrderHeld k len ps t s) {fields : List (Nat × Bool)} (hbad : firstBad fields = some pos)
    (hf : f len ps s = ifFields (firstBad fields) g s) :
    runOrder k f s = .next (settleDown (s.answered t len (.invalid, pos))) := by
  refine h.run_eq (hf.trans ?_)
  rw [hbad]
  exact h.answer rfl _ _

end

/-! ### Fields checked beside the one before them -/

section
variable {α : Type} {key : α → Int} {l : List α} {i : Nat}

theorem entryBefore_forall {P : Int → Prop} : (∀ b, entryBefore key none l i = some b → P b) ↔
    ∀ j y, i = j + 1 → l[j]? = some y → P (key y) := by
  cases i with
  | zero => exact ⟨fun _ j y hj => (by omega), fun _ b hb => (nomatch hb)⟩
  | succ i =>
    constructor
    · intro h j y hj hy
      obtain rfl : i = j := by omega
      exact h _ (by rw [entryBefore, hy]; rfl)
    · intro h b hb
      obtain ⟨y, hy, rfl⟩ := Option.map_eq_some_iff.mp hb
      exact h i y rfl hy

/-- The position of the first bad field, where every field's check is said by `good`. -/
theorem firstBad_numbered {ok : Option Int → α → Bool} {good : Nat → Prop} {n : Nat}
    (hgood : ∀ j, good j ↔ ∀ x, l[j]? = some x → ok (entryBefore key none l j) x = true) (hbefore : ∀ j, j < i → good j)
    (hbad : ¬good i) : firstBad (numberedBy key ok n none l) = some (n + i) := by
  rw [hgood i] at hbad
  obtain ⟨x, hx⟩ := not_forall.mp hbad
  obtain ⟨hxi, hfail⟩ := Classical.not_imp.mp hx
  exact firstBad_numberedBy_some (fun j hj y hy => (hgood j).mp (hbefore j hj) y hy) hxi (Bool.eq_false_iff.mpr hfail)

end

/-! ### SET TRIGGER: the fields that can be bad (R128) -/

section
variable (ps : List Word)

theorem bitsOf_eq (w : Word) (lo width : Nat) : bitsOf w lo width = field w lo width := (field_eq w lo width).symm

theorem mask_bit (w : Word) (lo : Nat) (m : SetId) : (BitVec.ofNat 8 (field w lo 8)).getLsbD m.val = w.getLsbD (lo + m.val) := by
  rw [BitVec.getLsbD_ofNat, field_eq, Nat.testBit_mod_two_pow, Nat.testBit_div_two_pow, decide_eq_true m.isLt, Bool.true_and,
    Bool.true_and, Nat.add_comm]
  rfl

theorem conditionOk_eq : conditionOk ps =
    ((factorCode ps != 1 || !bitAt (param ps 4) 8 || decide (field (param ps 4) 16 6 ≤ field (param ps 4) 24 6))
      && (factorCode ps != 4 || decide (field (param ps 4) 0 4 ≤ 3)) && (factorCode ps != 5 || decide (field (param ps 4) 0 2 ≤ 1))) := by
  unfold conditionOk
  dsimp only
  split
  · rename_i h
    rw [h]
    simp
  · rename_i h
    rw [h]
    simp
  · rename_i h
    rw [h]
    simp
  · rename_i h1 h4 h5
    rw [bne_iff_ne.mpr h1, bne_iff_ne.mpr h4, bne_iff_ne.mpr h5]
    rfl

theorem triggerChecks_eq : triggerChecks ps = triggerFaults ps := by
  have hset : inMask (chainMask ps 0) (setOf (field (param ps 2) 0 4)) = (param ps 3).getLsbD (field (param ps 2) 0 4 % 8)
      ∧ inMask (chainMask ps 8) (setOf (field (param ps 2) 0 4)) = (param ps 3).getLsbD (8 + field (param ps 2) 0 4 % 8)
      ∧ inMask (chainMask ps 16) (setOf (field (param ps 2) 0 4)) = (param ps 3).getLsbD (16 + field (param ps 2) 0 4 % 8) :=
    ⟨(mask_bit (param ps 3) 0 _).trans (by rw [Nat.zero_add]; rfl), mask_bit (param ps 3) 8 _, mask_bit (param ps 3) 16 _⟩
  obtain ⟨h0, h8, h16⟩ := hset
  unfold triggerChecks
  dsimp only
  rw [h0, h8, h16, conditionOk_eq]
  unfold triggerFaults gradesOk distanceTiming
  dsimp only
  simp only [bitsOf_eq, Bool.decide_and, Bool.or_assoc, bne, beq_eq_decide, ne_eq, decide_not]
  rfl

theorem firstBad_eq_find (l : List (Nat × Bool)) : firstBad l = (l.find? fun f => !f.2).map Prod.fst := by
  induction l with
  | nil => rfl
  | cons f rest ih =>
    rw [firstBad, List.find?_cons]
    cases hf : f.2 with
    | false => rfl
    | true => exact ih

/-! ### SET TRIGGER: the clamped fields (R128) -/

theorem clampOutcome_eq (l : List (Nat × Int × Int)) :
    clampOutcome (firstClamped l) = rangeAnswer (l.map fun f => (f.1, decide (f.2.1 = f.2.2))) := by
  induction l with
  | nil => rfl
  | cons f rest ih =>
    unfold rangeAnswer at ih ⊢
    rw [firstClamped, List.map_cons, List.find?_cons]
    by_cases hf : f.2.1 = f.2.2
    · rw [if_pos hf, ih, decide_eq_true hf]
      rfl
    · rw [if_neg hf, decide_eq_false hf]
      rfl

theorem clamped_within {pos lo hi v : Nat} (h : lo ≤ hi) :
    ((clamped pos lo hi v).1, decide ((clamped pos lo hi v).2.1 = (clamped pos lo hi v).2.2)) = (pos, within lo hi v) := by
  refine congrArg (Prod.mk pos) ?_
  rw [Bool.eq_iff_iff, decide_eq_true_eq, ← clamp_eq_self h]
  exact Int.ofNat_inj

theorem thetaOf_eq : thetaOf ps = ((param ps 4).extractLsb' 16 16).toInt := by
  unfold thetaOf signed16
  rw [field_eq, BitVec.toInt_eq_toNat_cond, BitVec.extractLsb'_toNat, Nat.shiftRight_eq_div_pow]
  norm_num
  split <;> split <;> omega

theorem clampInt_within {v : Int} : decide (v = clampInt (-400) 850 v) = decide (-400 ≤ v ∧ v ≤ 850) := by
  unfold clampInt
  rw [decide_eq_decide]
  split
  · omega
  · split <;> omega

/-- The fields of SET TRIGGER that are clamped, with their positions and whether each lies in its range. -/
def triggerLimits : List (Nat × Bool) :=
  (if factorCode ps = 5 then [(4, decide (-400 ≤ thetaOf ps ∧ thetaOf ps ≤ 850))] else [])
    ++ (if bitAt (param ps 8) 0 then
        [(8, within 1 8192 (field (param ps 8) 16 14)),
          (9, within 0 (if distanceTiming ps then 100000 else 65535) (paramNat ps 9))] else [])
    ++ (if bitAt (param ps 11) 0 then
        [(11, within 0 1024 (field (param ps 11) 16 11)), (12, within 512 65535 (paramNat ps 12))] else [])
    ++ [(13, within 82 16777215 (paramNat ps 13))]

theorem triggerClamps_limits :
    ((triggerClamps ps).map fun f => (f.1, decide (f.2.1 = f.2.2))) = triggerLimits ps := by
  unfold triggerClamps triggerLimits
  rw [List.map_append, List.map_append, List.map_append]
  congr 1
  · congr 1
    · congr 1
      · split
        · exact congrArg (fun b => [(4, b)]) clampInt_within
        · rfl
      · split
        · rw [List.map_cons, List.map_cons, clamped_within (by omega), clamped_within (Nat.zero_le _)]
          rfl
        · rfl
    · split
      · rw [List.map_cons, List.map_cons, clamped_within (by omega), clamped_within (by omega)]
        rfl
      · rfl
  · rw [List.map_cons, clamped_within (by omega)]
    rfl

/-! ### SET TRIGGER: what it stores (R128) -/

variable {ps}

theorem temperature_theta {r : Row} {x : Int} {up down deg : Bool} (h : factorOf ps = .temperature r x up down deg) :
    x = max (-400) (min 850 (thetaOf ps)) := by
  unfold factorOf at h
  dsimp only at h
  split at h <;> cases h
  exact clampInt_eq (by decide) _

theorem pulseOf_isSome : (pulseOf ps).isSome = bitAt (param ps 8) 0 := by
  unfold pulseOf
  dsimp only
  cases bitAt (param ps 8) 0 <;> rfl

theorem pulseOf_some {p : PulseAction} (h : pulseOf ps = some p)
    (hline : bitAt (param ps 8) 0 = true → field (param ps 8) 4 4 ≤ 3) : p.line.val = field (param ps 8) 4 4
    ∧ p.width = bring 1 8192 (field (param ps 8) 16 14)
    ∧ p.timing = if distanceTiming ps then .distance (bring 0 100000 (paramNat ps 9)) else .fixed (bring 0 65535 (paramNat ps 9)) := by
  have hbit : bitAt (param ps 8) 0 = true := by rw [← pulseOf_isSome, h]; rfl
  unfold pulseOf at h
  dsimp only at h
  rw [hbit, if_pos rfl] at h
  obtain rfl := Option.some.inj h
  refine ⟨Nat.mod_eq_of_lt (Nat.lt_succ_of_le (hline hbit)), clamp_eq_bring (by omega) _, ?_⟩
  dsimp only
  rw [clamp_eq_bring (Nat.zero_le 100000), clamp_eq_bring (Nat.zero_le 65535)]

theorem captureActionOf_isSome : (captureActionOf ps).isSome = bitAt (param ps 11) 0 := by
  unfold captureActionOf
  dsimp only
  cases bitAt (param ps 11) 0 <;> rfl

theorem captureActionOf_some {c : CaptureAction} (h : captureActionOf ps = some c) :
    c.pre = bring 0 1024 (field (param ps 11) 16 11) ∧ c.maxFrames = bring 512 65535 (paramNat ps 12) := by
  have hbit : bitAt (param ps 11) 0 = true := by rw [← captureActionOf_isSome, h]; rfl
  unfold captureActionOf at h
  dsimp only at h
  rw [hbit, if_pos rfl] at h
  obtain rfl := Option.some.inj h
  exact ⟨clamp_eq_bring (Nat.zero_le 1024) _, clamp_eq_bring (by decide) _⟩

/-- The state SET TRIGGER stores its definition in. -/
def State.triggerStored (s : State) (ps : List Word) : State :=
  { s with
    trig.waiting := s.trig.waiting.map (TrigEvent.redefined (setOf (field (param ps 2) 0 4)))
    trig.sets := s.trig.sets.set (setOf (field (param ps 2) 0 4))
      { enabled := bitAt (param ps 2) 8, dfn := triggerOf ps, timer := .stopped, side := .unknown, degraded := false } }

variable {t : OrderPage} {s : State}

theorem setTrigger_bad (h : OrderHeld .setTrigger 15 ps t s) {f : Nat × Bool} (hbad : (triggerFaults ps).find? (fun f => !f.2) = some f) :
    exec .setTrigger s = .next (settleDown (s.answered t 15 (.invalid, f.1))) :=
  h.refusedField (fields := triggerChecks ps) (by rw [triggerChecks_eq, firstBad_eq_find, hbad]; rfl) (ifLength_ok _ rfl)

theorem setTrigger_good (h : OrderHeld .setTrigger 15 ps t s) (hgood : (triggerFaults ps).find? (fun f => !f.2) = none) :
    exec .setTrigger s = .next (settleDown ((s.triggerStored ps).answered t 15 (rangeAnswer (triggerLimits ps)))) := by
  have hchecks : firstBad (triggerChecks ps) = none := by rw [triggerChecks_eq, firstBad_eq_find, hgood]; rfl
  refine h.run_eq ((ifLength_ok _ rfl).trans ?_)
  rw [hchecks]
  show answerClamped (firstClamped (triggerClamps ps)) (s.triggerStored ps) = _
  unfold answerClamped
  rw [clampOutcome_eq, triggerClamps_limits]
  exact h.answer (by rfl) _ _

/-- With no bad field the set and the pulse's line are named by their numbers. -/
theorem faults_pass (hgood : (triggerFaults ps).find? (fun f => !f.2) = none) :
    field (param ps 2) 0 4 ≤ 7 ∧ (bitAt (param ps 8) 0 = true → field (param ps 8) 4 4 ≤ 3) := by
  rw [List.find?_eq_none, ← triggerChecks_eq] at hgood
  have hset := hgood (2, decide (field (param ps 2) 0 4 ≤ 7) && decide (factorCode ps ≤ 8)) (by simp [triggerChecks])
  have hpulse := hgood (8, !bitAt (param ps 8) 0 || (decide (field (param ps 8) 4 4 ≤ 3)
    && (!distanceTiming ps || decide (factorCode ps = 1)))) (by simp [triggerChecks])
  simp only [Bool.not_eq_true', Bool.not_eq_false, Bool.and_eq_true, Bool.or_eq_true, decide_eq_true_eq] at hset hpulse
  refine ⟨hset.1, fun hbit => ?_⟩
  obtain hno | ⟨hline, -⟩ := hpulse
  · rw [hbit] at hno
    cases hno
  · exact hline

theorem triggerStored_other {m : SetId} (h : m ≠ setOf (field (param ps 2) 0 4)) :
    (s.triggerStored ps).trig.sets.get m = s.trig.sets.get m :=
  Tab.get_set_ne _ _ (Ne.symm h)

theorem triggerStored_dfn : ((s.triggerStored ps).trig.sets.get (setOf (field (param ps 2) 0 4))).dfn = triggerOf ps :=
  congrArg TriggerSet.dfn (Tab.get_set_same ..)

end

/-! ### LOADs whose data has been read (R76, R104) -/

section
variable {len : Nat} {ps ws : List Word} {t : OrderPage} {s : State}

theorem finishCurve_bad {i : Nat} (h : LoadHeld .loadTemperatureCurve len ps t s)
    (hbad : firstBad (numberedPoints 1 none (ws.map pointOf)) = some i) :
    finishCurve ws s = ({ s with temp.shadow := none } : State).answered t len (.invalid, i) := by
  unfold finishCurve
  dsimp only
  rw [hbad]
  exact h.answer (by rfl) _ _

theorem finishClassTable_short {n : Nat} (h : LoadHeld .loadClassTable len ps t s) (hws : ¬WalkEnds n ws) :
    finishClassTable n ws s = ({ s with cls.shadow := none } : State).answered t len (.invalid, 2) := by
  unfold finishClassTable
  dsimp only
  cases hwalk : walkEntries n ws with
  | none => exact h.answer (by rfl) _ _
  | some es => exact absurd (walkEnds_of_walkEntries hwalk) hws

theorem finishClassTable_bad {pre post : List ClassEntry} {e : ClassEntry} (h : LoadHeld .loadClassTable len ps t s)
    (hfits : ∀ d ∈ pre ++ e :: post, d.fitsFields) (hpre : ∀ d ∈ pre, d.Sound) (he : ¬e.Sound) :
    finishClassTable (pre ++ e :: post).length ((pre ++ e :: post).flatMap ClassEntry.words) s =
      ({ s with cls.shadow := none } : State).answered t len (.invalid, pre.length + 1) := by
  unfold finishClassTable
  dsimp only
  rw [walkEntries_words hfits]
  dsimp only
  rw [numberedFrom_bad hpre he]
  exact h.answer (by rfl) _ _

end

/-! ### The lengths of the orders (R183) -/

section
variable {k : OrderKind} {len n : Nat} {ps : List Word} {t : OrderPage} {s : State} {c : Instr}

/-- The orders of a fixed length that no run state and no lock refuses before it is checked. -/
def lengthFirst : List (OrderKind × Nat × Instr) :=
  [(.setExchange, 4, .setExchange), (.setClock, 4, .setClock), (.setQuiet, 5, .setQuiet), (.setProbes, 7, .setProbes),
    (.setTemperature, 12, .setTemperature), (.setDrift, 7, .setDrift), (.setTrigger, 15, .setTrigger),
    (.setFieldLines, 3, .setFieldLines), (.controlTriggers, 3, Instr.controlTriggers)]

theorem wrongLength (hkc : (k, n, c) ∈ lengthFirst) (h : OrderHeld k len ps t s) (hne : len ≠ n) :
    exec c s = .next (settleDown (s.answered t len (.invalid, 0))) := by
  simp only [lengthFirst, List.mem_cons, Prod.mk.injEq, List.not_mem_nil, or_false] at hkc
  rcases hkc with ⟨rfl, rfl, rfl⟩ | ⟨rfl, rfl, rfl⟩ | ⟨rfl, rfl, rfl⟩ | ⟨rfl, rfl, rfl⟩ | ⟨rfl, rfl, rfl⟩ | ⟨rfl, rfl, rfl⟩
    | ⟨rfl, rfl, rfl⟩ | ⟨rfl, rfl, rfl⟩ | ⟨rfl, rfl, rfl⟩
  · exact h.refusedLength (decide_eq_false hne) rfl
  · exact h.refusedLength (decide_eq_false hne) rfl
  · exact h.refusedLength (decide_eq_false hne) rfl
  · exact h.refusedLength (decide_eq_false hne) rfl
  · exact h.refusedLength (decide_eq_false hne) (by unfold orderSetTemperature; rfl)
  · exact h.refusedLength (decide_eq_false hne) rfl
  · exact h.refusedLength (decide_eq_false hne) rfl
  · exact h.refusedLength (decide_eq_false hne) rfl
  · exact h.refusedLength (decide_eq_false hne) (by unfold orderControlTriggers; rfl)

/-- The orders of a fixed length that only another run state refuses before it is checked. -/
theorem wrongLength_ready (hkc : (k, n, c) ∈ [(.setChannelMask, 3, .setChannelMask), (.setDetection, 7, .setDetection),
      (.setWeighing, 8, .setWeighing), (.setAssembly, 3, Instr.setAssembly)]) (h : OrderHeld k len ps t s) (hne : len ≠ n)
    (hrun : s.run = .ready) : exec c s = .next (settleDown (s.answered t len (.invalid, 0))) := by
  simp only [List.mem_cons, Prod.mk.injEq, List.not_mem_nil, or_false] at hkc
  rcases hkc with ⟨rfl, rfl, rfl⟩ | ⟨rfl, rfl, rfl⟩ | ⟨rfl, rfl, rfl⟩ | ⟨rfl, rfl, rfl⟩ <;>
    exact h.refusedLength (decide_eq_false hne) (ifReady_ready _ hrun)

theorem capture_wrongLength (h : OrderHeld .capture len ps t s) (hne : len ≠ 5) (hrun : s.run ≠ .draining) :
    exec .capture s = .next (settleDown (s.answered t len (.invalid, 0))) :=
  h.refusedLength (decide_eq_false hne) (if_neg hrun)

theorem restoreDrift_wrongLength (h : OrderHeld .restoreDrift len ps t s) (hne : len ≠ 34) (hlock : s.cal.lock = false) :
    exec .restoreDrift s = .next (settleDown (s.answered t len (.invalid, 0))) :=
  h.refusedLength (decide_eq_false hne) (ifUnlocked_clear _ hlock)

end

/-- Settles O55: the refusals in the order of the checks. -/
theorem ordersRefused : Obligations.OrdersRefused := by
  refine ⟨fun k c hkc len ps t s h hrun => ?_, fun len ps t s h hrun => ?_, fun k c hkc len ps t s h hrun hlock => ?_,
    fun k c hkc len ps t s h hlock => ?_, fun a b c d e t s h hlock hne => ?_, fun k n c hkc len ps t s h hne hrun hlock => ?_,
    fun k n c hkc len ps t s h hne => wrongLength hkc h hne, fun len ps t s hne h hrun => capture_wrongLength h hne hrun,
    fun len ps t s hne h hlock => restoreDrift_wrongLength h hne hlock,
    fun k n c hkc len ps t s h hne hrun => wrongLength_ready hkc h hne hrun, fun mask pa sa pb sb t s h => ?_,
    fun hold step interval bs t s h hlen => ?_, fun len ps ws t s h hs => ?_, fun len n ps ws t s h hs => ?_, fun ps t s h hlen => ?_⟩
  · simp only [List.mem_cons, Prod.mk.injEq, List.not_mem_nil, or_false] at hkc
    rcases hkc with ⟨rfl, rfl⟩ | ⟨rfl, rfl⟩ | ⟨rfl, rfl⟩ | ⟨rfl, rfl⟩ | ⟨rfl, rfl⟩ | ⟨rfl, rfl⟩ | ⟨rfl, rfl⟩ <;>
      exact h.refusedState hrun rfl
  · exact h.run_eq ((if_pos hrun).trans (h.answer rfl _ _))
  · simp only [List.mem_cons, Prod.mk.injEq, List.not_mem_nil, or_false] at hkc
    rcases hkc with ⟨rfl, rfl⟩ | ⟨rfl, rfl⟩ <;> exact h.refusedLocked hlock (ifReady_ready _ hrun)
  · simp only [List.mem_cons, Prod.mk.injEq, List.not_mem_nil, or_false] at hkc
    rcases hkc with ⟨rfl, rfl⟩ | ⟨rfl, rfl⟩ | ⟨rfl, rfl⟩ | ⟨rfl, rfl⟩ <;> exact h.refusedLocked hlock rfl
  · refine h.run_eq (Eq.trans ?_ (h.answer rfl .locked 0))
    unfold orderSetDrift
    rw [ifLength_ok _ rfl]
    exact if_pos ⟨hlock, hne⟩
  · simp only [List.mem_cons, Prod.mk.injEq, List.not_mem_nil, or_false] at hkc
    rcases hkc with ⟨rfl, rfl, rfl⟩ | ⟨rfl, rfl, rfl⟩ | ⟨rfl, rfl, rfl⟩ | ⟨rfl, rfl, rfl⟩ | ⟨rfl, rfl, rfl⟩ | ⟨rfl, rfl, rfl⟩
      | ⟨rfl, rfl, rfl⟩ | ⟨rfl, rfl, rfl⟩ | ⟨rfl, rfl, rfl⟩ | ⟨rfl, rfl, rfl⟩ | ⟨rfl, rfl, rfl⟩ | ⟨rfl, rfl, rfl⟩
      | ⟨rfl, rfl, rfl⟩ | ⟨rfl, rfl, rfl⟩ | ⟨rfl, rfl, rfl⟩ | ⟨rfl, rfl, rfl⟩ | ⟨rfl, rfl, rfl⟩
    · exact wrongLength (by simp [lengthFirst]) h hne
    · exact wrongLength (by simp [lengthFirst]) h hne
    · exact wrongLength (by simp [lengthFirst]) h hne
    · exact h.refusedLength (decide_eq_false hne) ((ifReady_ready _ hrun).trans (ifUnlocked_clear _ hlock))
    · exact wrongLength_ready (by simp) h hne hrun
    · exact wrongLength_ready (by simp) h hne hrun
    · exact capture_wrongLength h hne (by rw [hrun]; decide)
    · exact wrongLength_ready (by simp) h hne hrun
    · exact wrongLength (by simp [lengthFirst]) h hne
    · exact wrongLength (by simp [lengthFirst]) h hne
    · exact wrongLength_ready (by simp) h hne hrun
    · exact h.refusedLength (decide_eq_false hne) ((ifReady_ready _ hrun).trans (ifUnlocked_clear _ hlock))
    · exact wrongLength (by simp [lengthFirst]) h hne
    · exact restoreDrift_wrongLength h hne hlock
    · exact wrongLength (by simp [lengthFirst]) h hne
    · exact wrongLength (by simp [lengthFirst]) h hne
    · exact wrongLength (by simp [lengthFirst]) h hne
  · intro primary secondary invalid
    have hrefused {pos : Nat} (hbad : firstBad [(3, primaryOk mask (assignOf pa)), (4, secondaryOk mask (assignOf pa) (assignOf sa)),
        (5, primaryOk mask (assignOf pb)), (6, secondaryOk mask (assignOf pb) (assignOf sb))] = some pos) : invalid pos :=
      h.refusedField hbad (ifLength_ok _ rfl)
    have hgood {p : Bool} {q : Prop} (hiff : p = true ↔ q) : (q → p = true) ∧ (¬q → p = false) :=
      ⟨hiff.mpr, fun hq => Bool.eq_false_iff.mpr (mt hiff.mp hq)⟩
    refine ⟨fun h3 => hrefused ?_, fun h3 h4 => hrefused ?_, fun h3 h4 h5 => hrefused ?_, fun h3 h4 h5 h6 => hrefused ?_⟩
    · rw [(hgood primaryOk_iff).2 h3]
      rfl
    · rw [(hgood primaryOk_iff).1 h3, (hgood secondaryOk_iff).2 h4]
      rfl
    · rw [(hgood primaryOk_iff).1 h3, (hgood secondaryOk_iff).1 h4, (hgood primaryOk_iff).2 h5]
      rfl
    · rw [(hgood primaryOk_iff).1 h3, (hgood secondaryOk_iff).1 h4, (hgood primaryOk_iff).1 h5, (hgood secondaryOk_iff).2 h6]
      rfl
  · intro to_
    have hbounds : boundsOf (hold :: step :: interval :: bs) = to_ := boundsOf_eq hlen
    refine ⟨fun hlock hne => h.run_eq (Eq.trans ?_ (h.answer rfl .locked 0)), fun hfree => ?_⟩
    · unfold orderSetTemperature
      rw [hbounds, ifLength_ok _ rfl]
      exact if_pos ⟨hlock, hne⟩
    · intro good i hbefore hbad
      refine h.run_eq (Eq.trans ?_ (h.answer rfl .invalid (5 + i)))
      unfold orderSetTemperature
      have hpass : ¬(s.cal.lock = true ∧ to_ ≠ s.temp.bounds) := fun ⟨hlock, hne⟩ =>
        hfree.elim (fun hclear => Bool.false_ne_true (hclear.symm.trans hlock)) (absurd · hne)
      have hfirst : firstBad (numberedBounds 5 none to_) = some (5 + i) := by
        rw [numberedBounds_eq]
        refine firstBad_numbered (good := good) (fun j => forall_congr' fun b => ?_) hbefore hbad
        rw [boundOk_iff, entryBefore_forall (P := fun p => p < b)]
        exact Iff.rfl
      rw [hbounds, ifLength_ok _ rfl, if_neg hpass, hfirst]
      rfl
  · intro points good i hbefore hbad
    refine exec_loadTemperatureCurveDone h hs (finishCurve_bad h ?_)
    have hpoints : ws.map pointOf = points := List.map_congr_left fun w _ => pointOf_eq w
    rw [hpoints, numberedPoints_eq, Nat.add_comm]
    refine firstBad_numbered (good := good) (fun j => forall_congr' fun x => ?_) hbefore hbad
    rw [pointOk_iff, entryBefore_forall (P := fun b => b < x.1)]
  · intro invalid
    refine ⟨fun hws => exec_loadClassTableDone h hs (finishClassTable_short h hws),
      fun pre e post hws hn hfits hpre he => exec_loadClassTableDone h hs ?_⟩
    rw [hws, hn]
    exact finishClassTable_bad h hfits hpre he
  · intro w bad theta far limits
    refine ⟨fun f hbad => setTrigger_bad h hbad, fun hgood => ?_⟩
    obtain ⟨hset, hline⟩ := faults_pass hgood
    refine ⟨setOf (field (param ps 2) 0 4), _, setTrigger_good h hgood, ?_, ?_, fun m hm => ?_, ?_⟩
    · rw [bitsOf_eq]
      exact Nat.mod_eq_of_lt (Nat.lt_succ_of_le hset)
    · rw [settleDown_ex_taken]
      have hlimits : triggerLimits ps = limits := by
        show triggerLimits ps = _
        unfold triggerLimits
        rw [thetaOf_eq]
        simp only [limits, bitsOf_eq]
        rfl
      rw [hlimits]
      rfl
    · rw [settleDown_trig]
      exact triggerStored_other hm
    · have hdfn : ((settleDown ((s.triggerStored ps).answered t 15 (rangeAnswer (triggerLimits ps)))).trig.sets.get
          (setOf (field (param ps 2) 0 4))).dfn = triggerOf ps := by
        rw [settleDown_trig]
        exact triggerStored_dfn
      rw [hdfn]
      simp only [bitsOf_eq]
      refine ⟨clamp_eq_bring (by decide) _, fun r x up down deg hx => (temperature_theta hx).trans ?_, pulseOf_isSome,
        fun p hp => pulseOf_some hp hline, captureActionOf_isSome, fun c hc => captureActionOf_some hc⟩
      rw [thetaOf_eq]
      rfl

end Sys2Proof.Machine
end

section
/-!
PROOFS. A bus error and the resumption of the exchange (R163, R164).
-/

namespace Sys2Proof.Machine

section
variable {s u : State}

/-! ### The sweep that begins (R152) -/

/-- Behind a command the sweeper goes on from a state with the same exchange. -/
theorem settleDown_sweeps (u : State) : ∃ v grant, v.ex = u.ex ∧ v.exchangeFree = u.exchangeFree
    ∧ (settleDown u).ex = { (advanceSweeper v).ex with grant := grant } := by
  obtain ⟨page, pinned, hw⟩ := advanceWriter_frame (quietUpdate u)
  obtain ⟨st, ht⟩ := advanceTrace_frame (advanceWriter (quietUpdate u))
  obtain ⟨grant, ha⟩ := arbitrate_frame (advanceSweeper (advanceTrace (advanceWriter (quietUpdate u))))
  refine ⟨advanceTrace (advanceWriter (quietUpdate u)), grant, ?_, ?_, ?_⟩
  · rw [ht, hw]
    rfl
  · rw [ht, hw]
    rfl
  · exact congrArg State.ex ha

theorem settleDown_sweepBegun (hat : u.ex.sweepAt = some 0) (htimer : u.ex.sweepTimer = none) (hfree : u.exchangeFree = true)
    (hw : u.ex.work = none) : (settleDown u).SweepBegun
      ∧ ((settleDown u).ex.sweepAt.isSome = true ∨ (settleDown u).ex.sweepTimer.isSome = true) := by
  obtain ⟨v, grant, hex, hvfree, hsettled⟩ := settleDown_sweeps u
  rw [← hvfree] at hfree
  rw [← hex] at hat hw htimer
  unfold State.SweepBegun
  rw [hsettled]
  cases hnext : v.nextSwept 0 with
  | some p =>
    have hreads := advanceSweeper_reads hat hw hfree hnext
    have hfound := List.find?_some hnext
    rw [Bool.and_eq_true, decide_eq_true_eq, decide_eq_true_eq] at hfound
    rw [hreads]
    by_cases hh : v.ex.handovers.isEmpty = true
    · rw [if_pos hh]
      refine ⟨⟨fun q hq hlow => ?_, fun hnone => absurd hfound.2 (hnone p)⟩, .inl rfl⟩
      cases hnext.symm.trans (nextSwept_eq (Nat.zero_le _) hq fun q' _ => hlow q')
      exact ⟨htimer, fun _ => ⟨rfl, rfl⟩, fun hne => absurd (List.isEmpty_iff.mp hh) hne⟩
    · rw [if_neg hh]
      refine ⟨⟨fun q hq hlow => ⟨htimer, fun he => absurd (List.isEmpty_iff.mpr he) hh, fun _ => ⟨hw, hat⟩⟩,
        fun hnone => absurd hfound.2 (hnone p)⟩, .inl ?_⟩
      show v.ex.sweepAt.isSome = true
      rw [hat]
      rfl
  | none =>
    rw [advanceSweeper_ends hat hw hfree hnext]
    refine ⟨⟨fun q hq hlow => ?_, fun _ => ⟨hw, rfl, rfl⟩⟩, .inr rfl⟩
    cases hnext.symm.trans (nextSwept_eq (Nat.zero_le _) hq fun q' _ => hlow q')

/-- With an entry in hand, or the exchange not free, the sweep stands where it is. -/
theorem settleDown_sweepStays (h : u.ex.sweepAt = none ∨ u.ex.work ≠ none ∨ u.exchangeFree = false) :
    ∃ grant, (settleDown u).ex = { u.ex with grant := grant } := by
  obtain ⟨v, grant, hex, hvfree, hsettled⟩ := settleDown_sweeps u
  rw [advanceSweeper_rest (by rw [hex, hvfree]; exact h), hex] at hsettled
  exact ⟨grant, hsettled⟩

/-! ### A bus error (R163) -/

variable {own : Bool} {r : Requester}

theorem faultWriter_frame (own : Bool) (s : State) : ∃ page pages list table, faultWriter own s =
    { s with rw.page := page, rw.pages := pages, ex.resultList := list, ex.table := table } := by
  unfold faultWriter
  repeat' first | exact ⟨_, _, _, _, rfl⟩ | split

theorem faultTrace_frame (own : Bool) (s : State) : ∃ st list table, faultTrace own s =
    { s with cap.st := st, ex.traceList := list, ex.table := table } := by
  unfold faultTrace
  repeat' first | exact ⟨_, _, _, rfl⟩ | split

theorem faultReader_frame (own : Bool) (s : State) : ∃ taken list table curve classes, faultReader own s =
    { s with ex.taken := taken, ex.orderList := list, ex.table := table, temp.shadow := curve, cls.shadow := classes } := by
  unfold faultReader
  repeat' first | exact ⟨_, _, _, _, _, rfl⟩ | split

theorem faultWriter_take {p : ResultPage} (hp : s.rw.page = some p) (hph : p.phase = .takeEntry) : faultWriter true s =
    { s with
      rw.page := none
      rw.pages := s.rw.pages - 1
      ex.resultList := p.page :: s.ex.resultList
      ex.table := s.ex.table.set p.page .queuedResult } := by
  unfold faultWriter
  rw [hp]
  exact if_pos ⟨rfl, hph⟩

theorem faultWriter_givenUp {p : ResultPage} (hp : s.rw.page = some p) (h : own = false ∨ p.phase ≠ .takeEntry) :
    ∃ noted, faultWriter own s = { s with rw.page := some { p with phase := .rest, closeWith := none, noted := noted } } := by
  unfold faultWriter
  rw [hp]
  refine ⟨_, if_neg fun ⟨hown, hph⟩ => h.elim (fun hf => ?_) (absurd hph)⟩
  rw [hown] at hf
  cases hf

theorem faultWriter_none (hp : s.rw.page = none) : faultWriter own s = s := by
  unfold faultWriter
  rw [hp]

theorem faultTrace_take {c : CaptureRun} {pg : TracePage} (hc : s.cap.st = .capturing c) (hp : c.page = some pg)
    (hph : pg.phase = .takeEntry) : faultTrace true s =
      { s with
        cap.st := .capturing { c with page := none }
        ex.traceList := pg.page :: s.ex.traceList
        ex.table := s.ex.table.set pg.page .queuedTrace } := by
  unfold faultTrace
  rw [hc]
  dsimp only
  rw [hp]
  exact if_pos ⟨rfl, hph⟩

theorem faultTrace_givenUp {c : CaptureRun} {pg : TracePage} (hc : s.cap.st = .capturing c) (hp : c.page = some pg)
    (h : own = false ∨ pg.phase ≠ .takeEntry) :
    faultTrace own s = { s with cap.st := .capturing { c with page := some { pg with phase := .rest } } } := by
  unfold faultTrace
  rw [hc]
  dsimp only
  rw [hp]
  refine if_neg fun ⟨hown, hph⟩ => h.elim (fun hf => ?_) (absurd hph)
  rw [hown] at hf
  cases hf

theorem taking_iff (ph : ReadPhase) : ph.taking = true ↔ ph = .refuse ∨ ∃ w, ph = .takeEntry w := by
  cases ph <;> simp [ReadPhase.taking]

theorem faultReader_take {x : OrderPage} (hx : s.ex.taken = some x) (hph : x.phase.taking = true) : faultReader true s =
    { s with
      ex.taken := none
      ex.orderList := (x.page, x.entry) :: s.ex.orderList
      ex.table := s.ex.table.set x.page .queuedOrder } := by
  unfold faultReader
  rw [hx]
  exact if_pos ⟨rfl, hph⟩

theorem faultReader_halts {x : OrderPage} (hx : s.ex.taken = some x) (h : own = false ∨ x.phase.taking = false) : faultReader own s =
    { s with ex.taken := some { x with phase := .halted }, temp.shadow := none, cls.shadow := none } := by
  unfold faultReader
  rw [hx]
  refine (if_neg fun ⟨hown, hph⟩ => h.elim (fun hf => ?_) fun hf => ?_).trans (setReader_taken _ hx)
  · rw [hown] at hf
    cases hf
  · rw [hph] at hf
    cases hf

/-- The trace writer and the order reader leave the rest of the exchange where their own access did not fail. -/
theorem faultTrace_other (s : State) : (faultTrace false s).ex = s.ex := by
  unfold faultTrace
  split
  · split
    · rfl
    · rw [if_neg fun h => Bool.false_ne_true h.1]
  · rfl

theorem faultReader_other (s : State) : (faultReader false s).ex.table = s.ex.table := by
  unfold faultReader
  split
  · rfl
  · rw [if_neg fun h => Bool.false_ne_true h.1]
    rfl

/-! No requester has work left. -/

theorem faultWriter_atRest {p : ResultPage} (h : (faultWriter own s).rw.page = some p) : p.phase = .rest := by
  unfold faultWriter at h
  split at h
  · rename_i hp
    cases hp.symm.trans h
  · split at h
    · cases h
    · exact (Option.some.inj h) ▸ rfl

theorem faultTrace_atRest {c : CaptureRun} {pg : TracePage} (h : (faultTrace own s).cap.st = .capturing c) (hp : c.page = some pg) :
    pg.phase = .rest := by
  unfold faultTrace at h
  split at h
  · rename_i d hd
    split at h
    · rename_i hnone
      obtain rfl := CaptureState.capturing.inj (hd.symm.trans h)
      cases hnone.symm.trans hp
    · split at h
      · obtain rfl := CaptureState.capturing.inj h
        cases hp
      · obtain rfl := CaptureState.capturing.inj h
        exact (Option.some.inj hp) ▸ rfl
  · rename_i hno
    exact absurd h (hno c)

theorem faultReader_halted {x : OrderPage} (h : (faultReader own s).ex.taken = some x) : x.phase = .halted := by
  unfold faultReader at h
  split at h
  · rename_i hx
    cases hx.symm.trans h
  · rename_i y hy
    split at h
    · cases h
    · rw [setReader_taken _ (by exact hy)] at h
      exact (Option.some.inj h) ▸ rfl

/-- With every page at rest, no order page read and no entry in hand, nothing is asked of the bus. -/
theorem requests_none (hw : ∀ p, u.rw.page = some p → p.phase = .rest)
    (ht : ∀ c pg, u.cap.st = .capturing c → c.page = some pg → pg.phase = .rest)
    (hr : ∀ x, u.ex.taken = some x → x.phase = .halted) (hs : u.ex.work = none) (r : Requester) : u.request r = none := by
  cases r with
  | recordWriter =>
    show u.writerRequest = none
    unfold State.writerRequest
    split
    · rfl
    · rename_i p hp
      rw [hw p hp]
  | traceWriter =>
    show u.traceRequest = none
    unfold State.traceRequest
    split
    · rename_i c hc
      split
      · rfl
      · rename_i pg hp
        rw [ht c pg hc hp]
    · rfl
  | orderReader =>
    show u.readerRequest = none
    unfold State.readerRequest
    split
    · rfl
    · rename_i x hx
      rw [hr x hx]
  | sweeper =>
    show u.sweeperRequest = none
    unfold State.sweeperRequest
    rw [hs]

/-- The state once the three pages have been dealt with. -/
def State.pagesFaulted (s : State) (r : Requester) : State :=
  faultReader (decide (r = .orderReader)) (faultTrace (decide (r = .traceWriter)) (faultWriter (decide (r = .recordWriter)) s))

theorem takeBusError_eq (r : Requester) (s : State) : takeBusError r s =
    { s.pagesFaulted r with
      regs.busFault := true, ex.grant := none, ex.resuming := false, ex.work := none, ex.sweepAt := none, ex.sweepTimer := none,
      ex.handovers := [] } := rfl

/-- What the dealing with the pages can change. -/
theorem pagesFaulted_frame (r : Requester) (s : State) : ∃ page pages st taken results traces orders table curve classes,
    s.pagesFaulted r = { s with
      rw.page := page, rw.pages := pages, cap.st := st, ex.taken := taken, ex.resultList := results, ex.traceList := traces
      ex.orderList := orders, ex.table := table, temp.shadow := curve, cls.shadow := classes } := by
  obtain ⟨page, pages, results, t1, h1⟩ := faultWriter_frame (decide (r = .recordWriter)) s
  obtain ⟨st, traces, t2, h2⟩ := faultTrace_frame (decide (r = .traceWriter)) (faultWriter (decide (r = .recordWriter)) s)
  obtain ⟨taken, orders, table, curve, classes, h3⟩ := faultReader_frame (decide (r = .orderReader))
    (faultTrace (decide (r = .traceWriter)) (faultWriter (decide (r = .recordWriter)) s))
  refine ⟨page, pages, st, taken, results, traces, orders, table, curve, classes, ?_⟩
  unfold State.pagesFaulted
  rw [h3, h2, h1]

/-- Each part of the pages dealt with comes from its own step. -/
theorem pagesFaulted_parts (r : Requester) (s : State) :
    (s.pagesFaulted r).rw = (faultWriter (decide (r = .recordWriter)) s).rw
      ∧ (s.pagesFaulted r).ex.resultList = (faultWriter (decide (r = .recordWriter)) s).ex.resultList
      ∧ (s.pagesFaulted r).cap = (faultTrace (decide (r = .traceWriter)) (faultWriter (decide (r = .recordWriter)) s)).cap
      ∧ (s.pagesFaulted r).ex.traceList = (faultTrace (decide (r = .traceWriter)) (faultWriter (decide (r = .recordWriter)) s)).ex.traceList := by
  obtain ⟨st, traces, t2, h2⟩ := faultTrace_frame (decide (r = .traceWriter)) (faultWriter (decide (r = .recordWriter)) s)
  obtain ⟨taken, orders, table, curve, classes, h3⟩ := faultReader_frame (decide (r = .orderReader))
    (faultTrace (decide (r = .traceWriter)) (faultWriter (decide (r = .recordWriter)) s))
  unfold State.pagesFaulted
  refine ⟨?_, ?_, ?_, ?_⟩
  · rw [h3, h2]
  · rw [h3, h2]
  · rw [h3]
  · rw [h3]

theorem pagesFaulted_quiet (r : Requester) (s : State) :
    (∀ p, (s.pagesFaulted r).rw.page = some p → p.phase = .rest)
      ∧ (∀ c pg, (s.pagesFaulted r).cap.st = .capturing c → c.page = some pg → pg.phase = .rest)
      ∧ ∀ x, (s.pagesFaulted r).ex.taken = some x → x.phase = .halted := by
  obtain ⟨hrw, -, hcap, -⟩ := pagesFaulted_parts r s
  rw [hrw, hcap]
  exact ⟨fun p => faultWriter_atRest, fun c pg => faultTrace_atRest, fun x => faultReader_halted⟩

theorem advanceTrace_fault (h : s.regs.busFault = true) : advanceTrace s = s := by
  unfold advanceTrace
  split
  · split
    · rfl
    · exact if_neg (by simp [h])
  · rfl

theorem grant_self {v : State} {g : Option Requester} (h : v.ex.grant = g) : v = { v with ex.grant := g } := by rw [← h]

/-- Behind a bus error nothing more is taken up. -/
theorem settleDown_fault (hb : u.regs.busFault = true) (hs : u.ex.sweepAt = none) (hg : u.ex.grant = none)
    (hnone : ∀ r, u.request r = none) : settleDown u = quietUpdate u := by
  have hquiet (g : Requester) : (quietUpdate u).request g = u.request g := by cases g <;> rfl
  have hw : advanceWriter (quietUpdate u) = quietUpdate u := advanceWriter_stopped (.inl hb)
  have ht : advanceTrace (quietUpdate u) = quietUpdate u := advanceTrace_fault hb
  have hsweep : advanceSweeper (quietUpdate u) = quietUpdate u := advanceSweeper_rest (.inl hs)
  have ha : arbitrate (quietUpdate u) = quietUpdate u := by
    have hgrant : (quietUpdate u).ex.grant = none := hg
    rw [arbitrate_free fun r hr => (by cases hgrant.symm.trans hr), highest_none.mpr fun q => (hquiet q).trans (hnone q)]
    exact (grant_self hgrant).symm
  unfold settleDown
  rw [hw, ht, hsweep, ha]

theorem takeBusError_requests (r q : Requester) (s : State) : (takeBusError r s).request q = none := by
  obtain ⟨h1, h2, h3⟩ := pagesFaulted_quiet r s
  exact requests_none (u := takeBusError r s) h1 h2 h3 rfl q

theorem exec_busError (hidle : s.powerIdle = true) (hg : s.ex.grant = some r) :
    exec .busError s = .next (quietUpdate (takeBusError r s)) := by
  have hpower : (takeBusError r s).powerIdle = true := by
    obtain ⟨_, _, _, _, _, _, _, _, _, _, h⟩ := pagesFaulted_frame r s
    rw [takeBusError_eq, h]
    exact hidle
  have hsettled : settleDown (takeBusError r s) = quietUpdate (takeBusError r s) :=
    settleDown_fault rfl rfl rfl fun q => takeBusError_requests r q s
  rw [← hsettled]
  refine answerNext_eq ?_
  unfold takeError
  rw [hg]
  exact pfProgress_idle hpower

/-! ### The resumption (R164) -/

/-- What step 3 of a resumption, and step 4 where there is nothing to answer, leave in `t` from `s`. -/
def OrdersResumed (s t : State) : Prop :=
  (∀ x, s.ex.taken = some x → x.phase = .halted →
    t.ex.taken = some { x with flags := x.flags ||| 0x04, phase := .answer } ∧ t.ex.resuming = true)
  ∧ (s.ex.taken = none → s.run.works = true →
    t.ex.taken = none ∧ t.ex.resuming = false ∧ (t.ex.sweepAt.isSome = true ∨ t.ex.sweepTimer.isSome = true)
      ∧ (s.ex.work = none → t.SweepBegun) ∧ (s.ex.work ≠ none → t.ex.sweepAt = some 0 ∧ t.ex.sweepTimer = none))

/-- A resumption in progress in the working exchange. -/
structure State.Resuming (s : State) : Prop where
  resuming : s.ex.resuming = true
  idle : s.powerIdle = true
  noFault : s.regs.busFault = false

theorem resumeOrders_frame (s : State) : ∃ taken resuming place timer, resumeOrders s =
    { s with ex.taken := taken, ex.resuming := resuming, ex.sweepAt := place, ex.sweepTimer := timer } := by
  unfold resumeOrders resumeEnds startSweep
  dsimp only
  repeat' first | exact ⟨_, _, _, _, rfl⟩ | split

theorem resumeOrders_halted {x : OrderPage} (hx : s.ex.taken = some x) (hph : x.phase = .halted) :
    resumeOrders s = { s with ex.taken := some { x with flags := x.flags ||| 0x04, phase := .answer } } := by
  unfold resumeOrders
  rw [hx]
  exact if_pos hph

theorem resumeOrders_none (hx : s.ex.taken = none) (hworks : s.run.works = true) (hidle : s.powerIdle = true) :
    resumeOrders s = { s with ex.resuming := false, ex.sweepAt := some 0, ex.sweepTimer := none } := by
  unfold resumeOrders
  rw [hx]
  exact if_pos ⟨hworks, hidle⟩

theorem State.Resuming.orders (h : s.Resuming) : OrdersResumed s (settleDown (resumeOrders s)) := by
  refine ⟨fun x hx hph => ?_, fun hx hworks => ?_⟩
  · rw [resumeOrders_halted hx hph]
    exact ⟨settleDown_ex_taken _, (settleDown_ex_resuming _).trans h.resuming⟩
  · rw [resumeOrders_none hx hworks h.idle]
    have hfree : ({ s with ex.resuming := false, ex.sweepAt := some 0, ex.sweepTimer := none } : State).exchangeFree = true := by
      show (s.run.works && (!s.regs.busFault && (!false && s.powerIdle))) = true
      rw [hworks, h.noFault, h.idle]
      rfl
    cases hw : s.ex.work with
    | none =>
      obtain ⟨hbegun, hsweeps⟩ := settleDown_sweepBegun
        (u := { s with ex.resuming := false, ex.sweepAt := some 0, ex.sweepTimer := none }) rfl rfl hfree hw
      exact ⟨(settleDown_ex_taken _).trans hx, settleDown_ex_resuming _, hsweeps, fun _ => hbegun, fun hne => absurd rfl hne⟩
    | some w =>
      obtain ⟨grant, hstays⟩ := settleDown_sweepStays
        (u := { s with ex.resuming := false, ex.sweepAt := some 0, ex.sweepTimer := none })
        (.inr (.inl (by show s.ex.work ≠ none; rw [hw]; exact Option.some_ne_none w)))
      rw [hstays]
      exact ⟨hx, rfl, .inl rfl, fun hnone => (nomatch hnone), fun _ => ⟨rfl, rfl⟩⟩

theorem resumeProgress_rest (h : s.ex.resuming = true) (hp : s.rw.page = none) : resumeProgress s = resumeRest s := by
  unfold resumeProgress
  rw [if_pos h, hp]

theorem resumeRest_idle (h : s.capturing = false) : resumeRest s = resumeOrders s := by
  unfold State.capturing at h
  unfold resumeRest
  split
  · rename_i hc
    rw [hc] at h
    cases h
  · rfl

theorem resumeRest_broken {c : CaptureRun} (hc : s.cap.st = .capturing c) (hb : c.broken = true) (hp : c.page = none) :
    resumeRest s = resumeOrders { s with cap.st := .idle } := by
  unfold resumeRest
  rw [hc]
  dsimp only
  rw [if_pos hb, hp]
  dsimp only
  unfold resumeTrace
  rw [hp]

theorem resumeRest_closes {c : CaptureRun} {pg : TracePage} (hc : s.cap.st = .capturing c) (hb : c.broken = true)
    (hp : c.page = some pg) (hph : pg.phase = .rest) : resumeRest s =
      { s with cap.st := .capturing { c with page := some { pg with phase := .header 0, reason := c.faultEnd.getD .busFault } } } := by
  unfold resumeRest
  rw [hc]
  dsimp only
  rw [if_pos hb, hp]
  dsimp only
  unfold resumeTrace
  rw [hp]
  exact if_pos hph

/-- A completed write of a requester, with a resumption in progress. -/
theorem exec_resumed {a : Nat} {ws : List Word} {v : State} (hg : s.ex.grant = some r) (ha : s.request r = some (.write a ws))
    (hdone : completeFor r [] { s with mem := Memory.writeWords s.mem a ws, ex.grant := none } = v)
    (hres : v.ex.resuming = true) (hp : v.rw.page = none) (hu : resumeRest v = u) (hidle : u.powerIdle = true) :
    exec (.accessComplete []) s = .next (settleDown u) := by
  refine answerNext_eq ?_
  rw [takeCompletion_granted hg ha]
  show pfProgress (resumeProgress (completeFor r [] { s with mem := Memory.writeWords s.mem a ws, ex.grant := none })) = u
  rw [hdone, resumeProgress_rest hres hp, hu, pfProgress_idle hidle]

end

end Sys2Proof.Machine
end

section
/-!
PROOFS. A bus error and the steps of a resumption, put together (R163, R164).
-/

namespace Sys2Proof.Machine

section
variable {s : State} {r : Requester}

/-! ### What a bus error leaves of each page -/

/-- The result page at a bus error. -/
theorem pagesFaulted_result {p : ResultPage} (hp : s.rw.page = some p) :
    (r = .recordWriter → p.phase = .takeEntry →
      (s.pagesFaulted r).rw.page = none ∧ (s.pagesFaulted r).ex.resultList = p.page :: s.ex.resultList
        ∧ (s.pagesFaulted r).rw.pages = s.rw.pages - 1 ∧ (s.pagesFaulted r).ex.table.get p.page = .queuedResult)
    ∧ (r ≠ .recordWriter ∨ p.phase ≠ .takeEntry → ∃ x, (s.pagesFaulted r).rw.page = some x ∧ x.page = p.page ∧ x.phase = .rest
        ∧ x.closeWith = none ∧ x.used = p.used ∧ x.count = p.count ∧ (s.pagesFaulted r).ex.resultList = s.ex.resultList) := by
  obtain ⟨hrw, hlist, -, -⟩ := pagesFaulted_parts r s
  refine ⟨fun hr hph => ?_, fun h => ?_⟩
  · subst hr
    have htable : (s.pagesFaulted .recordWriter).ex.table = (faultWriter true s).ex.table :=
      (faultReader_other _).trans (congrArg Exchange.table (faultTrace_other (faultWriter true s)))
    rw [hrw, hlist, htable, decide_eq_true rfl, faultWriter_take hp hph]
    exact ⟨rfl, rfl, rfl, Tab.get_set_same ..⟩
  · obtain ⟨noted, hgiven⟩ := faultWriter_givenUp (own := decide (r = .recordWriter)) hp
      (h.imp_left fun hne => decide_eq_false hne)
    rw [hrw, hlist, hgiven]
    exact ⟨_, rfl, rfl, rfl, rfl, rfl, rfl, rfl⟩

/-- The trace page at a bus error. -/
theorem pagesFaulted_trace {c : CaptureRun} {pg : TracePage} (hc : s.cap.st = .capturing c) (hp : c.page = some pg) :
    (r = .traceWriter → pg.phase = .takeEntry → (s.pagesFaulted r).cap.st = .capturing { c with page := none }
      ∧ (s.pagesFaulted r).ex.traceList = pg.page :: s.ex.traceList ∧ (s.pagesFaulted r).ex.table.get pg.page = .queuedTrace)
    ∧ (r ≠ .traceWriter ∨ pg.phase ≠ .takeEntry →
      (s.pagesFaulted r).cap.st = .capturing { c with page := some { pg with phase := .rest } }
        ∧ (s.pagesFaulted r).ex.traceList = s.ex.traceList) := by
  obtain ⟨-, -, hcap, hlist⟩ := pagesFaulted_parts r s
  obtain ⟨page, pages, results, table, hw⟩ := faultWriter_frame (decide (r = .recordWriter)) s
  have hc' : (faultWriter (decide (r = .recordWriter)) s).cap.st = .capturing c := by rw [hw]; exact hc
  have hlist' : (faultWriter (decide (r = .recordWriter)) s).ex.traceList = s.ex.traceList := by rw [hw]
  refine ⟨fun hr hph => ?_, fun h => ?_⟩
  · subst hr
    have htable : (s.pagesFaulted .traceWriter).ex.table =
        (faultTrace true (faultWriter (decide (Requester.traceWriter = .recordWriter)) s)).ex.table := faultReader_other _
    rw [hcap, hlist, htable, decide_eq_true rfl, faultTrace_take hc' hp hph, ← hlist']
    exact ⟨rfl, rfl, Tab.get_set_same ..⟩
  · rw [hcap, hlist, faultTrace_givenUp hc' hp (h.imp_left fun hne => decide_eq_false hne)]
    exact ⟨rfl, hlist'⟩

/-- The order page at a bus error. -/
theorem pagesFaulted_order {x : OrderPage} (hx : s.ex.taken = some x) :
    (r = .orderReader → (x.phase = .refuse ∨ ∃ w, x.phase = .takeEntry w) →
      (s.pagesFaulted r).ex.taken = none ∧ (s.pagesFaulted r).ex.orderList = (x.page, x.entry) :: s.ex.orderList
        ∧ (s.pagesFaulted r).ex.table.get x.page = .queuedOrder)
    ∧ (r ≠ .orderReader ∨ ¬(x.phase = .refuse ∨ ∃ w, x.phase = .takeEntry w) →
      (s.pagesFaulted r).ex.taken = some { x with phase := .halted } ∧ (s.pagesFaulted r).ex.orderList = s.ex.orderList
        ∧ (s.pagesFaulted r).temp.shadow = none ∧ (s.pagesFaulted r).cls.shadow = none) := by
  obtain ⟨page, pages, results, t1, h1⟩ := faultWriter_frame (decide (r = .recordWriter)) s
  obtain ⟨st, traces, t2, h2⟩ := faultTrace_frame (decide (r = .traceWriter)) (faultWriter (decide (r = .recordWriter)) s)
  have hx' : (faultTrace (decide (r = .traceWriter)) (faultWriter (decide (r = .recordWriter)) s)).ex.taken = some x := by
    rw [h2, h1]
    exact hx
  have hlist : (faultTrace (decide (r = .traceWriter)) (faultWriter (decide (r = .recordWriter)) s)).ex.orderList = s.ex.orderList := by
    rw [h2, h1]
  unfold State.pagesFaulted
  rw [← taking_iff]
  refine ⟨fun hr hph => ?_, fun h => ?_⟩
  · subst hr
    rw [decide_eq_true (rfl : Requester.orderReader = .orderReader), faultReader_take hx' hph, ← hlist]
    exact ⟨rfl, rfl, Tab.get_set_same ..⟩
  · rw [faultReader_halts hx' (h.imp (fun hne => decide_eq_false hne) fun hph => Bool.eq_false_iff.mpr hph)]
    exact ⟨rfl, hlist, rfl, rfl⟩

end

/-! ### The steps of a resumption -/

section
variable {s : State}

/-- The state once the CLOSED entry of the result page is written. -/
theorem resultClosed_same {p : ResultPage} (hp : s.rw.page = some p) (hph : p.phase = .closeEntry)
    (h : s.Resuming) : ∃ v a ws, s.request .recordWriter = some (.write a ws)
      ∧ completeFor .recordWriter [] { s with mem := Memory.writeWords s.mem a ws, ex.grant := none } = v
      ∧ v.Resuming ∧ v.rw.page = none ∧ v.ex.closures = s.ex.closures + 1
      ∧ v.mem = Memory.writeWords s.mem (s.regs.xbase.toNat + 16 * p.page.val) (s.resultEntry p).words
      ∧ v.cap = s.cap ∧ v.run = s.run ∧ v.ex.taken = s.ex.taken ∧ v.ex.work = s.ex.work :=
  ⟨_, _, _, writerRequest_closeEntry hp hph, completeWriter_closes (by exact hp) hph, ⟨h.resuming, h.idle, h.noFault⟩, rfl, rfl, rfl, rfl,
    rfl, rfl, rfl⟩

/-- The state once the CLOSED entry of the trace page, the last of its capture, is written. -/
theorem traceClosed_same {c : CaptureRun} {pg : TracePage} (hpage : s.rw.page = none) (hc : s.cap.st = .capturing c)
    (hp : c.page = some pg) (hph : pg.phase = .closeEntry) (hreason : pg.reason ≠ .none) (h : s.Resuming) :
    ∃ v a ws, s.request .traceWriter = some (.write a ws)
      ∧ completeFor .traceWriter [] { s with mem := Memory.writeWords s.mem a ws, ex.grant := none } = v
      ∧ v.Resuming ∧ v.rw.page = none ∧ v.cap.st = .idle ∧ v.ex.closures = s.ex.closures + 1
      ∧ v.mem = Memory.writeWords s.mem (s.regs.xbase.toNat + 16 * pg.page.val) (s.traceEntry c pg).words
      ∧ v.run = s.run ∧ v.ex.taken = s.ex.taken ∧ v.ex.work = s.ex.work := by
  have hreq : s.request .traceWriter = some (.write (entryAddr s.regs.xbase pg.page) (s.traceEntry c pg).words) := by
    show s.traceRequest = _
    rw [traceRequest_eq hc hp, hph]
  have hdone (w : State) (hw : w.cap.st = .capturing c) : completeFor .traceWriter [] w = { pageClosed pg.page w with cap.st := .idle } := by
    show completeTrace w = _
    rw [completeTrace_eq hw hp, hph]
    exact traceClosed_ends (.inl hreason)
  exact ⟨_, _, _, hreq, hdone _ hc, ⟨h.resuming, h.idle, h.noFault⟩, hpage, rfl, rfl, rfl, rfl, rfl, rfl⟩

/-- The state once the ANSWERED entry of the order page is written. -/
theorem orderAnswered_same {x : OrderPage} (hpage : s.rw.page = none) (hx : s.ex.taken = some x) (hph : x.phase = .answer)
    (h : s.Resuming) : ∃ v a ws, s.request .orderReader = some (.write a ws)
      ∧ completeFor .orderReader [] { s with mem := Memory.writeWords s.mem a ws, ex.grant := none } = v
      ∧ v.Resuming ∧ v.rw.page = none ∧ v.cap = s.cap ∧ v.ex.table = s.ex.table.set x.page .notMine ∧ v.regs.orderAnswered = true
      ∧ v.mem = Memory.writeWords s.mem (s.regs.xbase.toNat + 16 * x.page.val) x.answered.words
      ∧ v.run = s.run ∧ v.ex.taken = none ∧ v.ex.work = s.ex.work :=
  ⟨_, _, _, readerRequest_answer hx hph, completeReader_answer [] (by exact hx) hph, ⟨h.resuming, h.idle, h.noFault⟩, hpage, rfl, rfl, rfl,
    rfl, rfl, rfl, rfl⟩

theorem OrdersResumed.of_same {u t : State} (h : OrdersResumed u t) (htaken : u.ex.taken = s.ex.taken) (hrun : u.run = s.run)
    (hwork : u.ex.work = s.ex.work) : OrdersResumed s t := by
  unfold OrdersResumed at h
  rw [htaken, hrun, hwork] at h
  exact h

theorem resumeRest_frame (s : State) : ∃ st taken resuming place timer, resumeRest s =
    { s with cap.st := st, ex.taken := taken, ex.resuming := resuming, ex.sweepAt := place, ex.sweepTimer := timer } := by
  unfold resumeRest
  split
  · rename_i c hc
    split
    · split
      · unfold resumeTrace
        split
        · exact ⟨_, s.ex.taken, s.ex.resuming, s.ex.sweepAt, s.ex.sweepTimer, rfl⟩
        · split
          · exact ⟨_, s.ex.taken, s.ex.resuming, s.ex.sweepAt, s.ex.sweepTimer, rfl⟩
          · exact ⟨s.cap.st, s.ex.taken, s.ex.resuming, s.ex.sweepAt, s.ex.sweepTimer, rfl⟩
      · rename_i hp
        obtain ⟨taken, resuming, place, timer, h⟩ := resumeOrders_frame (resumeTrace c s)
        unfold resumeTrace at h ⊢
        rw [hp] at h ⊢
        exact ⟨_, taken, resuming, place, timer, h⟩
    · obtain ⟨taken, resuming, place, timer, h⟩ := resumeOrders_frame s
      exact ⟨s.cap.st, taken, resuming, place, timer, h⟩
  · obtain ⟨taken, resuming, place, timer, h⟩ := resumeOrders_frame s
    exact ⟨s.cap.st, taken, resuming, place, timer, h⟩

/-- Of the step a resumption goes on with, memory, registers, page table and closures are as they were before it. -/
theorem resumeRest_same {v : State} (hp : v.rw.page = none) : (settleDown (resumeRest v)).mem = v.mem
    ∧ (settleDown (resumeRest v)).ex.closures = v.ex.closures ∧ (settleDown (resumeRest v)).ex.table = v.ex.table
    ∧ (settleDown (resumeRest v)).regs = v.regs ∧ (settleDown (resumeRest v)).rw.page = none ∧ (resumeRest v).powerIdle = v.powerIdle := by
  obtain ⟨st, taken, resuming, place, timer, h⟩ := resumeRest_frame v
  rw [settleDown_mem, settleDown_ex_closures, settleDown_ex_table, settleDown_regs, settleDown_page_none (s := resumeRest v) (by rw [h]; exact hp), h]
  exact ⟨rfl, rfl, rfl, rfl, rfl, rfl⟩

theorem resumeOrders_cap {v : State} (hc : v.cap.st = .idle) : (settleDown (resumeOrders v)).cap.st = .idle := by
  obtain ⟨taken, resuming, place, timer, h⟩ := resumeOrders_frame v
  have hcap : (resumeOrders v).cap = v.cap := by rw [h]
  rw [settleDown_cap, advanceTrace_idle (by unfold State.capturing; rw [hcap, hc]), hcap, hc]

end

/-- Settles O41: each page by what failed, and the resumption step by step. -/
theorem busErrorStopsExchange : Obligations.BusErrorStopsExchange := by
  refine ⟨fun r s hidle hg => ?_, fun s hres hidle hb => ?_⟩
  · obtain ⟨page, pages, st, taken, results, traces, orders, table, curve, classes, h⟩ := pagesFaulted_frame r s
    have hu := (takeBusError_eq r s).trans (congrArg (fun v : State => { v with
      regs.busFault := true, ex.grant := none, ex.resuming := false, ex.work := none, ex.sweepAt := none, ex.sweepTimer := none,
      ex.handovers := [] }) h)
    refine ⟨_, exec_busError hidle hg, by rw [hu]; rfl, rfl, rfl, rfl, rfl, rfl, rfl, rfl, fun k => ?_, by rw [hu]; rfl, by rw [hu]; rfl,
      by rw [hu]; rfl, by rw [hu]; rfl, by rw [hu]; rfl, by rw [hu]; rfl, by rw [hu]; rfl, by rw [hu]; rfl, by rw [hu]; rfl,
      by rw [hu]; rfl, by rw [hu]; rfl, by rw [hu]; rfl, fun p hp => pagesFaulted_result hp,
      fun c pg hc hp => pagesFaulted_trace hc hp, fun x hx => pagesFaulted_order hx⟩
    unfold State.inHand
    exact if_neg (by simp [quietUpdate, takeBusError_eq])
  · intro orders
    have hresuming : s.Resuming := ⟨hres, hidle, hb⟩
    refine ⟨fun p hg hp hph => ?_, fun c pg hg hpage hc hp hph hreason => ?_, fun x hg hpage hcap hx hph hworks => ?_⟩
    · obtain ⟨v, a, ws, hreq, hdone, hv, hvpage, hclosures, hmem, hvcap, hrun, htaken, hwork⟩ := resultClosed_same hp hph hresuming
      obtain ⟨hmem', hclosures', -, -, hpage', hpower⟩ := resumeRest_same hvpage
      refine ⟨_, exec_resumed hg hreq hdone hv.resuming hvpage rfl (hpower.trans hv.idle), hpage', hclosures'.trans hclosures,
        hmem'.trans hmem, fun hidle => ?_, fun c hc hbroken hcp => ?_, fun c pg hc hbroken hcp hrest => ?_⟩
      · rw [resumeRest_idle (by unfold State.capturing at hidle ⊢; rw [hvcap]; exact hidle)]
        exact hv.orders.of_same htaken hrun hwork
      · rw [resumeRest_broken (by rw [hvcap]; exact hc) hbroken hcp]
        refine ⟨resumeOrders_cap rfl, ?_⟩
        exact (State.Resuming.orders (s := { v with cap.st := .idle }) ⟨hv.resuming, hv.idle, hv.noFault⟩).of_same htaken hrun hwork
      · rw [resumeRest_closes (by rw [hvcap]; exact hc) hbroken hcp hrest]
        refine ⟨?_, (settleDown_ex_taken _).trans htaken, (settleDown_ex_resuming _).trans hv.resuming⟩
        rw [settleDown_cap, advanceTrace_halted (c := { c with
          page := some { pg with phase := .header 0, reason := c.faultEnd.getD .busFault } }) rfl (.inr hbroken)]
    · intro flags
      obtain ⟨v, a, ws, hreq, hdone, hv, hvpage, hcap, hclosures, hmem, hrun, htaken, hwork⟩ :=
        traceClosed_same hpage hc hp hph hreason hresuming
      obtain ⟨hmem', hclosures', -, -, -, hpower⟩ := resumeRest_same hvpage
      have hcapturing : v.capturing = false := by unfold State.capturing; rw [hcap]
      have hrest := resumeRest_idle hcapturing
      refine ⟨_, exec_resumed hg hreq hdone hv.resuming hvpage rfl (hpower.trans hv.idle), ?_, hclosures'.trans hclosures, ?_, ?_⟩
      · rw [hrest]
        exact resumeOrders_cap hcap
      · rw [hrest]
        exact hv.orders.of_same htaken hrun hwork
      · rw [hmem', hmem, traceEntry_eq] <;> rfl
    · obtain ⟨v, a, ws, hreq, hdone, hv, hvpage, hvcap, htable, hanswered, hmem, hrun, htaken, hwork⟩ :=
        orderAnswered_same hpage hx hph hresuming
      obtain ⟨hmem', -, htable', hregs', -, hpower⟩ := resumeRest_same hvpage
      have hcapturing : v.capturing = false := by unfold State.capturing at hcap ⊢; rw [hvcap]; exact hcap
      have horders := (hv.orders).2 htaken (by rw [hrun]; exact hworks)
      rw [← resumeRest_idle hcapturing, hwork] at horders
      obtain ⟨h1, h2, h3, h4, h5⟩ := horders
      refine ⟨_, exec_resumed hg hreq hdone hv.resuming hvpage rfl (hpower.trans hv.idle), h1, ?_, ?_, h2, ?_, h3, h4, h5⟩
      · rw [hregs']
        exact hanswered
      · rw [htable', htable]
        exact Tab.get_set_same ..
      · exact hmem'.trans hmem

end Sys2Proof.Machine
end

section
/-!
PROOFS. The register window, the outputs and the clearing of BUS_FAULT (R140, R146, R147, R151, R164; 10, 10.2).
-/

namespace Sys2Proof.Machine

/-! ### Registers read (10, 10.2) -/

section
variable (s : State)

theorem identWord_vendor : (s.readRegister 0x00).toNat % 16777216 = 0x3B7 + 4096 * 0x824 := by
  have hrev := Config.revision.isLt
  have hword : s.readRegister 0x00 = toWord (0x3B7 + put 12 0x824 + put 24 Config.revision.toNat) := rfl
  rw [hword, put_eq, put_eq, toWord, BitVec.toNat_ofNat]
  omega

theorem controlWord : s.readRegister 0x04 = BitVec.ofNat 32 (flagOf s.regs.enable + 4 * flagOf s.regs.attnEn) := by
  have hword : s.readRegister 0x04 = toWord (b2n s.regs.enable + put 2 (b2n s.regs.attnEn)) := rfl
  rw [hword, put_eq]
  rfl

/-- STATUS as its fields. -/
theorem statusWord : s.readRegister 0x10 = wordOf
    [(0, s.run.code), (4, flagOf s.cal.lock), (5, flagOf s.link.fault), (6, flagOf s.channelFault), (7, flagOf s.probeFault),
      (8, flagOf s.regs.busFault), (9, flagOf s.regs.powerFail), (10, flagOf s.regs.pageClosed), (11, flagOf s.regs.orderAnswered),
      (12, flagOf s.regs.noPage)] := by
  have hword : s.readRegister 0x10 = toWord (s.run.code + put 4 (flagOf s.cal.lock) + put 5 (flagOf s.link.fault)
      + put 6 (flagOf s.channelFault) + put 7 (flagOf s.probeFault) + put 8 (flagOf s.regs.busFault) + put 9 (flagOf s.regs.powerFail)
      + put 10 (flagOf s.regs.pageClosed) + put 11 (flagOf s.regs.orderAnswered) + put 12 (flagOf s.regs.noPage)) := rfl
  rw [hword]
  refine congrArg (BitVec.ofNat 32) (Eq.trans ?_ (Eq.refl (placed _)))
  simp only [put_eq, placed_cons, placed_nil]
  ring

theorem code_le (r : RunState) : r.code ≤ 6 := by cases r <;> decide

/-- The fields of STATUS read back. -/
theorem statusWord_read : (s.readRegister 0x10).toNat % 16 = s.run.code
    ∧ bitAt (s.readRegister 0x10) 4 = s.cal.lock ∧ bitAt (s.readRegister 0x10) 5 = s.link.fault
    ∧ bitAt (s.readRegister 0x10) 6 = s.channelFault ∧ bitAt (s.readRegister 0x10) 7 = s.probeFault
    ∧ bitAt (s.readRegister 0x10) 8 = s.regs.busFault ∧ bitAt (s.readRegister 0x10) 9 = s.regs.powerFail
    ∧ bitAt (s.readRegister 0x10) 10 = s.regs.pageClosed ∧ bitAt (s.readRegister 0x10) 11 = s.regs.orderAnswered
    ∧ bitAt (s.readRegister 0x10) 12 = s.regs.noPage := by
  have hcode := code_le s.run
  have h4 := flagOf_le s.cal.lock
  have h5 := flagOf_le s.link.fault
  have h6 := flagOf_le s.channelFault
  have h7 := flagOf_le s.probeFault
  have h8 := flagOf_le s.regs.busFault
  have h9 := flagOf_le s.regs.powerFail
  have h10 := flagOf_le s.regs.pageClosed
  have h11 := flagOf_le s.regs.orderAnswered
  have h12 := flagOf_le s.regs.noPage
  rw [statusWord]
  refine ⟨?_, bitAt_wordOf ?_, bitAt_wordOf ?_, bitAt_wordOf ?_, bitAt_wordOf ?_, bitAt_wordOf ?_, bitAt_wordOf ?_, bitAt_wordOf ?_,
    bitAt_wordOf ?_, bitAt_wordOf ?_⟩
  · rw [wordOf_toNat]
    simp only [placed_cons, placed_nil, Nat.reducePow]
    omega
  all_goals
    simp only [placed_cons, placed_nil, Nat.reducePow]
    omega

theorem tab_any {n : Nat} {α : Type} (t : Tab n α) (p : α → Bool) : t.items.any p = true ↔ ∃ i, p (t.get i) = true := by
  rw [tab_items, List.any_map, List.any_eq_true]
  exact ⟨fun ⟨i, _, hi⟩ => ⟨i, hi⟩, fun ⟨i, hi⟩ => ⟨i, mem_indices n i, hi⟩⟩

theorem channelFault_iff : s.channelFault = true ↔ ∃ c b, s.det.chans.get c = .faulted b := by
  unfold State.channelFault
  rw [tab_any]
  refine exists_congr fun c => ?_
  cases s.det.chans.get c <;> simp

theorem probeFault_iff : s.probeFault = true ↔ ∃ p n, s.temp.probes.get p = .failed n := by
  unfold State.probeFault
  rw [tab_any]
  refine exists_congr fun p => ?_
  cases s.temp.probes.get p <;> simp

/-! ### Outputs (R16, R140) -/

theorem rateFull_iff : s.rateFull = true ↔ s.run = .running ∨ s.run = .waking ∨ s.run = .draining := by
  unfold State.rateFull
  cases s.run <;> simp

variable {s}

theorem lineActive_input {l : Line} {v : Bool} (h : s.trig.lines.get l = .input v) : s.lineActive l = false := by
  unfold State.lineActive
  rw [h]

theorem lineActive_output {l : Line} {ps : List Pulse} (h : s.trig.lines.get l = .output ps) :
    s.lineActive l = true ↔ ∃ p ∈ ps, p.running = true := by
  unfold State.lineActive
  rw [h]
  exact List.any_eq_true

end

/-! ### Registers written (R146, R151) -/

section
variable {s : State}

theorem exec_attnEn (v : Bool) (s : State) : exec (.attnEn v) s = .next (settleDown { s with regs.attnEn := v }) := by
  refine answerNext_eq ?_
  unfold controlWrite
  dsimp only
  cases he : s.regs.enable with
  | true =>
    rw [if_pos rfl, if_pos rfl, if_neg fun h => Bool.false_ne_true h.1, ← he]
  | false =>
    rw [if_neg Bool.false_ne_true, if_neg Bool.false_ne_true, ← he]

theorem xbase_masked (v : Word) : (v &&& 0xFFFFF000).toNat = v.toNat / 4096 * 4096 := by
  have hlow := xbase_aligned v
  have hhigh : (v &&& 0xFFFFF000).toNat / 2 ^ 12 = v.toNat / 2 ^ 12 := by
    have hv := v.isLt
    rw [BitVec.toNat_and, Nat.and_div_two_pow]
    show v.toNat / 2 ^ 12 &&& 2 ^ 20 - 1 = _
    rw [Nat.and_two_pow_sub_one_eq_mod]
    exact Nat.mod_eq_of_lt (by omega)
  omega

theorem handoverPage_eq {v : Word} {p : Page} (h : p.val = v.toNat % 64) : handoverPage v = p :=
  Fin.ext (by rw [h]; exact (field_eq v 0 6).trans (by rw [Nat.pow_zero, Nat.div_one]; rfl))

theorem exec_handover {v : Word} {p : Page} (hp : p.val = v.toNat % 64) (h : s.run.works = true) (hb : s.regs.busFault = false)
    (hidle : s.powerIdle = true) (hnew : p ∉ s.ex.handovers) :
    exec (.handover v) s = .next (settleDown { s with regs.handover := v, ex.handovers := s.ex.handovers ++ [p] }) := by
  show execHandover v s = _
  unfold execHandover
  dsimp only
  rw [handoverPage_eq hp, if_pos (by simp [h, hb, hidle, hnew])]
  exact answerNext_eq rfl

theorem exec_handover_stored {v : Word} {p : Page} (hp : p.val = v.toNat % 64)
    (h : s.run.works = false ∨ s.regs.busFault = true ∨ s.powerIdle = false ∨ p ∈ s.ex.handovers) :
    exec (.handover v) s = .next (settleDown { s with regs.handover := v }) := by
  show execHandover v s = _
  unfold execHandover
  dsimp only
  rw [handoverPage_eq hp, if_neg fun hall => ?_]
  · exact answerNext_eq rfl
  · simp only [Bool.and_eq_true, Bool.not_eq_true', List.contains_eq_mem, decide_eq_false_iff_not] at hall
    obtain ⟨hworks, hb, hidle, hnew⟩ := hall
    obtain h | h | h | h := h
    · exact Bool.false_ne_true (h.symm.trans hworks)
    · exact Bool.false_ne_true (hb.symm.trans h)
    · exact Bool.false_ne_true (h.symm.trans hidle)
    · exact hnew h

/-! ### The clearing of BUS_FAULT (R164) -/

/-- The state once BUS_FAULT is clear and the resumption has begun. -/
def State.resumptionBegun (s : State) : State := { breakCapture { s with regs.busFault := false } with ex.resuming := true }

theorem clearBits_busFault (s : State) : clearBits 0x100 s = s := by
  have hbits : bitAt 0x100 9 = false ∧ bitAt 0x100 10 = false ∧ bitAt 0x100 11 = false ∧ bitAt 0x100 12 = false := by decide
  obtain ⟨h9, h10, h11, h12⟩ := hbits
  unfold clearBits
  rw [h9, h10, h11, h12, Bool.false_and, Bool.not_false, Bool.and_true, Bool.and_true, Bool.and_true, Bool.and_true]

theorem exec_busFaultClear (hb : s.regs.busFault = true) : exec (.busFaultClear 0x100) s = .next (settleDown (clearBusFault s)) := by
  refine answerNext_eq ?_
  rw [statusWrite_eq, hb]
  exact (if_pos (by decide)).trans (congrArg clearBusFault (clearBits_busFault s))

theorem clearBusFault_disabled (hrun : s.run = .disabled) : clearBusFault s = { s with regs.busFault := false } := if_pos hrun

theorem clearBusFault_resumes (hrun : s.run ≠ .disabled) : clearBusFault s = resumeProgress s.resumptionBegun := if_neg hrun

theorem breakCapture_eq (s : State) : breakCapture s = { s with
    cap.st := match s.cap.st with
      | .capturing c => .capturing { c with broken := true }
      | x => x } := by
  have hself (st : CaptureState) (h : s.cap.st = st) : s = { s with cap.st := st } := by rw [← h]
  unfold breakCapture
  cases hst : s.cap.st with
  | capturing c => rfl
  | idle => exact hself _ hst
  | armed req => exact hself _ hst

theorem resumptionBegun_capturing {c : CaptureRun} (hc : s.cap.st = .capturing c) :
    s.resumptionBegun = { s with regs.busFault := false, ex.resuming := true, cap.st := .capturing { c with broken := true } } := by
  unfold State.resumptionBegun
  rw [breakCapture_eq]
  dsimp only
  rw [hc]

theorem breakCapture_idle (h : s.capturing = false) : breakCapture s = s := by
  unfold State.capturing at h
  unfold breakCapture
  split
  · rename_i hc
    rw [hc] at h
    cases h
  · rfl

theorem resumptionBegun_idle (h : s.capturing = false) :
    s.resumptionBegun = { s with regs.busFault := false, ex.resuming := true } := by
  unfold State.resumptionBegun
  rw [breakCapture_idle (s := { s with regs.busFault := false }) h]

theorem resumptionBegun_eq (s : State) : s.resumptionBegun = { s with
    regs.busFault := false
    ex.resuming := true
    cap.st := match s.cap.st with
      | .capturing c => .capturing { c with broken := true }
      | x => x } :=
  congrArg (fun v : State => { v with ex.resuming := true }) (breakCapture_eq { s with regs.busFault := false })

theorem resumeProgress_page {p : ResultPage} (hres : s.ex.resuming = true) (hp : s.rw.page = some p) (hph : p.phase = .rest) :
    resumeProgress s = { s with rw.page := some { p with phase := .closeEntry, closeWith := some (0x04 ||| p.noted) } } := by
  unfold resumeProgress
  rw [if_pos hres, hp]
  exact if_neg (by rw [hph]; decide)

/-- BUS_FAULT is cleared with no result page held: the resumption goes on to its next step. -/
theorem exec_busFaultClear_rest {v u : State} (hb : s.regs.busFault = true) (hrun : s.run ≠ .disabled) (hv : s.resumptionBegun = v)
    (hres : v.ex.resuming = true) (hpage : v.rw.page = none) (hu : resumeRest v = u) :
    exec (.busFaultClear 0x100) s = .next (settleDown u) := by
  rw [exec_busFaultClear hb, clearBusFault_resumes hrun, hv, resumeProgress_rest hres hpage, hu]

/-- BUS_FAULT is cleared with a result page held: its close begins the resumption. -/
theorem exec_busFaultClear_page {v u : State} (hb : s.regs.busFault = true) (hrun : s.run ≠ .disabled) (hv : s.resumptionBegun = v)
    (hu : resumeProgress v = u) : exec (.busFaultClear 0x100) s = .next (settleDown u) := by
  rw [exec_busFaultClear hb, clearBusFault_resumes hrun, hv, hu]

end

/-- Settles O18: writes, reads, the clearing of the bits and of BUS_FAULT, and the outputs. -/
theorem registerWindow : Obligations.RegisterWindow := by
  refine ⟨fun v s => ⟨exec_attnEn v s, ?_⟩, fun v s => ⟨rfl, rfl, fun he => ?_, fun he => ⟨_, xbase_masked v, ?_⟩⟩,
    fun v p s hp => ⟨exec_handover hp, exec_handover_stored hp⟩, fun s => ?_, fun v s h => ?_, fun v s => ⟨rfl, fun h8 hb => ?_⟩,
    fun s hb hrun => ?_, fun s hb hworks hidle hpage hcap htaken => ?_, fun s p hb hrun hp hph => ?_,
    fun s c pg hb hrun hpage hc hp hph => ?_, fun s x hb hrun hpage hx hph => ?_,
    fun s => ⟨rateFull_iff s, fun l v => lineActive_input, fun l ps => lineActive_output⟩⟩
  · unfold State.atn
    rw [settleDown_regs]
  · exact congrArg Host.Outcome.next (if_pos he)
  · exact congrArg Host.Outcome.next (if_neg (by rw [he]; exact Bool.false_ne_true))
  · intro w
    obtain ⟨hcode, h4, h5, h6, h7, h8, h9, h10, h11, h12⟩ := statusWord_read s
    refine ⟨controlWord s, rfl, rfl, rfl, identWord_vendor s, hcode.trans (by cases s.run <;> rfl), h4, h5, ?_, ?_, h8, h9, h10, h11, h12⟩
    · exact (Eq.congr_left h6 : _ ↔ _).trans (channelFault_iff s)
    · exact (Eq.congr_left h7 : _ ↔ _).trans (probeFault_iff s)
  · refine answerNext_eq ?_
    rw [statusWrite_eq]
    refine if_neg fun hall => ?_
    obtain ⟨h8, hb⟩ := Bool.and_eq_true_iff.mp hall
    exact Bool.false_ne_true ((h h8).symm.trans hb)
  · refine Eq.trans (answerNext_eq ?_) (exec_busFaultClear (s := clearBits v s) hb).symm
    rw [statusWrite_eq, hb]
    exact if_pos (by rw [Bool.and_true]; exact h8)
  · rw [exec_busFaultClear hb, clearBusFault_disabled hrun]
  · have hrun : s.run ≠ .disabled := fun e => by rw [e] at hworks; cases hworks
    exact exec_busFaultClear_rest hb hrun (resumptionBegun_idle hcap) rfl hpage
      ((resumeRest_idle (by exact hcap)).trans (resumeOrders_none (by exact htaken) hworks hidle))
  · exact exec_busFaultClear_page hb hrun (resumptionBegun_eq s) (resumeProgress_page rfl (by exact hp) hph)
  · exact exec_busFaultClear_rest hb hrun (resumptionBegun_capturing hc) rfl hpage
      (resumeRest_closes (c := { c with broken := true }) rfl rfl hp hph)
  · intro u
    refine ⟨fun hcap => ?_, fun c hc hcp => ?_⟩
    · exact exec_busFaultClear_rest hb hrun (resumptionBegun_idle hcap) rfl hpage
        ((resumeRest_idle (by exact hcap)).trans (resumeOrders_halted (by exact hx) hph))
    · exact exec_busFaultClear_rest hb hrun (resumptionBegun_capturing hc) rfl hpage
        ((resumeRest_broken (c := { c with broken := true }) rfl rfl hcp).trans (resumeOrders_halted (by exact hx) hph))

end Sys2Proof.Machine
end

section
/-!
PROOFS. How a power-fail sequence goes on and ends (R177), and the change to READY (R167, R178).
-/

namespace Sys2Proof.Machine

section
variable {s u : State} {q : PowerSeq}

/-! ### The counters at the loss of a queue -/

/-- A counter raised once for each of `k` losses. -/
def raisedEach (n k : Nat) : Nat := if k = 0 then n else raised n k

theorem raisedEach_succ (n k : Nat) : raisedEach (raised n 1) k = raisedEach n (k + 1) := by
  unfold raisedEach raised
  rw [if_neg (Nat.succ_ne_zero k)]
  split <;> omega

theorem loseAllRecords_rw (s : State) :
    (loseAllRecords s).rw.queue = [] ∧ (loseAllRecords s).rw.page = s.rw.page ∧ (loseAllRecords s).rw.created = s.rw.created
      ∧ (loseAllRecords s).rw.lostVehicle = raisedEach s.rw.lostVehicle (s.rw.queue.countP fun r => decide (r.kind = .vehicle))
      ∧ (loseAllRecords s).rw.lostOther = raisedEach s.rw.lostOther (s.rw.queue.countP fun r => decide (r.kind ≠ .vehicle)) := by
  have hfold (rs : List Rec) (u : State) :
      (rs.foldl (fun t r => loseRecord r t) u).rw.queue = u.rw.queue ∧ (rs.foldl (fun t r => loseRecord r t) u).rw.page = u.rw.page
        ∧ (rs.foldl (fun t r => loseRecord r t) u).rw.created = u.rw.created
        ∧ (rs.foldl (fun t r => loseRecord r t) u).rw.lostVehicle
          = raisedEach u.rw.lostVehicle (rs.countP fun r => decide (r.kind = .vehicle))
        ∧ (rs.foldl (fun t r => loseRecord r t) u).rw.lostOther
          = raisedEach u.rw.lostOther (rs.countP fun r => decide (r.kind ≠ .vehicle)) := by
    induction rs generalizing u with
    | nil => exact ⟨rfl, rfl, rfl, rfl, rfl⟩
    | cons r rest ih =>
      obtain ⟨hqueue, hpage, hcreated, hvehicle, hother⟩ := ih (loseRecord r u)
      obtain ⟨hcreated', hqueue', hpage', -⟩ := lost_owed u r.kind
      rw [← loseRecord_eq] at hcreated' hqueue' hpage'
      refine ⟨hqueue.trans hqueue', hpage.trans hpage', hcreated.trans hcreated', hvehicle.trans ?_, hother.trans ?_⟩ <;>
        rw [loseRecord_eq] <;> cases hk : r.kind <;>
        simp [State.lost, State.told, hk, raisedEach_succ]
  exact hfold s.rw.queue { s with rw.queue := [], rw.pinned := false }

/-! ### The end of the sequence -/

/-- The part at the end of a power-fail sequence, before a PFI already released is looked at (R177 steps 7 and 8). -/
def State.sequenceEnded (s : State) : State :=
  stopSensors { disarm (dropShadows (discardPulses (holdTimers (loseAllRecords s)))) with
    run := .powerFail, regs.powerFail := true, ctrl.power := none }

theorem endPowerFail_eq (s : State) : endPowerFail s = if s.pins.pfi then s.sequenceEnded else leavePowerFail s.sequenceEnded := rfl

theorem disarm_cap (s : State) : (disarm s).cap = { s.cap with st := match s.cap.st with | .armed _ => .idle | x => x } := by
  have hself (st : CaptureState) (h : s.cap.st = st) : s.cap = { s.cap with st := st } := by rw [← h]
  unfold disarm
  cases hst : s.cap.st with
  | armed req => rfl
  | idle => exact hself _ hst
  | capturing c => exact hself _ hst

theorem disarm_idle (h : s.capturing = false) : (disarm s).cap.st = .idle := by
  rw [disarm_cap]
  obtain hst | ⟨req, hst⟩ := capturing_false.mp h <;> rw [hst]

theorem disarm_capturing {c : CaptureRun} (h : s.cap.st = .capturing c) : disarm s = s := by
  unfold disarm
  rw [h]

/-- What the end of the sequence leaves of each part. -/
theorem sequenceEnded_frame (s : State) : s.sequenceEnded =
    { s with
      run := .powerFail, regs.powerFail := true, ctrl.power := none, loops := Tab.fill 4 .vacant
      link := { s.link with ref := none, silence := none, fault := false }
      temp := { s.temp with shadow := none, round := none, line := none, summary := { s.temp.summary with short := true } }
      cls.shadow := none, rw := (loseAllRecords s).rw, cap := (disarm s).cap
      trig := { (discardPulses (holdTimers s)).trig with waiting := [] } } := by
  unfold State.sequenceEnded
  rw [disarm_frame, loseAllRecords_frame s, disarm_cap s]
  generalize hst : (disarm _).cap.st = st
  have hst' := congrArg CaptureUnit.st (disarm_cap (dropShadows (discardPulses (holdTimers
    { s with rw := (loseAllRecords s).rw, trig.waiting := (loseAllRecords s).trig.waiting }))))
  rw [hst] at hst'
  rw [hst']
  rfl

theorem heldTimer_get (s : State) (n : SetId) : ((holdTimers s).trig.sets.get n) =
    match (s.trig.sets.get n).timer with
    | .running due => { s.trig.sets.get n with timer := .held (tickOffset s.clock due) }
    | _ => s.trig.sets.get n := Tab.get_map ..

theorem holdTimers_held {n : SetId} {due : Nat} (h : (s.trig.sets.get n).timer = .running due) :
    (holdTimers s).trig.sets.get n = { s.trig.sets.get n with timer := .held (tickOffset s.clock due) } := by
  rw [heldTimer_get, h]

theorem discardPulses_lines (s : State) (l : Line) : ((discardPulses s).trig.lines.get l).pulses = [] := by
  have hget : (discardPulses s).trig.lines.get l = match s.trig.lines.get l with | .input v => .input v | .output _ => .output [] :=
    Tab.get_map ..
  rw [hget]
  cases s.trig.lines.get l <;> rfl

theorem discardPulses_count (s : State) : (discardPulses s).trig.discarded = raised s.trig.discarded s.pulseCount := by
  refine (satAdd_eq ..).trans (congrArg (raised _) ?_)
  rw [tab_items, List.map_map]
  rfl

/-- A power-fail sequence that stood in `s` is over in `t` (R177 steps 7 and 8). -/
structure SequenceOver (s t : State) : Prop where
  power : t.ctrl.power = none
  shows : t.regs.powerFail = true
  queue : t.rw.queue = []
  capture : s.capturing = false → t.cap.st = .idle
  waiting : t.trig.waiting = []
  curve : t.temp.shadow = none
  classes : t.cls.shadow = none
  lostVehicle : t.rw.lostVehicle = raisedEach s.rw.lostVehicle (s.rw.queue.countP fun r => decide (r.kind = .vehicle))
  lostOther : t.rw.lostOther = raisedEach s.rw.lostOther (s.rw.queue.countP fun r => decide (r.kind ≠ .vehicle))
  pulses : ∀ l, (t.trig.lines.get l).pulses = []
  discarded : t.trig.discarded = raised s.trig.discarded s.pulseCount
  timers : s.pins.pfi = true → ∀ n due, (s.trig.sets.get n).timer = .running due → (t.trig.sets.get n).timer = .held (tickOffset s.clock due)

theorem sequenceEnded_over (s : State) : SequenceOver s s.sequenceEnded := by
  obtain ⟨hqueue, -, -, hvehicle, hother⟩ := loseAllRecords_rw s
  rw [sequenceEnded_frame]
  exact ⟨rfl, rfl, hqueue, disarm_idle, rfl, rfl, rfl, hvehicle, hother, discardPulses_lines _, discardPulses_count _,
    fun _ n due h => congrArg TriggerSet.timer (holdTimers_held h)⟩

/-! ### The change to READY (R167, R178) -/

theorem beginReady_frame (s : State) : beginReady s =
    { s with
      run := .ready, link := { s.link with ref := none, silence := some 0 }
      temp := { s.temp with probes := s.temp.probes.map ProbeState.restart }
      loops := (takeUpLoops { s with run := .ready }).loops
      trig := (takeUpInputs s).trig } := rfl

theorem takeUpLoops_get (s : State) (l : Lane) :
    (takeUpLoops { s with run := .ready }).loops.get l = if l.val < s.site.laneCount ∧ s.pins.lp.get l = true then .occupied s.clock 0 else .vacant := by
  refine (Tab.get_ofNat ..).trans ((dif_pos l.isLt).trans ?_)
  have htracked : ({ s with run := .ready } : State).tracked l = true ↔ l.val < s.site.laneCount := by
    rw [tracked_iff]
    exact and_iff_left rfl
  unfold takeUpLoop
  by_cases hl : l.val < s.site.laneCount
  · rw [if_pos (htracked.mpr hl)]
    exact if_congr (and_iff_right hl).symm rfl rfl
  · rw [if_neg (fun h => hl (htracked.mp h)), if_neg (fun h => hl h.1)]

theorem takeUpInputs_input {l : Line} {v : Bool} (h : s.trig.lines.get l = .input v) :
    (takeUpInputs s).trig.lines.get l = .input (s.pins.field.get l) := by
  refine (Tab.get_zipWith ..).trans ?_
  rw [h]

theorem takeUpInputs_pulses (s : State) (l : Line) : ((takeUpInputs s).trig.lines.get l).pulses = (s.trig.lines.get l).pulses := by
  refine (congrArg FieldLine.pulses (Tab.get_zipWith ..)).trans ?_
  cases s.trig.lines.get l <;> rfl

theorem restarted_get (s : State) (p : Probe) : (s.temp.probes.map ProbeState.restart).get p = match s.temp.probes.get p with
    | .absent => .absent
    | .starting _ _ => .starting [] 0
    | .good .. => .starting [] 0
    | .failed _ => .failed 0 := by
  rw [Tab.get_map]
  cases s.temp.probes.get p <;> rfl

theorem leavePowerFail_frame (s : State) : leavePowerFail s =
    { beginReady s with
      trig := (resumeTimers (beginReady s)).trig
      ex.sweepTimer := if s.regs.busFault then none else some (0, msTicks s.ex.sweepMs) } := rfl

theorem leavePowerFail_over (h : SequenceOver s u) (hpins : s.pins.pfi = false) : SequenceOver s (leavePowerFail u) := by
  rw [leavePowerFail_frame, beginReady_frame]
  exact ⟨h.power, h.shows, h.queue, h.capture, h.waiting, h.curve, h.classes, h.lostVehicle, h.lostOther,
    fun l => (takeUpInputs_pulses u l).trans (h.pulses l), h.discarded, fun hyes => absurd (hpins.symm.trans hyes) Bool.false_ne_true⟩

theorem endPowerFail_over (s : State) : SequenceOver s (endPowerFail s) := by
  rw [endPowerFail_eq]
  cases hpins : s.pins.pfi with
  | true => exact sequenceEnded_over s
  | false => exact leavePowerFail_over (sequenceEnded_over s) hpins

theorem endPowerFail_run (s : State) : (endPowerFail s).run = if s.pins.pfi then .powerFail else .ready := by
  rw [endPowerFail_eq]
  split
  · rw [sequenceEnded_frame]
  · rfl

/-- The end of a sequence stands behind the command. -/
theorem SequenceOver.settle_down (h : SequenceOver s u) : SequenceOver s (settleDown u) := by
  refine ⟨(settleDown_ctrl_power u).trans h.power, by rw [settleDown_regs, h.shows], (settleDown_rw_queue u).trans h.queue,
    fun hidle => ?_, by rw [settleDown_trig, h.waiting], by rw [settleDown_temp, h.curve], by rw [settleDown_cls, h.classes],
    (settleDown_rw_lostVehicle u).trans h.lostVehicle, (settleDown_rw_lostOther u).trans h.lostOther,
    by rw [settleDown_trig]; exact h.pulses, by rw [settleDown_trig, h.discarded], by rw [settleDown_trig]; exact h.timers⟩
  have hst := h.capture hidle
  rw [settleDown_cap, advanceTrace_idle (capturing_false.mpr (.inl hst)), hst]

/-! ### The sequence goes on -/

theorem powerIdle_some (h : s.powerIdle = false) : ∃ q, s.ctrl.power = some q := by
  unfold State.powerIdle at h
  cases hq : s.ctrl.power with
  | none => rw [hq] at h; cases h
  | some q => exact ⟨q, rfl⟩

theorem pfProgress_waits (h : s.ex.resuming = true ∨ s.regs.busFault = false ∧ (s.ex.taken.isSome = true ∨ s.capturing = true)) :
    pfProgress s = s := by
  unfold pfProgress
  cases s.ctrl.power with
  | none => rfl
  | some q =>
    obtain h | ⟨hb, h⟩ := h
    · exact if_pos h
    · cases hres : s.ex.resuming with
      | true => exact if_pos rfl
      | false => exact (if_neg Bool.false_ne_true).trans ((if_neg (by rw [hb]; exact Bool.false_ne_true)).trans (if_pos h))

theorem pfProgress_faulted (hp : s.ctrl.power = some q) (hres : s.ex.resuming = false) (hb : s.regs.busFault = true) :
    pfProgress s = endPowerFail (closeResultPage 0x10 s) := by
  unfold pfProgress
  rw [hp, hres]
  exact if_pos hb

/-- With nothing of its first steps waiting the sequence looks at the result page. -/
theorem pfProgress_places (h : s.FailPlaces q) : pfProgress s =
    match s.rw.page with
    | none =>
      if q.closing ∨ q.spent s.rw.queue = true ∨ s.ex.resultList.isEmpty = true then endPowerFail s else takeResultHead s
    | some p =>
      if p.phase = .rest ∧ p.closeWith.isNone = true ∧ q.spent s.rw.queue = true then
        { s with rw.page := some { p with closeWith := some 0x10 }, ctrl.power := some { q with closing := true } }
      else s := by
  obtain ⟨hp, hres, hb, htaken, hcap⟩ := h
  unfold pfProgress
  rw [hp, hres, hb, htaken, hcap]
  rfl

end

end Sys2Proof.Machine
end

section
/-!
PROOFS. PFI asserted (R177), and ENABLE from 0 to 1 (R167).
-/

namespace Sys2Proof.Machine

section
variable {s u v : State} {q : PowerSeq}

/-! ### Closing every context with no drain under way -/

theorem testDrain_undrained (h : s.ctrl.drain = none) : testDrain s = s :=
  if_neg fun ⟨_, hsome, _⟩ => by rw [h] at hsome; cases hsome

theorem closeContext_undrained (l : Lane) (k : Slot) (x : CloseCause) (h : s.ctrl.drain = none) : CloseFrame s (closeContext l k x s) := by
  cases hc : s.context l k with
  | none =>
    rw [closeContext_absent x hc]
    exact .refl s
  | some c =>
    have hbody := closeBody_frame l k c x s
    rw [closeContext_some x hc]
    rw [testDrain_undrained (by rw [hbody]; exact h)]
    exact hbody

theorem truncateAll_undrained (h : s.ctrl.drain = none) : CloseFrame s (truncateAll s) := by
  have hfold (ls : List Lane) (u : State) (hu : u.ctrl.drain = none) : CloseFrame u (ls.foldl (fun t l => truncateLane l t) u) := by
    induction ls generalizing u with
    | nil => exact .refl u
    | cons l rest ih =>
      have hclosing := closeContext_undrained l .closingSlot .truncated hu
      have hlane : CloseFrame u (truncateLane l u) :=
        hclosing.trans (closeContext_undrained l .openSlot .truncated (by rw [hclosing]; exact hu))
      exact hlane.trans (ih _ (by rw [hlane]; exact hu))
  rw [truncateAll_eq]
  exact hfold _ s h

/-! ### The first steps of the sequence (R177 steps 1 to 4) -/

/-- The part in a power-fail sequence before its contexts are truncated. -/
def beforeFailing (s : State) : State := stopMeasuring (stopCapture .powerFail (stopSweeper (stopRunTimers (markPowerFail s))))

theorem powerFailSteps_eq (s : State) : powerFailSteps s = emptyRowLists (truncateAll (beforeFailing s)) := rfl

theorem beforeFailing_frame (s : State) : beforeFailing s =
    { s with
      det.chans := Tab.fill 16 .off, det.hits := { a := [], b := [] }
      ctrl := { s.ctrl with drain := none, quietTimer := none, settle := none, power := some { placed := 0, closing := false } }
      ex := { s.ex with work := none, sweepAt := none, sweepTimer := none, handovers := [] }
      cap.st := (stopCapture .powerFail s).cap.st } := by
  have hcap : (stopCapture .powerFail (stopSweeper (stopRunTimers (markPowerFail s)))).cap.st = (stopCapture .powerFail s).cap.st :=
    stopCapture_st_of rfl rfl
  rw [← hcap, beforeFailing, stopCapture_frame]
  rfl

theorem abandonOrders_frame (f : BitVec 6) (s : State) : ∃ taken curve classes,
    abandonOrders f s = { s with ex.taken := taken, temp.shadow := curve, cls.shadow := classes } := by
  unfold abandonOrders fixOutcome
  repeat' first | exact ⟨_, _, _, rfl⟩ | split

theorem abandonOrders_none {f : BitVec 6} (h : s.ex.taken = none) : abandonOrders f s = s := by
  unfold abandonOrders
  rw [h]

theorem abandonOrders_noted {f : BitVec 6} {x : OrderPage} (h : s.ex.taken = some x) (hb : s.regs.busFault = true ∨ s.ex.resuming = true) :
    abandonOrders f s = { s with ex.taken := some { x with flags := x.flags ||| f } } := by
  unfold abandonOrders
  rw [h]
  exact if_pos (by rwa [Bool.or_eq_true])

theorem abandonOrders_refused {f : BitVec 6} {x : OrderPage} (h : s.ex.taken = some x) (hb : s.regs.busFault = false)
    (hr : s.ex.resuming = false) (hph : x.phase = .refuse) : abandonOrders f s = s := by
  unfold abandonOrders
  rw [h, hb, hr]
  dsimp only
  rw [hph]
  rfl

theorem abandonOrders_givenUp {f : BitVec 6} {x : OrderPage} (h : s.ex.taken = some x) (hb : s.regs.busFault = false)
    (hr : s.ex.resuming = false) (hph : x.phase ≠ .refuse) :
    abandonOrders f s = { s with ex.taken := some (x.givenUp f), temp.shadow := none, cls.shadow := none } := by
  unfold abandonOrders
  rw [h, hb, hr]
  obtain ⟨page, entry, off, outcomes, abandon, flags, phase⟩ := x
  cases phase <;> first | rfl | exact absurd rfl hph

/-- A power-fail sequence has taken its first four steps (R177). -/
structure FailBegun (s u : State) : Prop where
  run : u.run = s.run
  settings : u.settings = s.settings
  regs : u.regs.busFault = s.regs.busFault
  nothing : u.NothingMeasured
  ctrl : u.ctrl = { s.ctrl with drain := none, quietTimer := none, settle := none, power := some { placed := 0, closing := false } }
  ex : u.ex = { s.ex with work := none, sweepAt := none, sweepTimer := none, handovers := [], taken := u.ex.taken }
  summary : u.temp.summary = s.temp.summary
  capture : CaptureStays (beforeFailing s) u
  untouched : s.noContext = true → u.cap = (beforeFailing s).cap

/-- What abandoning the order page with a flag leaves of it and of the shadows (R161). -/
def State.OrdersAbandoned (s u : State) (f : BitVec 6) : Prop :=
  (s.ex.taken = none → u.ex.taken = none)
  ∧ (∀ x, s.ex.taken = some x →
    (s.regs.busFault = true ∨ s.ex.resuming = true → u.ex.taken = some { x with flags := x.flags ||| f })
    ∧ (s.regs.busFault = false → s.ex.resuming = false →
      (x.phase = .refuse → u.ex.taken = some x)
      ∧ (x.phase ≠ .refuse → u.temp.shadow = none ∧ u.cls.shadow = none ∧ u.ex.taken = some (x.givenUp f))))

theorem abandonOrders_abandoned (f : BitVec 6) (s : State) : s.OrdersAbandoned (abandonOrders f s) f := by
  refine ⟨fun h => by rw [abandonOrders_none h, h], fun x h => ⟨fun hf => by rw [abandonOrders_noted h hf], fun hb hr => ⟨fun hph => ?_, fun hph => ?_⟩⟩⟩
  · rw [abandonOrders_refused h hb hr hph, h]
  · rw [abandonOrders_givenUp h hb hr hph]
    exact ⟨rfl, rfl, rfl⟩

theorem State.OrdersAbandoned.of_same {t : State} {f : BitVec 6} (h : t.OrdersAbandoned u f) (htaken : t.ex.taken = s.ex.taken)
    (hb : t.regs.busFault = s.regs.busFault) (hr : t.ex.resuming = s.ex.resuming) : s.OrdersAbandoned u f := by
  unfold State.OrdersAbandoned at h ⊢
  rwa [htaken, hb, hr] at h

theorem State.OrdersAbandoned.later {t : State} {f : BitVec 6} (h : s.OrdersAbandoned u f) (htaken : t.ex.taken = u.ex.taken)
    (hcurve : u.temp.shadow = none → t.temp.shadow = none) (hclasses : u.cls.shadow = none → t.cls.shadow = none) :
    s.OrdersAbandoned t f := by
  obtain ⟨hnone, hsome⟩ := h
  refine ⟨fun h => htaken.trans (hnone h), fun x hx => ?_⟩
  obtain ⟨hnoted, hnow⟩ := hsome x hx
  refine ⟨fun h => htaken.trans (hnoted h), fun hb hr => ?_⟩
  obtain ⟨hrefused, hgiven⟩ := hnow hb hr
  refine ⟨fun h => htaken.trans (hrefused h), fun h => ?_⟩
  obtain ⟨h1, h2, h3⟩ := hgiven h
  exact ⟨hcurve h1, hclasses h2, htaken.trans h3⟩

theorem powerFailSteps_truncated (s : State) : CloseFrame (beforeFailing s) (truncateAll (beforeFailing s)) :=
  truncateAll_undrained (by rw [beforeFailing_frame])

theorem beforeFailing_settings (s : State) : (beforeFailing s).settings = s.settings := by
  rw [beforeFailing_frame]
  rfl

theorem powerFailSteps_begun (s : State) : FailBegun s (powerFailSteps s) := by
  have hframe := powerFailSteps_truncated s
  have hbefore := beforeFailing_frame s
  have hnothing : (powerFailSteps s).NothingMeasured := endMeasuring_nothing _
  have hstays : CaptureStays (beforeFailing s) (powerFailSteps s) := (truncateAll_stays _).trans (emptyRowLists_stays _)
  rw [powerFailSteps_eq] at *
  refine ⟨?_, ?_, ?_, hnothing, ?_, ?_, ?_, hstays, fun hno => ?_⟩
  · rw [emptyRowLists_run, hframe, hbefore]
  · rw [emptyRowLists_settings, truncateAll_settings, beforeFailing_settings]
  · rw [emptyRowLists_regs, hframe, hbefore]
  · rw [emptyRowLists_ctrl, hframe, hbefore]
  · rw [emptyRowLists_ex, hframe, hbefore]
  · rw [emptyRowLists_temp, hframe, hbefore]
  · rw [emptyRowLists_cap, truncateAll_idle (by rw [hbefore]; exact hno)]

theorem abandonOrders_begun {f : BitVec 6} (h : FailBegun s u) : FailBegun s (abandonOrders f u) := by
  obtain ⟨taken, curve, classes, hframe⟩ := abandonOrders_frame f u
  have hset := abandonOrders_settings f u
  rw [hframe] at hset ⊢
  obtain ⟨hrun, hsettings, hregs, ⟨hchans, hhits, hrowA, hcontexts⟩, hctrl, hex, hsummary, hcapture, huntouched⟩ := h
  exact ⟨hrun, hset.trans hsettings, hregs, ⟨hchans, hhits, hrowA, hcontexts⟩, hctrl, by rw [hex], hsummary,
    hcapture.trans (.of_cap rfl rfl hset), huntouched⟩

/-! ### A sequence begun goes on, PFI standing -/

/-- A power-fail sequence went on from `u`: it waits, or it is over and the part in POWER_FAIL. -/
structure FailGoes (u v : State) : Prop where
  settings : v.settings = u.settings
  busFault : v.regs.busFault = u.regs.busFault
  det : v.det = u.det
  veh : v.veh = u.veh
  axle : v.axle = u.axle
  history : v.history = u.history
  ctrl : v.ctrl = { u.ctrl with power := v.ctrl.power }
  ex : v.ex = { u.ex with resultList := v.ex.resultList, table := v.ex.table }
  outcome : v.run = u.run ∧ v.powerIdle = false ∧ v.cap = u.cap ∧ v.temp = u.temp ∧ v.cls = u.cls
    ∨ v.run = .powerFail ∧ v.cap = (disarm u).cap ∧ v.temp.shadow = none ∧ v.cls.shadow = none ∧ v.temp.summary.short = true

theorem endPowerFail_goes (page : Option ResultPage) (hpins : u.pins.pfi = true) :
    FailGoes u (endPowerFail { u with rw.page := page }) := by
  have hset := endPowerFail_settings { u with rw.page := page }
  rw [endPowerFail_eq, hpins] at hset ⊢
  change (State.sequenceEnded _).settings = _ at hset
  show FailGoes u (State.sequenceEnded _)
  have hcap : (disarm { u with rw.page := page }).cap = (disarm u).cap := by rw [disarm_cap, disarm_cap]
  rw [sequenceEnded_frame] at hset ⊢
  exact ⟨hset, rfl, rfl, rfl, rfl, rfl, rfl, rfl, .inr ⟨rfl, hcap, rfl, rfl, rfl⟩⟩

theorem pfProgress_goes (hpower : u.powerIdle = false) (hpins : u.pins.pfi = true) : FailGoes u (pfProgress u) := by
  have hstays : FailGoes u u := ⟨rfl, rfl, rfl, rfl, rfl, rfl, rfl, rfl, .inl ⟨rfl, hpower, rfl, rfl, rfl⟩⟩
  unfold pfProgress
  split
  · exact hstays
  · split
    · exact hstays
    · split
      · exact endPowerFail_goes _ hpins
      · split
        · exact hstays
        · split
          · split
            · exact endPowerFail_goes u.rw.page hpins
            · unfold takeResultHead
              split
              · exact hstays
              · exact ⟨rfl, rfl, rfl, rfl, rfl, rfl, rfl, rfl, .inl ⟨rfl, hpower, rfl, rfl, rfl⟩⟩
          · split
            · exact ⟨rfl, rfl, rfl, rfl, rfl, rfl, rfl, rfl, .inl ⟨rfl, rfl, rfl, rfl, rfl⟩⟩
            · exact hstays

/-! ### PFI asserted -/

theorem stopCapture_unarmed (r : EndReason) (s : State) (req : ArmRequest) : (stopCapture r s).cap.st ≠ .armed req := by
  intro h
  cases hst : s.cap.st with
  | idle =>
    rw [stopCapture_idle r hst, hst] at h
    cases h
  | armed req' =>
    rw [stopCapture_armed r hst] at h
    cases h
  | capturing c =>
    unfold stopCapture at h
    rw [hst] at h
    dsimp only at h
    repeat' split at h
    all_goals first | cases h | (rw [hst] at h; cases h)

/-- A disarmed unit is as it was where it was not armed. -/
theorem disarm_cap_unarmed (h : ∀ req, s.cap.st ≠ .armed req) : (disarm s).cap = s.cap := by
  unfold disarm
  split
  · rename_i req hst
    exact absurd hst (h req)
  · rfl

/-- An arm request that a cascade brought is dropped again at the end of the sequence. -/
theorem CaptureStays.disarmed (h : CaptureStays s u) (hs : ∀ req, s.cap.st ≠ .armed req) (hb : v.regs.busFault = u.regs.busFault)
    (hset : v.settings = u.settings) (hcap : v.cap = (disarm u).cap) : CaptureStays s v := by
  refine ⟨hb.trans h.busFault, hset.trans h.settings, ?_, fun hsettled => .inl ?_⟩
  · rw [hcap, disarm_cap, h.number]
  · rw [hcap]
    obtain hsame | ⟨hidle, -, req, hreq⟩ := h.cap hsettled
    · rw [disarm_cap_unarmed (by rw [hsame]; exact hs), hsame]
    · rw [disarm_cap, hreq]
      show ({ st := .idle, number := u.cap.number } : CaptureUnit) = s.cap
      rw [← hidle, h.number]

/-- The sequence begun in `s` goes on to `t`, the command over. -/
structure FailFollows (s t : State) : Prop where
  settings : t.settings = s.settings
  chans : ∀ c, t.det.chans.get c = .off
  noContext : t.noContext = true
  rowA : t.axle.rowA = []
  sweepAt : t.ex.sweepAt = none
  work : t.ex.work = none
  sweepTimer : t.ex.sweepTimer = none
  handovers : t.ex.handovers = []
  drain : t.ctrl.drain = none
  quietTimer : t.ctrl.quietTimer = none
  settle : t.ctrl.settle = none
  run : t.run = .powerFail ∨ t.run = s.run ∧ t.powerIdle = false
  capture : s.CaptureStopped t .powerFail 0x10
  disarmed : t.run = .powerFail → s.run ≠ .powerFail → s.capturing = false → t.cap.st = .idle
  orders : s.OrdersAbandoned t 0x10
  summary : s.temp.summary.short = true → t.temp.summary.short = true

theorem beforeFailing_unarmed (s : State) (req : ArmRequest) : (beforeFailing s).cap.st ≠ .armed req := by
  rw [beforeFailing_frame]
  exact stopCapture_unarmed .powerFail s req

theorem powerFailSteps_taken (s : State) : (powerFailSteps s).ex.taken = s.ex.taken := by
  rw [powerFailSteps_eq, emptyRowLists_ex, powerFailSteps_truncated s, beforeFailing_frame]

/-- Where no capture was in progress none is. -/
theorem FailBegun.capturing (h : FailBegun s u) (hidle : s.capturing = false) : u.capturing = false := by
  have hst : (beforeFailing s).cap.st = .idle := by
    rw [beforeFailing_frame]
    exact stopCapture_waiting .powerFail hidle
  refine capturing_false.mpr ?_
  obtain hsame | ⟨-, -, harmed⟩ := h.capture.cap fun c hc => by rw [hst] at hc; cases hc
  · exact .inl (by rw [hsame, hst])
  · exact .inr harmed

theorem FailBegun.captureStopped {t : State} (h : FailBegun s u) (hv : FailGoes u v) (ht : t.cap = (advanceTrace v).cap) :
    s.CaptureStopped t .powerFail 0x10 := by
  have hcap : (beforeFailing s).cap = (stopCapture .powerFail s).cap := by rw [beforeFailing_frame, stopCapture_frame]
  have hstays : CaptureStays (beforeFailing s) v ∧ (s.noContext = true → v.cap = (beforeFailing s).cap) := by
    obtain ⟨-, -, hsame, -, -⟩ | ⟨-, hsame, -⟩ := hv.outcome
    · exact ⟨h.capture.trans (.of_cap hsame hv.busFault hv.settings), fun hno => hsame.trans (h.untouched hno)⟩
    · refine ⟨h.capture.disarmed (beforeFailing_unarmed s) hv.busFault hv.settings hsame, fun hno => ?_⟩
      have hbefore := h.untouched hno
      rw [hsame, disarm_cap_unarmed (by rw [hbefore]; exact beforeFailing_unarmed s), hbefore]
  exact captureStopped_of (r := .powerFail) hcap (by rw [beforeFailing_frame]) (mayArm_of_settings (beforeFailing_settings s))
    hstays.1 hstays.2 ht

/-- The sequence goes on from the state its first four steps leave, and the command is over. -/
theorem FailBegun.follows (hbegun : FailBegun s u) (hpins : s.pins.pfi = true) (hnow : s.OrdersAbandoned u 0x10) :
    FailFollows s (settleDown (pfProgress u)) := by
  have hpower : u.powerIdle = false := by
    unfold State.powerIdle
    rw [hbegun.ctrl]
    rfl
  have hgoes : FailGoes u (pfProgress u) :=
    pfProgress_goes hpower ((congrArg (fun x : Settings => x.pins.pfi) hbegun.settings).trans hpins)
  generalize pfProgress u = v at hgoes
  have hidle : v.run = .running → v.powerIdle = false := fun hrun => by
    obtain ⟨-, h, -⟩ | ⟨h, -⟩ := hgoes.outcome
    · exact h
    · rw [h] at hrun
      cases hrun
  obtain ⟨grant, hex⟩ := settleDown_sweepStays (u := v) (.inl (by rw [hgoes.ex, hbegun.ex]))
  have hcapture := hbegun.captureStopped hgoes (settleDown_cap v)
  refine ⟨?_, fun c => ?_, ?_, ?_, ?_, ?_, ?_, ?_, ?_, ?_, ?_, ?_, hcapture, fun hrun hnot hidle => ?_, hnow.later ?_ ?_ ?_, fun h => ?_⟩
  · rw [settleDown_settings, hgoes.settings, hbegun.settings]
  · rw [settleDown_det, hgoes.det, hbegun.nothing.channels]
  · rw [settleDown_noContext, State.noContext, hgoes.veh]
    exact hbegun.nothing.contexts
  · rw [settleDown_axle, hgoes.axle, hbegun.nothing.rowA]
  · rw [hex, hgoes.ex, hbegun.ex]
  · rw [hex, hgoes.ex, hbegun.ex]
  · rw [hex, hgoes.ex, hbegun.ex]
  · rw [hex, hgoes.ex, hbegun.ex]
  · rw [settleDown_ctrl_drain, hgoes.ctrl, hbegun.ctrl]
  · rw [settleDown_ctrl]
    refine if_neg fun hruns => ?_
    rw [Bool.and_eq_true, decide_eq_true_eq, Bool.and_eq_true, Bool.and_eq_true] at hruns
    obtain ⟨hrun, -, hyes, -⟩ := hruns
    exact Bool.false_ne_true ((hidle hrun).symm.trans hyes)
  · rw [settleDown_ctrl_settle, hgoes.ctrl, hbegun.ctrl]
  · rw [settleDown_run, settleDown_powerIdle]
    obtain ⟨hrun, h, -⟩ | ⟨hrun, -⟩ := hgoes.outcome
    · exact .inr ⟨hrun.trans hbegun.run, h⟩
    · exact .inl hrun
  · rw [settleDown_run] at hrun
    obtain ⟨hsame, -⟩ | ⟨-, hcap, -⟩ := hgoes.outcome
    · exact absurd (hbegun.run.symm.trans (hsame.symm.trans hrun)) hnot
    · have hst : v.cap.st = .idle := by rw [hcap, disarm_idle (hbegun.capturing hidle)]
      rw [settleDown_cap, advanceTrace_idle (capturing_false.mpr (.inl hst)), hst]
  · rw [settleDown_ex_taken, hgoes.ex]
  · rw [settleDown_temp]
    obtain ⟨-, -, -, hsame, -⟩ | ⟨-, -, hnone, -⟩ := hgoes.outcome
    · rw [hsame]
      exact id
    · exact fun _ => hnone
  · rw [settleDown_cls]
    obtain ⟨-, -, -, -, hsame⟩ | ⟨-, -, -, hnone, -⟩ := hgoes.outcome
    · rw [hsame]
      exact id
    · exact fun _ => hnone
  · rw [settleDown_temp]
    obtain ⟨-, -, -, hsame, -⟩ | ⟨-, -, -, -, hshort⟩ := hgoes.outcome
    · rw [hsame, hbegun.summary, h]
    · exact hshort

theorem beginPowerFail_follows (hpins : s.pins.pfi = true) : FailFollows s (settleDown (beginPowerFail s)) := by
  have hsteps := powerFailSteps_begun s
  rw [beginPowerFail_eq]
  exact (abandonOrders_begun hsteps).follows hpins
    ((abandonOrders_abandoned 0x10 (powerFailSteps s)).of_same (powerFailSteps_taken s) hsteps.regs (by rw [hsteps.ex]))

end

end Sys2Proof.Machine
end

section
/-!
PROOFS. PFI asserted (R177), and ENABLE from 0 to 1 (R167): the two statements.
-/

namespace Sys2Proof.Machine

section
variable {s u : State} {q : PowerSeq}

/-! ### A part in which nothing stands -/

/-- A part without contexts, captures and orders once the first steps of the sequence are taken. -/
def State.failing (s : State) : State :=
  { s with
    det.chans := Tab.fill 16 .off, det.hits := { a := [], b := [] }, axle.rowA := [], axle.rowB := []
    ctrl := { s.ctrl with drain := none, quietTimer := none, settle := none, power := some { placed := 0, closing := false } }
    ex := { s.ex with work := none, sweepAt := none, sweepTimer := none, handovers := [] } }

theorem powerFailSteps_still (hno : s.noContext = true) (hcap : s.cap.st = .idle) : powerFailSteps s = s.failing := by
  have hbefore := beforeFailing_frame s
  rw [stopCapture_idle .powerFail hcap] at hbefore
  rw [powerFailSteps_eq, truncateAll_idle (by rw [hbefore]; exact hno), hbefore]
  rfl

/-- Nothing measured, taken or captured: the sequence goes on at once to its pages. -/
theorem beginPowerFail_still (hno : s.noContext = true) (htaken : s.ex.taken = none) (hcap : s.cap.st = .idle) :
    beginPowerFail s = pfProgress s.failing := by
  rw [beginPowerFail_eq, powerFailSteps_still hno hcap, abandonOrders_none (by exact htaken)]

theorem failing_places (htaken : s.ex.taken = none) (hcap : s.cap.st = .idle) (hb : s.regs.busFault = false)
    (hr : s.ex.resuming = false) : s.failing.FailPlaces { placed := 0, closing := false } :=
  ⟨rfl, hr, hb, htaken, capturing_false.mpr (.inl hcap)⟩

/-- With nothing held and nothing queued the sequence ends at once. -/
theorem beginPowerFail_ends (hno : s.noContext = true) (htaken : s.ex.taken = none) (hcap : s.cap.st = .idle)
    (hb : s.regs.busFault = false) (hr : s.ex.resuming = false) (hpage : s.rw.page = none)
    (hnext : s.rw.queue = [] ∨ s.ex.resultList = []) : beginPowerFail s = endPowerFail s.failing := by
  rw [beginPowerFail_still hno htaken hcap, pfProgress_places (failing_places htaken hcap hb hr)]
  have hpage' : s.failing.rw.page = none := hpage
  rw [hpage']
  refine if_pos (.inr ?_)
  obtain hnext | hnext := hnext
  · left
    show (decide (16 ≤ 0) || s.rw.queue.isEmpty) = true
    rw [hnext]
    rfl
  · right
    show s.ex.resultList.isEmpty = true
    rw [hnext]
    rfl

/-- What the end of the sequence leaves of the sensor side, PFI standing. -/
theorem endPowerFail_sensors (hpins : u.pins.pfi = true) (l : Lane) :
    (endPowerFail u).loops.get l = .vacant ∧ (endPowerFail u).link = { u.link with ref := none, silence := none, fault := false } := by
  rw [endPowerFail_eq, hpins]
  show (State.sequenceEnded u).loops.get l = _ ∧ (State.sequenceEnded u).link = _
  rw [sequenceEnded_frame]
  exact ⟨Tab.get_fill .., rfl⟩

theorem endPowerFail_set {n : SetId} {due : Nat} (hpins : u.pins.pfi = true) (h : (u.trig.sets.get n).timer = .running due) :
    (endPowerFail u).trig.sets.get n = { u.trig.sets.get n with timer := .held (tickOffset u.clock due) } := by
  rw [endPowerFail_eq, hpins]
  show (State.sequenceEnded u).trig.sets.get n = _
  rw [sequenceEnded_frame]
  exact holdTimers_held h

/-- Nothing stands in the part but what a sequence may leave to be placed. -/
structure State.Still (s : State) : Prop where
  noContext : s.noContext = true
  taken : s.ex.taken = none
  capture : s.cap.st = .idle
  noFault : s.regs.busFault = false
  resumed : s.ex.resuming = false

/-- POWER_FAIL is entered at once (R177). -/
structure PowerFailed (s t : State) : Prop where
  run : t.run = .powerFail
  shows : t.regs.powerFail = true
  powerIdle : t.powerIdle = true
  loops : ∀ l, t.loops.get l = .vacant
  link : t.link = { s.link with ref := none, silence := none, fault := false }
  timers : ∀ n due, (s.trig.sets.get n).timer = .running due →
    t.trig.sets.get n = { s.trig.sets.get n with timer := .held (tickOffset s.clock due) }
  pulses : ∀ l, (t.trig.lines.get l).pulses = []

theorem State.Still.fails (h : s.Still) (hpins : s.pins.pfi = true) (hpage : s.rw.page = none)
    (hnext : s.rw.queue = [] ∨ s.ex.resultList = []) :
    PowerFailed s (settleDown (beginPowerFail s)) ∧ SequenceOver s.failing (settleDown (beginPowerFail s)) := by
  rw [beginPowerFail_ends h.noContext h.taken h.capture h.noFault h.resumed hpage hnext]
  have hpins' : s.failing.pins.pfi = true := hpins
  have hover := (endPowerFail_over s.failing).settle_down
  refine ⟨⟨?_, hover.shows, ?_, fun l => ?_, ?_, fun n due h => ?_, hover.pulses⟩, hover⟩
  · rw [settleDown_run, endPowerFail_run, hpins']
    rfl
  · unfold State.powerIdle
    rw [hover.power]
    rfl
  · rw [settleDown_loops, (endPowerFail_sensors hpins' l).1]
  · rw [settleDown_link, (endPowerFail_sensors hpins' 0).2]
    rfl
  · rw [settleDown_trig, endPowerFail_set hpins' h]
    rfl

end

theorem exec_pfiAsserted {s : State} (hworks : s.run.works = true) (hidle : s.powerIdle = true) :
    exec .pfiAsserted s = .next (settleDown (beginPowerFail { s with pins.pfi := true })) :=
  answerNext_eq (if_pos ⟨hworks, hidle⟩)

theorem pfiAsserted_follows {s : State} (hworks : s.run.works = true) (hidle : s.powerIdle = true) :
    ∃ t, exec .pfiAsserted s = .next t ∧ FailFollows { s with pins.pfi := true } t :=
  ⟨_, exec_pfiAsserted hworks hidle, beginPowerFail_follows rfl⟩

theorem pfiAsserted_fails {s : State} (hworks : s.run.works = true) (hidle : s.powerIdle = true) (h : s.Still) (hpage : s.rw.page = none)
    (hnext : s.rw.queue = [] ∨ s.ex.resultList = []) : ∃ t, exec .pfiAsserted s = .next t
      ∧ PowerFailed { s with pins.pfi := true } t ∧ SequenceOver (State.failing { s with pins.pfi := true }) t := by
  have hstill : ({ s with pins.pfi := true } : State).Still := ⟨h.noContext, h.taken, h.capture, h.noFault, h.resumed⟩
  exact ⟨_, exec_pfiAsserted hworks hidle, hstill.fails rfl hpage hnext⟩

/-- Settles O20: outside the working run states, in one, and from READY with nothing held. -/
theorem powerFailBegins : Obligations.PowerFailBegins := by
  refine ⟨fun s hworks => answerNext_eq (if_neg fun h => Bool.false_ne_true (hworks.symm.trans h.1)), fun s hworks hidle => ?_,
    fun s hrun hidle hb hr hno htaken hcap hpage hqueue => ?_⟩
  · obtain ⟨t, hexec, h⟩ := pfiAsserted_follows hworks hidle
    have hnot : s.run ≠ .powerFail := fun e => by rw [e] at hworks; cases hworks
    obtain ⟨hnone, hsome⟩ := h.orders
    exact ⟨t, hexec, h.settings, h.chans, h.noContext, h.rowA, h.sweepAt, h.work, h.sweepTimer, h.handovers,
      h.drain, h.quietTimer, h.settle, h.run, h.capture, fun hrun => h.disarmed hrun hnot, hnone, hsome⟩
  · obtain ⟨t, hexec, h, -⟩ := pfiAsserted_fails (by rw [hrun]; rfl) hidle ⟨hno, htaken, hcap, hb, hr⟩ hpage (.inl hqueue)
    refine ⟨t, hexec, h.run, h.shows, h.powerIdle, h.loops, ?_, ?_, ?_, fun n due hn => ?_, h.pulses⟩
    · rw [h.link]
    · rw [h.link]
    · rw [h.link]
    · rw [h.timers n due hn]
      exact ⟨rfl, rfl⟩

section
variable {s t u : State}

/-! ### ENABLE from 0 to 1 (R167) -/

theorem enableSweep_frame (b : Bool) (s : State) : enableSweep b s =
    { s with
      temp.summary := Summary.empty s.second (nextBoundary s.temp.interval s.second) true
      ex := { s.ex with sweepAt := if b then s.ex.sweepAt else some 0, sweepTimer := if b then s.ex.sweepTimer else none } } := by
  cases b <;> rfl

/-- CONTROL written with ENABLE 1 and ATTN_EN. -/
def State.enabled (s : State) (attn : Bool) : State := { s with regs.enable := true, regs.attnEn := attn }

/-- The part made READY, its summary restarted and its sweep begun. -/
def State.enableBegun (s : State) (attn : Bool) : State := enableSweep s.regs.busFault (beginReady (s.enabled attn))

theorem controlWrite_enable {restart attn : Bool} (he : s.regs.enable = false) :
    controlWrite true restart attn s = enablePart (s.enabled attn) := by
  unfold controlWrite
  rw [he]
  rfl

theorem enablePart_begun (attn : Bool) (s : State) : enablePart (s.enabled attn) =
    if s.pins.pfi then beginPowerFail (s.enableBegun attn) else s.enableBegun attn := by
  rw [enablePart_eq]
  rfl

theorem exec_enable {restart attn : Bool} (he : s.regs.enable = false) : exec (.enable restart attn) s = .next (settleDown
    (if s.pins.pfi then beginPowerFail (s.enableBegun attn) else s.enableBegun attn)) := by
  rw [← enablePart_begun, ← controlWrite_enable (restart := restart) he]
  rfl

/-- Loops, receiver, probes and input lines as the change to READY takes them up (R9, R15, R71, R126). -/
structure SensorsTakenUp (s t : State) : Prop where
  loops : ∀ l : Lane, t.loops.get l = if l.val < s.site.laneCount ∧ s.pins.lp.get l = true then .occupied s.clock 0 else .vacant
  link : t.link = { s.link with ref := none, silence := some 0 }
  probes : t.temp.probes = s.temp.probes.map ProbeState.restart
  inputs : ∀ l v, s.trig.lines.get l = .input v → t.trig.lines.get l = .input (s.pins.field.get l)

theorem beginReady_takesUp (s : State) : SensorsTakenUp s (beginReady s) := by
  rw [beginReady_frame]
  exact ⟨takeUpLoops_get s, rfl, rfl, fun l v h => takeUpInputs_input h⟩

theorem SensorsTakenUp.later (h : SensorsTakenUp s u) (hloops : t.loops = u.loops) (hlink : t.link = u.link)
    (hprobes : t.temp.probes = u.temp.probes) (hlines : t.trig.lines = u.trig.lines) : SensorsTakenUp s t :=
  ⟨by rw [hloops]; exact h.loops, hlink.trans h.link, hprobes.trans h.probes, by rw [hlines]; exact h.inputs⟩

theorem enableBegun_frame (attn : Bool) (s : State) : s.enableBegun attn =
    { beginReady (s.enabled attn) with
      temp.summary := Summary.empty s.second (nextBoundary s.temp.interval s.second) true
      temp.probes := s.temp.probes.map ProbeState.restart
      ex := { s.ex with
        sweepAt := if s.regs.busFault then s.ex.sweepAt else some 0, sweepTimer := if s.regs.busFault then s.ex.sweepTimer else none } } :=
  enableSweep_frame ..

theorem enableBegun_takesUp (attn : Bool) (s : State) : SensorsTakenUp s (s.enableBegun attn) := by
  rw [enableBegun_frame]
  obtain ⟨hloops, hlink, -, hinputs⟩ := beginReady_takesUp (s.enabled attn)
  exact ⟨hloops, hlink, rfl, hinputs⟩

theorem enableBegun_settings (attn : Bool) (s : State) :
    (s.enableBegun attn).settings = { s.settings with enable := true, attnEn := attn } := by
  have hready : (beginReady (s.enabled attn)).settings = (s.enabled attn).settings := beginReady_settings _
  rw [enableBegun_frame]
  exact hready

/-- The sweep begun stands at the lowest page the table holds NOT_MINE, or at its end (R152); with an entry in hand or in a
resumption it waits. -/
theorem enableBegun_sweeps (attn : Bool) (hidle : s.powerIdle = true) (hb : s.regs.busFault = false) :
    (s.ex.work = none → s.ex.resuming = false → (settleDown (s.enableBegun attn)).SweepBegun)
    ∧ (s.ex.work ≠ none ∨ s.ex.resuming = true → (settleDown (s.enableBegun attn)).ex.sweepAt = some 0
      ∧ (settleDown (s.enableBegun attn)).ex.sweepTimer = none)
    ∧ ((settleDown (s.enableBegun attn)).ex.sweepAt.isSome = true ∨ (settleDown (s.enableBegun attn)).ex.sweepTimer.isSome = true) := by
  have hfree : (s.enableBegun attn).exchangeFree = !s.ex.resuming := by
    unfold State.exchangeFree
    rw [enableBegun_frame]
    show (true && (!s.regs.busFault && (!s.ex.resuming && s.powerIdle))) = _
    rw [hb, hidle, Bool.and_true]
    rfl
  have hat : (s.enableBegun attn).ex.sweepAt = some 0 := by
    rw [enableBegun_frame]
    exact if_neg (by rw [hb]; exact Bool.false_ne_true)
  have htimer : (s.enableBegun attn).ex.sweepTimer = none := by
    rw [enableBegun_frame]
    exact if_neg (by rw [hb]; exact Bool.false_ne_true)
  have hwork : (s.enableBegun attn).ex.work = s.ex.work := by rw [enableBegun_frame]
  by_cases h : s.ex.work = none ∧ s.ex.resuming = false
  · obtain ⟨hw, hr⟩ := h
    obtain ⟨hbegun, hsome⟩ := settleDown_sweepBegun hat htimer (by rw [hfree, hr]; rfl) (hwork.trans hw)
    refine ⟨fun _ _ => hbegun, fun hnot => ?_, hsome⟩
    obtain hnot | hnot := hnot
    · exact absurd hw hnot
    · exact absurd (hr.symm.trans hnot) Bool.false_ne_true
  · have hstays : (s.enableBegun attn).ex.work ≠ none ∨ (s.enableBegun attn).exchangeFree = false := by
      rw [hwork, hfree]
      obtain hw | hr := not_and_or.mp h
      · exact .inl hw
      · exact .inr (by rw [Bool.not_eq_false] at hr; rw [hr]; rfl)
    obtain ⟨grant, hex⟩ := settleDown_sweepStays (.inr hstays)
    rw [hex]
    exact ⟨fun hw hr => absurd ⟨hw, hr⟩ h, fun _ => ⟨hat, htimer⟩, .inl (by rw [hat]; rfl)⟩

theorem enableBegun_run (attn : Bool) (s : State) : (s.enableBegun attn).run = .ready := by
  rw [enableBegun_frame]
  rfl

theorem enableBegun_pins (attn : Bool) (s : State) : (s.enableBegun attn).pins = s.pins := by
  rw [enableBegun_frame]
  rfl

theorem enableBegun_still (attn : Bool) (h : s.Still) : (s.enableBegun attn).Still := by
  rw [enableBegun_frame]
  exact ⟨h.noContext, h.taken, h.capture, h.noFault, h.resumed⟩

theorem enableBegun_rw (attn : Bool) (s : State) : (s.enableBegun attn).rw = s.rw := by
  rw [enableBegun_frame]
  rfl

theorem enableBegun_summary (attn : Bool) (s : State) :
    (s.enableBegun attn).temp.summary = Summary.empty s.second (nextBoundary s.temp.interval s.second) true := by
  rw [enableBegun_frame]

/-- With PFI standing the part begins READY and at once the power-fail sequence. -/
theorem enable_follows {restart attn : Bool} (he : s.regs.enable = false) (hpins : s.pins.pfi = true) :
    ∃ t, exec (.enable restart attn) s = .next t ∧ FailFollows (s.enableBegun attn) t
      ∧ (s.Still → s.rw.page = none → s.rw.queue = [] → PowerFailed (s.enableBegun attn) t) := by
  have hpins' : (s.enableBegun attn).pins.pfi = true := by rw [enableBegun_pins, hpins]
  have hexec := exec_enable (restart := restart) (attn := attn) he
  rw [if_pos hpins] at hexec
  refine ⟨_, hexec, beginPowerFail_follows hpins', fun hstill hpage hqueue => ?_⟩
  exact ((enableBegun_still attn hstill).fails hpins' (by rw [enableBegun_rw, hpage]) (.inl (by rw [enableBegun_rw, hqueue]))).1

end

/-- Settles O15: with PFI released, and asserted. -/
theorem enableBeginsReady : Obligations.EnableBeginsReady := by
  refine ⟨fun restart attn s hrun he hpins hidle => ?_, fun restart attn s hrun he hpins hidle => ?_⟩
  · have hexec := exec_enable (restart := restart) (attn := attn) he
    rw [if_neg (by rw [hpins]; exact Bool.false_ne_true)] at hexec
    have hsensors : SensorsTakenUp s (settleDown (s.enableBegun attn)) :=
      (enableBegun_takesUp attn s).later (settleDown_loops _) (settleDown_link _) (by rw [settleDown_temp]) (by rw [settleDown_trig])
    have hsummary : (settleDown (s.enableBegun attn)).temp.summary
        = Summary.empty s.second (nextBoundary s.temp.interval s.second) true := by
      rw [settleDown_temp, enableBegun_summary]
    have hsettings : (settleDown (s.enableBegun attn)).settings = { s.settings with enable := true, attnEn := attn } := by
      rw [settleDown_settings, enableBegun_settings]
    have hrun' : (settleDown (s.enableBegun attn)).run = .ready := by rw [settleDown_run, enableBegun_run]
    have hsame : (settleDown (s.enableBegun attn)).det = s.det ∧ (settleDown (s.enableBegun attn)).cal = s.cal
        ∧ (settleDown (s.enableBegun attn)).cls = s.cls ∧ (settleDown (s.enableBegun attn)).veh = s.veh
        ∧ (settleDown (s.enableBegun attn)).axle = s.axle := by
      rw [settleDown_det, settleDown_cal, settleDown_cls, settleDown_veh, settleDown_axle, enableBegun_frame]
      exact ⟨rfl, rfl, rfl, rfl, rfl⟩
    have hsweeps := fun hb => enableBegun_sweeps attn hidle hb
    generalize settleDown (s.enableBegun attn) = t at *
    refine ⟨t, hexec, hrun', hsettings, hsensors.loops, hsensors.link, fun p => ?_, hsensors.inputs, ?_, ?_, ?_,
      fun hb => (hsweeps hb).2.2, fun hb => ⟨(hsweeps hb).1, (hsweeps hb).2.1⟩, hsame⟩
    · rw [hsensors.probes]
      exact restarted_get s p
    · rw [hsummary]
      rfl
    · rw [hsummary]
      rfl
    · rw [hsummary]
      rfl
  · obtain ⟨t, hexec, h, hfails⟩ := enable_follows (restart := restart) (attn := attn) he hpins
    refine ⟨t, hexec, by rw [h.settings, enableBegun_settings], ?_, h.sweepAt, h.sweepTimer, h.handovers, h.chans, h.noContext,
      h.summary (by rw [enableBegun_summary]; rfl), fun hno htaken hcap hpage hqueue hr hb => ?_⟩
    · have hrun' := h.run
      rwa [enableBegun_run] at hrun'
    · obtain ⟨hrun', hshows, hidle', hloops, -, -, -⟩ := hfails ⟨hno, htaken, hcap, hb, hr⟩ hpage hqueue
      exact ⟨hrun', hshows, hidle', hloops⟩

end Sys2Proof.Machine
end

section
/-!
PROOFS. PFI released (R178), and steps 5 to 8 of the power-fail sequence (R177).
-/

namespace Sys2Proof.Machine

section
variable {s t u v : State} {q : PowerSeq} {p : ResultPage}

/-- What the end of a sequence looks at. -/
theorem SequenceOver.of_same (h : SequenceOver v t) (hqueue : v.rw.queue = s.rw.queue) (hvehicle : v.rw.lostVehicle = s.rw.lostVehicle)
    (hother : v.rw.lostOther = s.rw.lostOther) (hcapture : s.capturing = false → v.capturing = false) (htrig : v.trig = s.trig)
    (hpins : v.pins = s.pins) (hclock : v.clock = s.clock) : SequenceOver s t := by
  have hcount : v.pulseCount = s.pulseCount := by
    unfold State.pulseCount
    rw [htrig]
  obtain ⟨h1, h2, h3, h4, h5, h6, h7, h8, h9, h10, h11, h12⟩ := h
  rw [hqueue, hvehicle] at h8
  rw [hqueue, hother] at h9
  rw [htrig, hcount] at h11
  rw [hpins, htrig, hclock] at h12
  exact ⟨h1, h2, h3, fun hidle => h4 (hcapture hidle), h5, h6, h7, h8, h9, h10, h11, h12⟩

/-! ### PFI released (R178) -/

/-- In READY the sweeper leaves the sweep timer that the change to READY set. -/
theorem settleDown_sweepTimer (ticks : Nat) (hticks : ticks = msTicks u.ex.sweepMs)
    (h : u.ex.sweepTimer = if u.regs.busFault then none else some (0, ticks)) :
    (settleDown u).ex.sweepTimer = if u.regs.busFault then none else some (0, ticks) := by
  obtain ⟨v, grant, hex, hfree, hsettled⟩ := settleDown_sweeps u
  rw [← hex] at h
  rw [hsettled]
  show (advanceSweeper v).ex.sweepTimer = _
  by_cases hrest : v.ex.sweepAt = none ∨ v.ex.work ≠ none ∨ v.exchangeFree = false
  · rw [advanceSweeper_rest hrest, h]
  · obtain ⟨hat, hw, hv⟩ := not_or.mp hrest |>.imp_right not_or.mp
    obtain ⟨i, hi⟩ := Option.ne_none_iff_exists'.mp hat
    rw [Bool.not_eq_false] at hv
    have hb : u.regs.busFault = false := by
      rw [hfree] at hv
      unfold State.exchangeFree at hv
      rw [Bool.and_eq_true, Bool.and_eq_true] at hv
      simpa using hv.2.1
    cases hnext : v.nextSwept i with
    | some p =>
      rw [advanceSweeper_reads hi (not_not.mp hw) hv hnext]
      split <;> exact h
    | none =>
      rw [advanceSweeper_ends hi (not_not.mp hw) hv hnext, hb, hticks, ← hex]
      rfl

theorem leavePowerFail_takesUp (s : State) : SensorsTakenUp s (leavePowerFail s) :=
  (beginReady_takesUp s).later rfl rfl rfl rfl

theorem resumeTimers_get {n : SetId} {left : Int} (h : (s.trig.sets.get n).timer = .held left) :
    ((leavePowerFail s).trig.sets.get n).timer = .running (((s.clock : Int) + left) % 281474976710656).toNat := by
  refine (congrArg TriggerSet.timer (Tab.get_map ..)).trans ?_
  have hsets : (beginReady s).trig.sets.get n = s.trig.sets.get n := rfl
  rw [hsets, h]
  rfl

/-! ### The pages of the sequence (R177 steps 5 and 6) -/

theorem pfProgress_takes {x : Page} {rest : List Page} (h : s.FailPlaces q) (hpage : s.rw.page = none) (hc : q.closing = false)
    (hn : q.placed < 16) (hqueue : s.rw.queue ≠ []) (hlist : s.ex.resultList = x :: rest) : pfProgress s =
      { s with
        rw.page := some (ResultPage.fresh x s.clock), rw.pages := s.rw.pages + 1, ex.resultList := rest
        ex.table := s.ex.table.set x .filling } := by
  rw [pfProgress_places h, hpage]
  refine (if_neg ?_).trans ?_
  · rw [hc, hlist]
    unfold PowerSeq.spent
    rw [Bool.or_eq_true, decide_eq_true_eq, List.isEmpty_iff]
    rintro (h | (h | h) | h)
    · cases h
    · omega
    · exact hqueue h
    · cases h
  · unfold takeResultHead
    rw [hlist]

theorem pfProgress_ends (h : s.FailPlaces q) (hpage : s.rw.page = none)
    (hdone : q.closing = true ∨ 16 ≤ q.placed ∨ s.rw.queue = [] ∨ s.ex.resultList = []) : pfProgress s = endPowerFail s := by
  rw [pfProgress_places h, hpage]
  refine if_pos ?_
  unfold PowerSeq.spent
  rw [Bool.or_eq_true, decide_eq_true_eq, List.isEmpty_iff, List.isEmpty_iff, or_assoc]
  exact hdone

theorem pfProgress_page (h : s.FailPlaces q) (hpage : s.rw.page = some p) : pfProgress s =
    if p.phase = .rest ∧ p.closeWith.isNone = true ∧ q.spent s.rw.queue = true then
      { s with rw.page := some { p with closeWith := some 0x10 }, ctrl.power := some { q with closing := true } }
    else s := by
  rw [pfProgress_places h, hpage]

theorem endPowerFail_page (s : State) : (endPowerFail s).rw.page = s.rw.page := by
  have hended : s.sequenceEnded.rw.page = s.rw.page := by
    rw [sequenceEnded_frame]
    exact (loseAllRecords_rw s).2.1
  rw [endPowerFail_eq]
  split <;> exact hended

theorem endPowerFail_kept (s : State) : (endPowerFail s).regs.busFault = s.regs.busFault
    ∧ (endPowerFail s).ex.table = s.ex.table ∧ (endPowerFail s).ex.closures = s.ex.closures := by
  rw [endPowerFail_eq]
  split
  · rw [sequenceEnded_frame]
    exact ⟨rfl, rfl, rfl⟩
  · show s.sequenceEnded.regs.busFault = _ ∧ s.sequenceEnded.ex.table = _ ∧ s.sequenceEnded.ex.closures = _
    rw [sequenceEnded_frame]
    exact ⟨rfl, rfl, rfl⟩

theorem exec_pfiAsserted_goes {v : State} (hrun : s.run = .ready) (hidle : s.powerIdle = true) (h : s.Still)
    (hv : pfProgress (State.failing { s with pins.pfi := true }) = v) : exec .pfiAsserted s = .next (settleDown v) := by
  rw [exec_pfiAsserted (by rw [hrun]; rfl) hidle, beginPowerFail_still (by exact h.noContext) (by exact h.taken) (by exact h.capture), hv]

theorem failing_still (h : s.Still) : (State.failing { s with pins.pfi := true }).FailPlaces { placed := 0, closing := false } :=
  failing_places h.taken h.capture h.noFault h.resumed

/-! ### Accesses and errors in the sequence -/

/-- A completed access of the Record Writer in the sequence. -/
theorem exec_failWrite {a : Nat} {ws : List Word} (hg : s.ex.grant = some .recordWriter) (ha : s.writerRequest = some (.write a ws))
    (hdone : completeWriter { s with mem := Memory.writeWords s.mem a ws, ex.grant := none } = u)
    (hresuming : u.ex.resuming = false) (hv : pfProgress u = v) : exec (.accessComplete []) s = .next (settleDown v) := by
  refine answerNext_eq ?_
  have hmade : completeFor .recordWriter ((Access.write a ws).perform [] s.mem).2
      { s with mem := ((Access.write a ws).perform [] s.mem).1, ex.grant := none } = u := hdone
  rw [takeCompletion_granted hg (by exact ha), hmade, resumeProgress_idle hresuming, hv]

theorem pagesFaulted_cap {r : Requester} (h : s.capturing = false) : (s.pagesFaulted r).cap = s.cap := by
  obtain ⟨page, pages, results, table, hwriter⟩ := faultWriter_frame (decide (r = .recordWriter)) s
  have htrace : faultTrace (decide (r = .traceWriter)) (faultWriter (decide (r = .recordWriter)) s)
      = faultWriter (decide (r = .recordWriter)) s := by
    rw [hwriter]
    unfold faultTrace
    obtain hst | ⟨req, hst⟩ := capturing_false.mp h <;> rw [hst]
  obtain ⟨taken, orders, table', curve, classes, hreader⟩ := faultReader_frame (decide (r = .orderReader))
    (faultWriter (decide (r = .recordWriter)) s)
  unfold State.pagesFaulted
  rw [htrace, hreader, hwriter]

/-- A bus error ends the sequence (R177), the close of a page in hand noted. -/
theorem busError_over {r : Requester} (hp : s.ctrl.power = some q) (hg : s.ex.grant = some r) :
    exec .busError s = .next (settleDown (endPowerFail (closeResultPage 0x10 (takeBusError r s))))
      ∧ SequenceOver s (endPowerFail (closeResultPage 0x10 (takeBusError r s)))
      ∧ (takeBusError r s).pins = s.pins ∧ (takeBusError r s).regs.busFault = true := by
  obtain ⟨page, pages, st, taken, results, traces, orders, table, curve, classes, h⟩ := pagesFaulted_frame r s
  have hcap : s.capturing = false → (takeBusError r s).capturing = false := fun hidle => by
    have hsame : (takeBusError r s).cap = s.cap := pagesFaulted_cap hidle
    unfold State.capturing at hidle ⊢
    rw [hsame]
    exact hidle
  have hu := takeBusError_eq r s
  rw [h] at hu
  have hpower : (takeBusError r s).ctrl.power = some q := by rw [hu, hp]
  have hres : (takeBusError r s).ex.resuming = false := by rw [hu]
  have hfault : (takeBusError r s).regs.busFault = true := by rw [hu]
  have hnow := pfProgress_faulted hpower hres hfault
  refine ⟨?_, ?_, by rw [hu], hfault⟩
  · refine answerNext_eq ?_
    rw [← hnow]
    unfold takeError
    rw [hg]
  · refine (endPowerFail_over (closeResultPage 0x10 (takeBusError r s))).of_same ?_ ?_ ?_ hcap ?_ ?_ ?_ <;>
    · unfold closeResultPage
      rw [hu]

end

/-- The part made READY out of POWER_FAIL (R178). -/
structure MadeReady (s t : State) : Prop where
  run : t.run = .ready
  settings : t.settings = { s.settings with pins := { s.pins with pfi := false } }
  sensors : SensorsTakenUp s t
  timers : ∀ n left, (s.trig.sets.get n).timer = .held left →
    (t.trig.sets.get n).timer = .running (((s.clock : Int) + left) % 281474976710656).toNat
  sweepTimer : t.ex.sweepTimer = if s.regs.busFault then none else some (0, (2 * (s.ex.sweepMs * 8192) + 1000) / 2000)
  powerFail : t.regs.powerFail = s.regs.powerFail
  det : t.det = s.det
  veh : t.veh = s.veh
  cal : t.cal = s.cal
  table : t.ex.table = s.ex.table
  lists : t.ex.resultList = s.ex.resultList ∧ t.ex.traceList = s.ex.traceList ∧ t.ex.orderList = s.ex.orderList

theorem leavePowerFail_ready (s : State) : MadeReady s (settleDown (leavePowerFail { s with pins.pfi := false })) := by
  have hsensors := leavePowerFail_takesUp { s with pins.pfi := false }
  have hset := leavePowerFail_settings { s with pins.pfi := false }
  have htimers (n : SetId) (left : Int) (h : (s.trig.sets.get n).timer = .held left) :=
    resumeTimers_get (s := { s with pins.pfi := false }) h
  have hsweep := settleDown_sweepTimer (u := leavePowerFail { s with pins.pfi := false }) (msTicks s.ex.sweepMs) rfl rfl
  have hsame : (leavePowerFail { s with pins.pfi := false }).run = .ready
      ∧ (leavePowerFail { s with pins.pfi := false }).regs = s.regs ∧ (leavePowerFail { s with pins.pfi := false }).det = s.det
      ∧ (leavePowerFail { s with pins.pfi := false }).veh = s.veh ∧ (leavePowerFail { s with pins.pfi := false }).cal = s.cal
      ∧ (leavePowerFail { s with pins.pfi := false }).ex.table = s.ex.table
      ∧ (leavePowerFail { s with pins.pfi := false }).ex.resultList = s.ex.resultList
      ∧ (leavePowerFail { s with pins.pfi := false }).ex.traceList = s.ex.traceList
      ∧ (leavePowerFail { s with pins.pfi := false }).ex.orderList = s.ex.orderList := ⟨rfl, rfl, rfl, rfl, rfl, rfl, rfl, rfl, rfl⟩
  generalize leavePowerFail { s with pins.pfi := false } = u at *
  obtain ⟨hrun, hregs, hdet, hveh, hcal, htable, hresults, htraces, horders⟩ := hsame
  refine ⟨(settleDown_run u).trans hrun, (settleDown_settings u).trans hset, ?_, ?_, ?_, by rw [settleDown_regs, hregs],
    (settleDown_det u).trans hdet, (settleDown_veh u).trans hveh, (settleDown_cal u).trans hcal, (settleDown_ex_table u).trans htable,
    (settleDown_ex_resultList u).trans hresults, (settleDown_ex_traceList u).trans htraces, (settleDown_ex_orderList u).trans horders⟩
  · exact ⟨fun l => by rw [settleDown_loops]; exact hsensors.loops l, (settleDown_link u).trans hsensors.link,
      by rw [settleDown_temp]; exact hsensors.probes, fun l v h => by rw [settleDown_trig]; exact hsensors.inputs l v h⟩
  · rw [settleDown_trig]
    exact htimers
  · rw [hregs] at hsweep
    exact hsweep

theorem pfiReleased_ready {s : State} (hrun : s.run = .powerFail) : ∃ t, exec .pfiReleased s = .next t ∧ MadeReady s t :=
  ⟨_, answerNext_eq (if_pos hrun), leavePowerFail_ready s⟩

/-- A record placed in the sequence: it is counted, and after the sixteenth or the last queued the page is to close. -/
theorem exec_failPlaced {p : ResultPage} {r : Rec} {rest : List Rec} {k : Nat} {q : PowerSeq} {s : State} (h : s.FailPlaces q)
    (hclosing : q.closing = false) (hg : s.ex.grant = some .recordWriter) (hp : s.rw.page = some p) (hph : p.phase = .record k)
    (hc : p.closeWith = none) (hq : s.rw.queue = r :: rest) (hk : k + 1 = r.words.length) :
    exec (.accessComplete []) s = .next (settleDown
      { s with
        mem := Memory.writeWords s.mem (s.regs.xbase.toNat + 4096 + 4096 * p.page.val + 4 * (p.used + k)) [r.words.getD k 0]
        ex.grant := none
        rw.queue := rest
        rw.pinned := false
        ctrl.power := some { placed := q.placed + 1, closing := decide (15 ≤ q.placed) || rest.isEmpty }
        rw.page := some
          { p with
            used := p.used + r.words.length, count := p.count + 1, first := some (p.first.getD r.serial), phase := .rest,
            closeWith := if decide (15 ≤ q.placed) || rest.isEmpty then some 0x10 else none,
            flush := if p.first.isNone then some (0, halfUp (s.ex.flushMs * 8192) 1000) else p.flush } }) := by
  obtain ⟨hpower, hr, hb, htaken, hcap⟩ := h
  have hdone := (completeWriter_record (s := { s with
    mem := Memory.writeWords s.mem (pageWordAddr s.regs.xbase p.page (p.used + k)) [r.words.getD k 0], ex.grant := none })
    hp hph hq).trans (if_neg (by omega))
  refine exec_failWrite hg (writerRequest_record hp hph hq) hdone hr ?_
  rw [hpower]
  refine (pfProgress_page (q := { q with placed := q.placed + 1 }) (p := p.placed r s.ex.flushMs)
    (by exact ⟨rfl, hr, hb, htaken, hcap⟩) (by rfl)).trans ?_
  have hspent : PowerSeq.spent { q with placed := q.placed + 1 } rest = (decide (15 ≤ q.placed) || rest.isEmpty) :=
    congrArg (· || rest.isEmpty) (decide_eq_decide.mpr (Nat.succ_le_succ_iff (a := 15)))
  obtain ⟨placed, closing⟩ := q
  obtain ⟨page, taken, header, used, count, first, flush, closeWith, noted, phase⟩ := p
  subst hclosing hc
  cases hlast : decide (15 ≤ placed) || rest.isEmpty with
  | true => exact (if_pos ⟨rfl, rfl, hspent.trans hlast⟩).trans rfl
  | false => exact (if_neg fun h => Bool.false_ne_true ((hspent.trans hlast).symm.trans h.2.2)).trans rfl

/-- Settles O21: PFI released, the pages taken and asked to close, a record placed, a page closed, and a bus error. -/
theorem powerFailEnds : Obligations.PowerFailEnds := by
  unfold Obligations.PowerFailEnds
  intro ended
  have hended {s t : State} (h : SequenceOver s t) : ended s t :=
    ⟨h.power, h.shows, h.queue, h.capture, h.waiting, h.curve, h.classes, h.lostVehicle, h.lostOther, h.pulses, h.discarded, h.timers⟩
  refine ⟨fun s hrun => answerNext_eq (if_neg hrun), fun s hrun => ?_, fun s hrun hidle hb hr hno htaken hcap => ?_,
    fun p r rest k q s h hclosing hg hp hph hc hq hk => ?_, fun p q s h hg hp hph => ?_, fun r q s hq hg => ?_⟩
  · obtain ⟨t, hexec, hready⟩ := pfiReleased_ready hrun
    exact ⟨t, hexec, hready.run, hready.settings, hready.sensors.loops, hready.sensors.link, hready.sensors.inputs,
      fun p => by rw [hready.sensors.probes]; exact restarted_get s p, hready.timers, hready.sweepTimer, hready.powerFail, hready.det,
      hready.veh, hready.cal, hready.table, hready.lists⟩
  · have hstill : s.Still := ⟨hno, htaken, hcap, hb, hr⟩
    have hplaces := failing_still hstill
    refine ⟨fun p rest hpage hqueue hlist => ?_, fun p hpage hph => ?_, fun p hpage hph hc hqueue => ?_, fun hpage hlist => ?_⟩
    · have hexec := exec_pfiAsserted_goes hrun hidle hstill (pfProgress_takes hplaces hpage rfl (by decide) hqueue hlist)
      refine ⟨_, ResultPage.fresh p s.clock, hexec, (settleDown_run _).trans hrun, settleDown_ctrl_power _, settleDown_rw_queue _,
        settleDown_ex_resultList _,
        ?_, rfl, rfl, rfl⟩
      rw [settleDown_rw, advanceWriter_busy rfl (fun h => WritePhase.noConfusion (show WritePhase.takeEntry = .rest from h))]
      rfl
    · have hexec := exec_pfiAsserted_goes hrun hidle hstill
        ((pfProgress_page hplaces hpage).trans (if_neg fun h => hph h.1))
      refine ⟨_, hexec, (settleDown_run _).trans hrun, settleDown_ctrl_power _, settleDown_rw_queue _, ?_⟩
      rw [settleDown_rw, advanceWriter_busy (by exact hpage) hph]
      exact hpage
    · have hexec := exec_pfiAsserted_goes hrun hidle hstill
        ((pfProgress_page hplaces hpage).trans (if_pos ⟨hph, by rw [hc]; rfl, by
          show (_ || s.rw.queue.isEmpty) = true
          rw [hqueue]
          rfl⟩))
      refine ⟨_, hexec, (settleDown_run _).trans hrun, settleDown_ctrl_power _, ?_⟩
      rw [settleDown_rw, advanceWriter_closing rfl (by exact hb) (by exact hr) rfl]
      exact congrArg (fun ph => some { p with closeWith := some 0x10, phase := ph }) (if_pos hph)
    · obtain ⟨t, hexec, hfails, hover⟩ := pfiAsserted_fails (by rw [hrun]; rfl) hidle hstill hpage (.inr hlist)
      exact ⟨t, hexec, hfails.run, hended (hover.of_same rfl rfl rfl id rfl rfl rfl)⟩
  · intro last
    exact exec_failPlaced h hclosing hg hp hph hc hq hk
  · refine ⟨fun x rest hclosing hn hqueue hlist => ?_, fun hdone => ?_⟩
    · have hexec := exec_failWrite hg (writerRequest_closeEntry hp hph) (completeWriter_closes (by exact hp) hph) h.2.1
        (pfProgress_takes (q := q) (by exact h) rfl hclosing hn hqueue hlist)
      refine ⟨_, ResultPage.fresh x s.clock, hexec, settleDown_run _, (settleDown_ctrl_power _).trans h.1, settleDown_rw_queue _,
        settleDown_ex_closures _, ?_, rfl, rfl, settleDown_ex_resultList _⟩
      rw [settleDown_rw, advanceWriter_busy rfl (fun h => WritePhase.noConfusion (show WritePhase.takeEntry = .rest from h))]
      rfl
    · have hexec := exec_failWrite hg (writerRequest_closeEntry hp hph) (completeWriter_closes (by exact hp) hph) h.2.1
        (pfProgress_ends (q := q) (by exact h) rfl hdone)
      refine ⟨_, hexec, ?_, ?_, ?_, ?_, hended ((endPowerFail_over _).settle_down.of_same rfl rfl rfl id rfl rfl rfl)⟩
      · rw [settleDown_run, endPowerFail_run]
      · rw [settleDown_page_none (endPowerFail_page _)]
      · rw [settleDown_ex_closures, (endPowerFail_kept _).2.2]
      · rw [settleDown_ex_table, (endPowerFail_kept _).2.1]
        exact Tab.get_set_same ..
  · obtain ⟨hexec, hover, hpins, hfault⟩ := busError_over hq hg
    refine ⟨_, hexec, ?_, ?_, hended hover.settle_down, fun p hp => ?_⟩
    · rw [settleDown_run, endPowerFail_run, closeResultPage_pins, hpins]
    · rw [settleDown_regs, (endPowerFail_kept _).1, closeResultPage_regs, hfault]
    · rw [settleDown_page_stopped (.inl (by rw [(endPowerFail_kept _).1, closeResultPage_regs, hfault])), endPowerFail_page] at hp
      obtain ⟨p', -, rfl⟩ := Option.map_eq_some_iff.mp hp
      rw [hfault, askClose_fault]
      show (p'.noted ||| 0x10).getLsbD 4 = true
      rw [BitVec.getLsbD_or]
      exact Bool.or_true _

end Sys2Proof.Machine
end

section
/-!
PROOFS. A soft restart (R146, R172).
-/

namespace Sys2Proof.Machine

section
variable {s t u v : State} {p : ResultPage}

/-! ### The records and serials of closes with no drain under way -/

theorem closeContext_undrained_eq {l : Lane} {k : Slot} {c : Context} (x : CloseCause) (hc : s.context l k = some c)
    (h : s.ctrl.drain = none) : closeContext l k x s
      = captureClosed c.serial (setContext l k none (if c.axles.isEmpty then s else closeStages l c x s)) := by
  rw [closeContext_some x hc, testDrain_undrained]
  rw [closeBody_frame l k c x s]
  exact h

theorem closeContext_undrained_made (l : Lane) (k : Slot) (x : CloseCause) (h : s.ctrl.drain = none) :
    Made s (closeContext l k x s) ∧ (closeContext l k x s).veh.serial = s.veh.serial := by
  cases hc : s.context l k with
  | none =>
    rw [closeContext_absent x hc]
    exact ⟨.refl s, rfl⟩
  | some c =>
    rw [closeContext_undrained_eq x hc h]
    refine ⟨closeBody_made l k c x s, ?_⟩
    rw [captureClosed_veh]
    show (if c.axles.isEmpty then s else closeStages l c x s).veh.serial = _
    split
    · rfl
    · rw [closeStages_veh]

theorem truncateAll_undrained_made (h : s.ctrl.drain = none) :
    Made s (truncateAll s) ∧ (truncateAll s).veh.serial = s.veh.serial := by
  have hfold (ls : List Lane) (u : State) (hu : u.ctrl.drain = none) :
      Made u (ls.foldl (fun t l => truncateLane l t) u) ∧ (ls.foldl (fun t l => truncateLane l t) u).veh.serial = u.veh.serial := by
    induction ls generalizing u with
    | nil => exact ⟨.refl u, rfl⟩
    | cons l rest ih =>
      have hclosing := closeContext_undrained l .closingSlot .truncated hu
      have hdrain : (closeContext l .closingSlot .truncated u).ctrl.drain = none := by rw [hclosing]; exact hu
      have hopen := closeContext_undrained l .openSlot .truncated hdrain
      obtain ⟨hmade, hserial⟩ := closeContext_undrained_made l .closingSlot .truncated hu
      obtain ⟨hmade', hserial'⟩ := closeContext_undrained_made l .openSlot .truncated hdrain
      obtain ⟨hrest, hrest'⟩ := ih (truncateLane l u) (by rw [truncateLane, hopen]; exact hdrain)
      exact ⟨(hmade.trans hmade').trans hrest, hrest'.trans (hserial'.trans hserial)⟩
  rw [truncateAll_eq]
  exact hfold _ s h

/-! ### Up to the steps of HALT (R172 steps 1 to 3) -/

/-- The part in a soft restart before its contexts are truncated. -/
def beforeRestart (s : State) : State := beforeTruncating .restart (quietTriggers (abandonOrders dirRestart (stopRunTimers s)))

theorem restartHalt_truncates (s : State) : restartHalt s = emptyRowLists (truncateAll (beforeRestart s)) := rfl

theorem beforeRestart_frame (s : State) : ∃ taken curve classes,
    abandonOrders 0x08 (stopRunTimers s) = { stopRunTimers s with ex.taken := taken, temp.shadow := curve, cls.shadow := classes }
    ∧ beforeRestart s = { s with
      det.chans := Tab.fill 16 .off, det.hits := { a := [], b := [] }, ctrl.drain := none, ctrl.quietTimer := none, ctrl.settle := none
      cap.st := (stopCapture .restart s).cap.st, ex.taken := taken, temp.shadow := curve, cls.shadow := classes
      trig := (quietTriggers s).trig } := by
  obtain ⟨taken, curve, classes, h⟩ := abandonOrders_frame 0x08 (stopRunTimers s)
  refine ⟨taken, curve, classes, h, ?_⟩
  have hcap : (stopCapture .restart (quietTriggers { stopRunTimers s with ex.taken := taken, temp.shadow := curve, cls.shadow := classes })).cap.st
      = (stopCapture .restart s).cap.st := stopCapture_st_of rfl rfl
  unfold beforeRestart
  rw [show dirRestart = 0x08 from rfl, h, beforeTruncating_frame, hcap]
  rfl

/-- What the steps of a soft restart up to those of HALT leave. -/
structure RestartHalted (s h : State) : Prop where
  nothing : h.NothingMeasured
  settings : h.settings = s.settings
  clock : h.clock = s.clock
  busFault : h.regs.busFault = s.regs.busFault
  power : h.ctrl.power = s.ctrl.power
  ex : h.ex = { s.ex with taken := h.ex.taken }
  orders : s.OrdersAbandoned h 0x08
  quiet : ∀ n, (h.trig.sets.get n).enabled = false ∧ (h.trig.sets.get n).timer = .stopped
  created : s.rw.created ≤ h.rw.created
  queue : s.rw.queue.length ≤ h.rw.queue.length
  page : h.rw.page = s.rw.page
  head : s.rw.pinned = true → ∀ r rest, s.rw.queue = r :: rest → ∃ rest', h.rw.queue = r :: rest'
  serial : h.veh.serial = s.veh.serial
  stays : CaptureStays (beforeRestart s) h
  untouched : s.noContext = true → h.cap = (beforeRestart s).cap
  idle : s.capturing = false → h.cap.st = .idle

theorem quietTriggers_quiet (s : State) (n : SetId) :
    ((quietTriggers s).trig.sets.get n).enabled = false ∧ ((quietTriggers s).trig.sets.get n).timer = .stopped := by
  have hget : (quietTriggers s).trig.sets.get n = { s.trig.sets.get n with enabled := false, timer := .stopped } := Tab.get_map ..
  rw [hget]
  exact ⟨rfl, rfl⟩

theorem restartHalt_halted (s : State) : RestartHalted s (restartHalt s) := by
  obtain ⟨taken, curve, classes, horders, hbefore⟩ := beforeRestart_frame s
  have hnow := abandonOrders_abandoned 0x08 (stopRunTimers s)
  rw [horders] at hnow
  have hdrain : (beforeRestart s).ctrl.drain = none := by rw [hbefore]
  have hdisabled : (beforeRestart s).SetsDisabled := fun n => by
    rw [hbefore]
    exact (quietTriggers_quiet s n).1
  have hframe := truncateAll_undrained hdrain
  obtain ⟨hmade, hserial⟩ := truncateAll_undrained_made hdrain
  have hquiet := truncateAll_quiet (beforeRestart s) hdisabled
  have hstays := (truncateAll_stays (beforeRestart s)).trans (emptyRowLists_stays _)
  have hnothing := restartHalt_nothing s
  have hset : (restartHalt s).settings = s.settings := by simp [restartHalt]
  rw [restartHalt_truncates] at hnothing hset ⊢
  have hempty : s.noContext = true → truncateAll (beforeRestart s) = beforeRestart s := fun hno =>
    truncateAll_idle (by rw [hbefore]; exact hno)
  generalize truncateAll (beforeRestart s) = w at *
  refine ⟨hnothing, hset, ?_, ?_, ?_, ?_, ?_, fun n => ?_, ?_, ?_, ?_, fun hpin r rest hq => ?_, ?_, hstays, fun hno => ?_, fun hidle => ?_⟩
  · rw [emptyRowLists_clock, hframe, hbefore]
  · rw [emptyRowLists_regs, hframe, hbefore]
  · rw [emptyRowLists_ctrl, hframe, hbefore]
  · rw [emptyRowLists_ex, hframe, hbefore]
  · have hnow : s.OrdersAbandoned _ 0x08 := hnow.of_same rfl rfl rfl
    refine hnow.later ?_ ?_ ?_
    · rw [emptyRowLists_ex, hframe, hbefore]
    · rw [emptyRowLists_temp, hframe, hbefore]
      exact id
    · rw [emptyRowLists_cls, hframe, hbefore]
      exact id
  · rw [emptyRowLists_trig, hquiet.trig, hbefore]
    exact quietTriggers_quiet s n
  · rw [emptyRowLists_rw]
    have := hmade.created
    rwa [hbefore] at this
  · rw [emptyRowLists_rw]
    have := hmade.queue
    rwa [hbefore] at this
  · rw [emptyRowLists_rw, hmade.page, hbefore]
  · rw [emptyRowLists_rw]
    exact (hmade.head (by rw [hbefore]; exact hpin) r rest (by rw [hbefore]; exact hq)).2
  · rw [emptyRowLists_veh, hserial, hbefore]
  · rw [emptyRowLists_cap, hempty hno]
  · have hst : (beforeRestart s).cap.st = .idle := by
      rw [hbefore]
      exact stopCapture_waiting .restart hidle
    rw [emptyRowLists_cap, hquiet.cap fun c hc => by rw [hst] at hc; cases hc]
    exact hst

/-! ### From the close of the page on (R172 steps 4 to 6) -/

/-- What a soft restart does behind the steps of HALT. -/
def State.cleared (h : State) : State := { restartClear h with run := .ready }

theorem askClose_phase (b r : Bool) (f : BitVec 6) (p : ResultPage) : (p.askClose b r f).phase = p.phase := by
  unfold ResultPage.askClose
  repeat' first | rfl | split

theorem closeForRestart_writing (h : State) : (closeForRestart h).writingRecord = h.writingRecord := by
  have hpage : (closeForRestart h).rw.page = h.rw.page.map (ResultPage.askClose h.regs.busFault h.ex.resuming 0x08) := rfl
  unfold State.writingRecord
  rw [hpage]
  cases h.rw.page with
  | none => rfl
  | some p =>
    dsimp only [Option.map_some]
    rw [askClose_phase]

theorem cleared_queue (h : State) : h.cleared.rw.queue = if h.writingRecord then h.rw.queue.take 1 else [] := by
  rw [← closeForRestart_writing]
  rfl

theorem cleared_page (h : State) : h.cleared.rw.page
    = h.rw.page.map (ResultPage.askClose h.regs.busFault h.ex.resuming 0x08) := rfl

theorem cleared_noPage (h : State) : h.cleared.regs.noPage = (h.regs.noPage
    || (h.rw.page.isSome && (!h.regs.busFault && (h.ex.resultList.isEmpty
      && decide (0 < h.rw.queue.length - b2n h.writingRecord))))) := rfl

/-- What the steps behind those of HALT keep. -/
theorem cleared_kept (h : State) : h.cleared.settings = h.settings ∧ h.cleared.regs.busFault = h.regs.busFault ∧ h.cleared.cap = h.cap
    ∧ h.cleared.ex = { h.ex with stray := 0 } ∧ h.cleared.temp.shadow = h.temp.shadow ∧ h.cleared.cls = h.cls
    ∧ h.cleared.trig.sets = h.trig.sets ∧ h.cleared.rw.created = h.rw.created ∧ h.cleared.veh.serial = h.veh.serial :=
  ⟨rfl, rfl, rfl, rfl, rfl, rfl, rfl, rfl, rfl⟩

theorem softRestart_idle (hidle : s.powerIdle = true) : softRestart s = (restartHalt s).cleared := by
  have hpower := (restartHalt_halted s).power
  rw [softRestart_eq]
  generalize restartHalt s = h at *
  refine pfProgress_idle ?_
  show h.powerIdle = true
  unfold State.powerIdle at hidle ⊢
  rw [hpower]
  exact hidle

/-- A record is being written exactly in a page's record phase. -/
theorem writingRecord_false (h : ∀ p k, s.rw.page = some p → p.phase ≠ .record k) : s.writingRecord = false := by
  unfold State.writingRecord
  split
  · rename_i p hp
    split
    · rename_i k hk
      exact absurd hk (h p k hp)
    · rfl
  · rfl

variable {h : State}

theorem RestartHalted.abandons (hh : RestartHalted s h) : s.OrdersAbandoned (settleDown h.cleared) 0x08 := by
  obtain ⟨-, -, -, hex, hcurve, hclasses, -⟩ := cleared_kept h
  refine hh.orders.later ?_ ?_ ?_
  · rw [settleDown_ex_taken, hex]
  · rw [settleDown_temp, hcurve]
    exact id
  · rw [settleDown_cls, hclasses]
    exact id

theorem RestartHalted.capture (hh : RestartHalted s h) : s.CaptureStopped (settleDown h.cleared) .restart 0x08 := by
  obtain ⟨taken, curve, classes, -, hbefore⟩ := beforeRestart_frame s
  obtain ⟨hsets, hbus, hcleared, -⟩ := cleared_kept h
  have hcap : (beforeRestart s).cap = (stopCapture .restart s).cap := by rw [hbefore, stopCapture_frame]
  have hset : (beforeRestart s).settings = s.settings := hh.stays.settings.symm.trans hh.settings
  exact captureStopped_of (r := .restart) (u := h.cleared) hcap (by rw [hbefore]) (mayArm_of_settings hset)
    (hh.stays.trans (.of_cap hcleared hbus hsets)) (fun hno => hcleared.trans (hh.untouched hno)) (settleDown_cap _)

theorem RestartHalted.captureIdle (hh : RestartHalted s h) (hidle : s.capturing = false) : (settleDown h.cleared).cap.st = .idle := by
  obtain ⟨-, -, hcleared, -⟩ := cleared_kept h
  have hst : h.cleared.cap.st = .idle := by rw [hcleared, hh.idle hidle]
  rw [settleDown_cap, advanceTrace_idle (capturing_false.mpr (.inl hst)), hst]

/-- The result page at a soft restart, the command over. -/
theorem RestartHalted.closes (hh : RestartHalted s h) (hp : s.rw.page = some p) :
    (s.regs.busFault = true → (settleDown h.cleared).rw.page = some { p with noted := p.noted ||| 0x08 })
    ∧ (s.regs.busFault = false → s.ex.resuming = false → (settleDown h.cleared).rw.page = some
      { p with closeWith := some (p.closeWith.getD 0x08), phase := if p.phase = .rest then .closeEntry else p.phase }) := by
  obtain ⟨-, hbus, -, hex, -⟩ := cleared_kept h
  have hpage := cleared_page h
  have hresuming : h.ex.resuming = s.ex.resuming := by rw [hh.ex]
  rw [hh.page, hp, hh.busFault, hresuming] at hpage
  refine ⟨fun hb => ?_, fun hb hr => ?_⟩
  · rw [settleDown_page_stopped (.inl (by rw [hbus, hh.busFault, hb])), hpage, hb]
    rfl
  · rw [hb, hr] at hpage
    have hask : p.askClose false false 0x08 = { p with closeWith := some (p.closeWith.getD 0x08) } := by
      cases hc : p.closeWith with
      | none => exact askClose_first false 0x08 hc
      | some g => exact (askClose_again false 0x08 hc).trans rfl
    rw [settleDown_rw, advanceWriter_closing (by exact hpage) (by show h.cleared.regs.busFault = false; rw [hbus, hh.busFault, hb])
      (by show h.cleared.ex.resuming = false; rw [hex, hresuming, hr]) (by rw [hask]; rfl), hask]

theorem exec_softRestart {attn : Bool} (he : s.regs.enable = true) (hrun : s.run ≠ .powerFail) :
    exec (.softRestart attn) s = .next (settleDown (softRestart (s.enabled attn)))
      ∧ exec (.enable true attn) s = .next (settleDown (softRestart (s.enabled attn))) := by
  have hwrite : controlWrite true true attn s = softRestart (s.enabled attn) := by
    unfold controlWrite
    rw [he, if_pos rfl, if_pos rfl, if_pos ⟨rfl, hrun⟩, State.enabled]
  exact ⟨answerNext_eq hwrite, answerNext_eq hwrite⟩

/-- What a soft restart leaves, but for the order page and the capture. -/
structure Restarted (s t : State) : Prop where
  run : t.run = .ready
  settings : t.settings = s.settings
  chans : ∀ c, t.det.chans.get c = .off
  hits : t.det.hits.a = [] ∧ t.det.hits.b = []
  rowA : t.axle.rowA = []
  noContext : t.noContext = true
  quiet : ∀ n, (t.trig.sets.get n).enabled = false ∧ (t.trig.sets.get n).timer = .stopped
  counters : t.veh.vehicles = 0 ∧ t.veh.axles = 0 ∧ t.det.aborted = 0 ∧ t.det.lost = 0 ∧ t.rw.lostVehicle = 0 ∧ t.rw.lostOther = 0
    ∧ t.ex.stray = 0 ∧ t.link.gaps = 0 ∧ t.trig.dropped = 0 ∧ t.trig.discarded = 0 ∧ t.cal.rejected = 0
  emptied : (∀ p k, s.rw.page = some p → p.phase ≠ .record k) → t.rw.queue = []
  writing : ∀ p k, s.WriterConsistent → s.rw.page = some p → p.phase = .record k →
    ∃ r rest, s.rw.queue = r :: rest ∧ t.rw.queue = [r]
  noPage : ∀ p, s.rw.page = some p → (∀ k, p.phase ≠ .record k) → s.rw.queue ≠ [] → s.regs.busFault = false → s.ex.resultList = [] →
    t.regs.noPage = true
  pageNone : s.rw.page = none → t.rw.page = none
  summary : t.temp.summary.short = true ∧ t.temp.summary.start = s.clock / 8192
  created : s.rw.created ≤ t.rw.created
  closures : t.ex.closures = s.ex.closures
  serial : t.veh.serial = s.veh.serial

theorem RestartHalted.restarted (hh : RestartHalted s h) : Restarted s (settleDown h.cleared) := by
  have hnothing : h.cleared.NothingMeasured := ⟨hh.nothing.channels, hh.nothing.hits, hh.nothing.rowA, hh.nothing.contexts⟩
  obtain ⟨hsets, -, -, hex, -, -, htrig, hcreated, hserial⟩ := cleared_kept h
  refine ⟨settleDown_run _, (settleDown_settings _).trans (hsets.trans hh.settings), fun c => ?_, ?_, ?_, ?_, fun n => ?_, ?_,
    fun hphase => ?_, fun p k hwriter hp hk => ?_, fun p hp hk hq hb hlist => ?_, fun hp => ?_, ?_, ?_, ?_, ?_⟩
  · rw [settleDown_det, hnothing.channels]
  · rw [settleDown_det]
    exact hnothing.hits
  · rw [settleDown_axle, hnothing.rowA]
  · rw [settleDown_noContext]
    exact hnothing.contexts
  · rw [settleDown_trig, htrig]
    exact hh.quiet n
  · rw [settleDown_veh, settleDown_det, settleDown_rw_lostVehicle, settleDown_rw_lostOther, settleDown_ex_stray, settleDown_link,
      settleDown_trig, settleDown_cal]
    exact ⟨rfl, rfl, rfl, rfl, rfl, rfl, rfl, rfl, rfl, rfl, rfl⟩
  · rw [settleDown_rw_queue, cleared_queue, writingRecord_false (by rw [hh.page]; exact hphase)]
    rfl
  · obtain ⟨hpin, hne⟩ := hwriter.writing p k hp hk
    obtain ⟨r, rest, hq⟩ := List.exists_cons_of_ne_nil hne
    obtain ⟨rest', hq'⟩ := hh.head hpin r rest hq
    refine ⟨r, rest, hq, ?_⟩
    rw [settleDown_rw_queue, cleared_queue, writingRecord_of_phase (hh.page.trans hp) hk, hq']
    rfl
  · have hlen := hh.queue
    have hpos := List.length_pos_iff.mpr hq
    have hwriting : h.writingRecord = false := writingRecord_false fun p' k hp' => by
      rw [hh.page, hp] at hp'
      cases hp'
      exact hk k
    rw [settleDown_regs, cleared_noPage, hh.page, hp, hh.busFault, hb, hh.ex, hlist, hwriting,
      decide_eq_true (by show 0 < _ - 0; omega)]
    exact Bool.or_true _
  · rw [settleDown_page_none]
    rw [cleared_page, hh.page, hp]
    rfl
  · rw [settleDown_temp]
    exact ⟨rfl, congrArg (· / 8192) hh.clock⟩
  · rw [settleDown_rw_created, hcreated]
    exact hh.created
  · rw [settleDown_ex_closures, hex, hh.ex]
  · rw [settleDown_veh, hserial]
    exact hh.serial

end

/-- Settles O17: what a soft restart leaves of run, triggers, counters and queue, of the pages, and of the capture. -/
theorem softRestartClears : Obligations.SoftRestartClears := by
  intro attn s he hworks hidle
  have hrun : s.run ≠ .powerFail := fun e => by rw [e] at hworks; cases hworks
  obtain ⟨hexec, hexec'⟩ := exec_softRestart (attn := attn) he hrun
  rw [softRestart_idle (by exact hidle)] at hexec hexec'
  have hhalted := restartHalt_halted (s.enabled attn)
  generalize restartHalt (s.enabled attn) = w at *
  have h := hhalted.restarted
  have horders := hhalted.abandons
  have hcapture := hhalted.capture
  have hcapIdle := hhalted.captureIdle
  have hpage (p : ResultPage) (hp : s.rw.page = some p) := hhalted.closes (p := p) hp
  generalize settleDown w.cleared = t at *
  have hset : t.settings = { s.settings with attnEn := attn } := by
    rw [h.settings]
    show ({ s.settings with enable := true, attnEn := attn } : Settings) = _
    rw [← he]
    rfl
  exact ⟨t, hexec, hexec', h.run, hset, h.chans, h.hits.1, h.hits.2, h.rowA, h.noContext, h.quiet, h.counters, h.emptied,
    fun p k hw => h.writing p k ⟨hw.writing, hw.faulted⟩, h.noPage, h.pageNone, hpage, horders.2, hcapIdle, fun c hc => ⟨(hcapture.2.2 c hc).1, fun pg hb hk hp => ((hcapture.2.2 c hc).2 pg hb hk hp).1⟩,
    h.summary.1, h.summary.2, h.created, h.closures, h.serial⟩

end Sys2Proof.Machine
end

section
/-!
PROOFS. A disable (R146, R166, R173).
-/

namespace Sys2Proof.Machine

section
variable {s t u w : State} {attn : Bool}

/-! ### The steps that measure and trigger no more (R173 steps 1 and 2) -/

theorem endMeasuring_counted (s : State) : Counted s (endMeasuring s) := by
  have hstop : Counted s (stopMeasuring s) := .of_same rfl rfl rfl rfl
  have hempty (u : State) : Counted u (emptyRowLists u) := .of_same rfl rfl rfl rfl
  exact (hstop.trans (truncateAll_counted _)).trans (hempty _)

/-- What the steps leave: the capture unit IDLE, every set disabled, the schedules empty, and every record queued or counted. -/
structure StepsDisabled (s w : State) : Prop where
  capture : w.cap.st = .idle
  quiet : ∀ n, (w.trig.sets.get n).enabled = false ∧ (w.trig.sets.get n).timer = .stopped
  pulses : ∀ l, (w.trig.lines.get l).pulses = []
  discarded : w.trig.discarded = raised s.trig.discarded s.pulseCount
  counted : Counted s w
  rw : s.run.measures = false → w.rw = s.rw
  nothing : s.run.measures = true → w.NothingMeasured

theorem disableSteps_disabled (attn : Bool) (s : State) : StepsDisabled s (disableSteps s.run.measures (markDisabled attn s)) := by
  have htrig := (disableSteps_quiet s.run.measures (markDisabled attn s)).trig
  have hcap := disableSteps_cap s.run.measures (markDisabled attn s) rfl
  refine ⟨by rw [hcap]; rfl, fun n => ?_, fun l => ?_, ?_, ?_, fun hm => ?_, fun hm => ?_⟩
  · rw [htrig]
    exact quietTriggers_quiet s n
  · rw [htrig]
    exact discardPulses_lines _ l
  · rw [htrig]
    exact discardPulses_count s
  · have hstart : Counted s (discardPulses (quietTriggers (stopRunTimers (markDisabled attn s)))) := .of_same rfl rfl rfl rfl
    unfold disableSteps
    dsimp only
    split
    · exact hstart.trans (endMeasuring_counted _)
    · exact hstart
  · rw [hm]
    rfl
  · rw [hm]
    exact endMeasuring_nothing _

/-! ### Pages, records and sensors forgotten (R173 steps 3 to 6) -/

/-- The part once its pages are forgotten and its sensors stopped, its records not yet. -/
def State.stopped (w : State) : State := stopSensors { dropShadows (forgetPages w) with run := .disabled, history.frames := [] }

theorem stopped_frame (w : State) : w.stopped =
    { w with
      run := .disabled, history.frames := [], loops := Tab.fill 4 .vacant
      link := { w.link with ref := none, silence := none, fault := false }
      temp := { w.temp with shadow := none, round := none, line := none, summary := { w.temp.summary with short := true } }
      cls.shadow := none, rw.page := none, trig.waiting := []
      ex := { w.ex with
        table := Tab.fill 64 .notMine, resultList := [], traceList := [], orderList := [], taken := none, handovers := [], work := none
        sweepAt := none, sweepTimer := none, resuming := false, grant := none } } := rfl

/-- Nothing asks for the port where no page is held and no entry looked at. -/
theorem settleDown_forgotten (hpage : u.rw.page = none) (hcap : u.cap.st = .idle) (htaken : u.ex.taken = none) (hw : u.ex.work = none)
    (hat : u.ex.sweepAt = none) (hg : u.ex.grant = none) : settleDown u = quietUpdate u := by
  have hwriter : advanceWriter (quietUpdate u) = quietUpdate u := advanceWriter_none hpage
  have htrace : advanceTrace (quietUpdate u) = quietUpdate u := advanceTrace_idle (capturing_false.mpr (.inl hcap))
  have hsweeper : advanceSweeper (quietUpdate u) = quietUpdate u := advanceSweeper_rest (.inl hat)
  have hnone (r : Requester) : u.request r = none :=
    requests_none (fun p hp => by rw [hpage] at hp; cases hp) (fun c pg hc _ => by rw [hcap] at hc; cases hc)
      (fun x hx => by rw [htaken] at hx; cases hx) hw r
  have hquiet (r : Requester) : (quietUpdate u).request r = u.request r := by cases r <;> rfl
  have ha : arbitrate (quietUpdate u) = quietUpdate u := by
    have hgrant : (quietUpdate u).ex.grant = none := hg
    rw [arbitrate_free fun r hr => (by cases hgrant.symm.trans hr), highest_none.mpr fun q => (hquiet q).trans (hnone q)]
    exact (grant_self hgrant).symm
  unfold settleDown
  rw [hwriter, htrace, hsweeper, ha]

/-- The part disabled, the command over. -/
structure PartDisabled (s t : State) : Prop where
  run : t.run = .disabled
  table : ∀ p, t.ex.table.get p = .notMine
  ex : t.ex.resultList = [] ∧ t.ex.traceList = [] ∧ t.ex.orderList = [] ∧ t.ex.handovers = [] ∧ t.ex.taken = none
    ∧ t.ex.sweepTimer = none ∧ t.ex.grant = none
  page : t.rw.page = none
  queue : t.rw.queue = []
  history : t.history.frames = []
  loops : ∀ l, t.loops.get l = .vacant
  link : t.link.ref = none ∧ t.link.silence = none ∧ t.link.fault = false
  quiet : ∀ n, (t.trig.sets.get n).enabled = false ∧ (t.trig.sets.get n).timer = .stopped
  pulses : ∀ l, (t.trig.lines.get l).pulses = []
  temp : t.temp.shadow = none ∧ t.cls.shadow = none ∧ t.temp.line = none
  capture : t.cap.st = .idle
  short : t.temp.summary.short = true
  nothing : s.run.measures = true → (∀ c, t.det.chans.get c = .off) ∧ t.noContext = true ∧ t.axle.rowA = []
  discarded : t.trig.discarded = raised s.trig.discarded s.pulseCount

/-- How the records are counted lost (R166). -/
structure RecordsLost (s t : State) : Prop where
  unmeasured : s.run.measures = false → t.rw.lostVehicle = raisedEach s.rw.lostVehicle (queuedOf true s.rw.queue)
    ∧ t.rw.lostOther = raisedEach s.rw.lostOther (queuedOf false s.rw.queue)
  measured : s.rw.lostVehicle + s.rw.lostOther + s.rw.queue.length + (t.rw.created - s.rw.created) ≤ 4294967295 →
    s.rw.lostVehicle + queuedOf true s.rw.queue ≤ t.rw.lostVehicle ∧ s.rw.lostOther + queuedOf false s.rw.queue ≤ t.rw.lostOther
      ∧ t.rw.lostVehicle + t.rw.lostOther = s.rw.lostVehicle + s.rw.lostOther + s.rw.queue.length + (t.rw.created - s.rw.created)

theorem raisedEach_room {n k : Nat} (h : n + k ≤ 4294967295) : raisedEach n k = n + k := by
  unfold raisedEach raised
  split <;> omega

theorem StepsDisabled.lost (h : StepsDisabled s w) (hcreated : t.rw.created = w.rw.created)
    (hvehicle : t.rw.lostVehicle = raisedEach w.rw.lostVehicle (queuedOf true w.rw.queue))
    (hother : t.rw.lostOther = raisedEach w.rw.lostOther (queuedOf false w.rw.queue)) : RecordsLost s t := by
  refine ⟨fun hm => ?_, fun hb => ?_⟩
  · rw [hvehicle, hother, h.rw hm]
    exact ⟨rfl, rfl⟩
  · have hboth := queuedOf_both s.rw.queue
    rw [hcreated] at hb ⊢
    have hst : s.owed true = s.rw.lostVehicle + queuedOf true s.rw.queue := rfl
    have hsf : s.owed false = s.rw.lostOther + queuedOf false s.rw.queue := rfl
    have hwt : w.owed true = w.rw.lostVehicle + queuedOf true w.rw.queue := rfl
    have hwf : w.owed false = w.rw.lostOther + queuedOf false w.rw.queue := rfl
    obtain ⟨hv, ho, hall⟩ := h.counted.owed (by omega)
    rw [hvehicle, hother, raisedEach_room (by omega), raisedEach_room (by omega)]
    omega

theorem queuedOf_true (q : List Rec) : (q.countP fun r => decide (r.kind = .vehicle)) = queuedOf true q :=
  List.countP_congr fun _ _ => by rw [beq_true]

theorem queuedOf_false (q : List Rec) : (q.countP fun r => decide (r.kind ≠ .vehicle)) = queuedOf false q :=
  List.countP_congr fun _ _ => by rw [beq_false, decide_not]

theorem StepsDisabled.forgets (h : StepsDisabled s w) :
    PartDisabled s (settleDown (loseAllRecords w.stopped)) ∧ RecordsLost s (settleDown (loseAllRecords w.stopped)) := by
  obtain ⟨hqueue, hpage, hcreated, hvehicle, hother⟩ := loseAllRecords_rw w.stopped
  have hframe := loseAllRecords_frame w.stopped
  have hkept := stopped_frame w
  rw [queuedOf_true] at hvehicle
  rw [queuedOf_false] at hother
  generalize loseAllRecords w.stopped = u at *
  rw [hkept] at hpage hcreated hvehicle hother hframe
  have hsettled : settleDown u = quietUpdate u :=
    settleDown_forgotten hpage (by rw [hframe]; exact h.capture) (by rw [hframe]) (by rw [hframe]) (by rw [hframe]) (by rw [hframe])
  rw [hsettled]
  refine ⟨⟨?_, ?_, ?_, hpage, hqueue, ?_, ?_, ?_, ?_, ?_, ?_, ?_, ?_, fun hm => ?_, ?_⟩, h.lost hcreated hvehicle hother⟩
  · show u.run = _
    rw [hframe]
  · intro p
    show u.ex.table.get p = _
    rw [hframe]
    exact Tab.get_fill ..
  · show u.ex.resultList = [] ∧ u.ex.traceList = [] ∧ u.ex.orderList = [] ∧ u.ex.handovers = [] ∧ u.ex.taken = none
      ∧ u.ex.sweepTimer = none ∧ u.ex.grant = none
    rw [hframe]
    exact ⟨rfl, rfl, rfl, rfl, rfl, rfl, rfl⟩
  · show u.history.frames = _
    rw [hframe]
  · intro l
    show u.loops.get l = _
    rw [hframe]
    exact Tab.get_fill ..
  · show u.link.ref = none ∧ u.link.silence = none ∧ u.link.fault = false
    rw [hframe]
    exact ⟨rfl, rfl, rfl⟩
  · intro n
    show (u.trig.sets.get n).enabled = false ∧ (u.trig.sets.get n).timer = .stopped
    rw [hframe]
    exact h.quiet n
  · intro l
    show (u.trig.lines.get l).pulses = []
    rw [hframe]
    exact h.pulses l
  · show u.temp.shadow = none ∧ u.cls.shadow = none ∧ u.temp.line = none
    rw [hframe]
    exact ⟨rfl, rfl, rfl⟩
  · show u.cap.st = _
    rw [hframe]
    exact h.capture
  · show u.temp.summary.short = _
    rw [hframe]
  · obtain ⟨hchans, -, hrowA, hcontexts⟩ := h.nothing hm
    show (∀ c, u.det.chans.get c = .off) ∧ u.noContext = true ∧ u.axle.rowA = []
    rw [hframe]
    exact ⟨hchans, hcontexts, hrowA⟩
  · show u.trig.discarded = _
    rw [hframe]
    exact h.discarded

theorem exec_disable {restart : Bool} (he : s.regs.enable = true) :
    exec (.disable restart attn) s = .next (settleDown (disablePart { s with regs.enable := false, regs.attnEn := attn })) := by
  refine answerNext_eq ?_
  unfold controlWrite
  rw [he, if_neg Bool.false_ne_true, if_pos rfl]

end

/-- Settles O16: what a disable leaves of every part, and how the records are counted lost. -/
theorem disableForgets : Obligations.DisableForgets := by
  intro restart attn s he
  have hexec := exec_disable (restart := restart) (attn := attn) he
  have hset : (settleDown (disablePart { s with regs.enable := false, regs.attnEn := attn })).settings
      = { s.settings with enable := false, attnEn := attn } := by
    rw [settleDown_settings, disablePart_settings]
    rfl
  obtain ⟨h, hlost⟩ := (disableSteps_disabled attn s).forgets
  rw [disablePart_eq] at hexec hset
  change exec (.disable restart attn) s
    = .next (settleDown (loseAllRecords (disableSteps s.run.measures (markDisabled attn s)).stopped)) at hexec
  change (settleDown (loseAllRecords (disableSteps s.run.measures (markDisabled attn s)).stopped)).settings = _ at hset
  generalize settleDown (loseAllRecords (disableSteps s.run.measures (markDisabled attn s)).stopped) = t at *
  obtain ⟨hresults, htraces, horders, hhandovers, htaken, hsweep, hgrant⟩ := h.ex
  obtain ⟨hcurve, hclasses, hline⟩ := h.temp
  obtain ⟨href, hsilence, hfault⟩ := h.link
  exact ⟨t, hexec, h.run, hset, h.table, hresults, htraces, horders, hhandovers, htaken, hsweep, hgrant, h.page, h.queue, h.history, h.loops,
    href, hsilence, hfault, h.quiet, h.pulses, hcurve, hclasses, hline, h.capture, h.short, h.nothing, h.discarded,
    hlost.unmeasured, hlost.measured⟩

end Sys2Proof.Machine
end

section
/-!
PROOFS. A frame that arrives: it is accepted, and in a measuring state it drives channels, hits and time mark (R12 to R14, R27,
R30, R33, R42).
-/

namespace Sys2Proof.Machine

/-! ### Outside a drain what follows the channel units leaves them and the run state alone -/

/-- Outside a drain `t` has the run state and the channels of `s`. -/
structure ChannelFrame (s t : State) : Prop where
  kept : s.run ≠ .draining → t.run = s.run ∧ t.det.chans = s.det.chans

section
variable {s t u : State}

theorem ChannelFrame.of_same (hrun : t.run = s.run) (hchans : t.det.chans = s.det.chans) : ChannelFrame s t := ⟨fun _ => ⟨hrun, hchans⟩⟩

theorem ChannelFrame.refl (s : State) : ChannelFrame s s := .of_same rfl rfl

theorem ChannelFrame.trans (h : ChannelFrame s t) (k : ChannelFrame t u) : ChannelFrame s u := by
  refine ⟨fun hs => ?_⟩
  obtain ⟨hrun, hchans⟩ := h.kept hs
  obtain ⟨hrun', hchans'⟩ := k.kept (by rw [hrun]; exact hs)
  exact ⟨hrun'.trans hrun, hchans'.trans hchans⟩

/-- Composition with the later part first, so that the earlier one is checked by computation. -/
theorem ChannelFrame.after (k : ChannelFrame t u) (h : ChannelFrame s t) : ChannelFrame s u := h.trans k

theorem ChannelFrame.foldl {α : Type} (f : State → α → State) (h : ∀ u a, ChannelFrame u (f u a)) (l : List α) (s : State) :
    ChannelFrame s (l.foldl f s) := by
  induction l generalizing s with
  | nil => exact .refl s
  | cons a rest ih => exact (h s a).trans (ih _)

theorem CloseFrame.channel (h : CloseFrame s t) : ChannelFrame s t := .of_same (by rw [h]) (by rw [h])

end

theorem closeContext_channel (l : Lane) (k : Slot) (x : CloseCause) (s : State) : ChannelFrame s (closeContext l k x s) :=
  ⟨fun hs => (closeContext_close l k x s hs).channel.kept hs⟩

theorem closeTest_channel (l : Lane) (k : Slot) (s : State) : ChannelFrame s (closeTest l k s) := by
  unfold closeTest
  split
  · exact .refl s
  · split
    · exact closeContext_channel ..
    · exact .refl s

theorem joinSlot_channel (l : Lane) (k : Slot) (x : Axle) (s : State) : ChannelFrame s (joinSlot l k x s) := by
  unfold joinSlot
  split
  · exact .refl s
  · split
    · exact (closeContext_channel ..).trans (.of_same rfl rfl)
    · exact .of_same rfl rfl

theorem assignAxle_channel (x : Axle) (s : State) : ChannelFrame s (assignAxle x s) := by
  unfold assignAxle
  split
  · exact .refl s
  · dsimp only
    split
    · exact joinSlot_channel ..
    · split <;> exact .of_same rfl rfl

theorem completeAxle_channel (n : Nat) (f : Axle → Axle) (s : State) : ChannelFrame s (completeAxle n f s) := by
  unfold completeAxle
  split
  · exact .refl s
  · split
    · exact .refl s
    · exact (closeTest_channel ..).after (.of_same rfl rfl)

theorem enterRowA_channel (p : RowAxle) (s : State) : ChannelFrame s (enterRowA p s) := by
  unfold enterRowA
  dsimp only
  split
  · exact (assignAxle_channel ..).after (.of_same rfl rfl)
  · split
    · exact (assignAxle_channel ..).after (.of_same rfl rfl)
    · split
      · exact ((completeAxle_channel ..).trans (assignAxle_channel ..)).after (.of_same rfl rfl)
      · exact (assignAxle_channel ..).after (.of_same rfl rfl)

theorem matchRowB_channel (p : RowAxle) (s : State) : ChannelFrame s (matchRowB p s) := by
  unfold matchRowB
  dsimp only
  split
  · exact (completeAxle_channel ..).after (.of_same rfl rfl)
  · exact (assignAxle_channel ..).after (.of_same rfl rfl)

theorem formRowAxle_channel (p : RowAxle) (s : State) : ChannelFrame s (formRowAxle p s) := by
  unfold formRowAxle
  split
  · split
    · exact enterRowA_channel ..
    · exact matchRowB_channel ..
  · exact .refl s

theorem offerHit_channel (h : Hit) (s : State) : ChannelFrame s (offerHit h s) := by
  unfold offerHit
  dsimp only
  split
  · exact .refl s
  · exact (formRowAxle_channel ..).after (.of_same rfl rfl)

theorem enterHit_channel (h : Hit) (s : State) : ChannelFrame s (enterHit h s) := by
  unfold enterHit
  dsimp only
  split
  · split
    · exact .refl s
    · split
      · exact .of_same rfl rfl
      · exact (offerHit_channel ..).after (.of_same rfl rfl)
  · exact (offerHit_channel ..).after (.of_same rfl rfl)

theorem settleHit_channel (c : Chan) (r : ChanResult) (s : State) : ChannelFrame s (settleHit c r s) := by
  unfold settleHit
  split
  · exact .refl s
  · split
    · split
      · exact enterHit_channel ..
      · exact .of_same rfl rfl
    · exact .refl s

theorem expireHits_channel (r : Row) (t : Nat) (s : State) : ChannelFrame s (expireHits r t s) := by
  unfold expireHits
  exact (ChannelFrame.foldl _ (fun u h => formRowAxle_channel (oneWheelAxle h) u) _ _).after (.of_same rfl rfl)

theorem expireAxles_channel (t : Nat) (s : State) : ChannelFrame s (expireAxles t s) := by
  refine .foldl _ (fun u w => ?_) _ _
  exact (completeAxle_channel w.id Axle.single _).after (.of_same rfl rfl)

theorem timeMark_channel (t : Nat) (s : State) : ChannelFrame s (timeMark t s) :=
  ((expireHits_channel ..).trans (expireHits_channel ..)).trans (expireAxles_channel ..)

/-! ### A frame accepted (R12 to R14, R33) -/

section
variable {s : State} {f : Frame}

theorem finding_eq (l : Link) (seq : BitVec 8) : l.finding seq = findingOf l.ref seq := by
  unfold Link.finding findingOf
  cases l.ref with
  | none => rfl
  | some x =>
    obtain ⟨r, n⟩ := x
    have hsteps : (seq - r - 1).toNat = (seq.toNat + 255 - r.toNat) % 256 := by
      have hr := r.isLt
      have hone : BitVec.toNat (1 : BitVec 8) = 1 := rfl
      rw [BitVec.toNat_sub, BitVec.toNat_sub, hone]
      omega
    dsimp only
    rw [hsteps]

/-- The gap counter after a frame. -/
theorem accepted_gaps (k : Finding) (n : Nat) : (if k.counts then satInc n else n) = match k with
    | .gap _ => min 4294967295 (n + 1)
    | .broken => min 4294967295 (n + 1)
    | _ => n := by
  cases k <;> first | rfl | exact satInc_eq n

theorem accepted_eq (f : Frame) (s : State) : s.accepted f = { s with
    link := s.link.accept f.seq s.clock, history := s.history.store s.clock f (findingOf s.link.ref f.seq) } := by
  unfold Link.accept
  rw [finding_eq, accepted_gaps]
  rfl

theorem takeFrame_taken (hworks : s.run.works = true) (h : s.link.ref = none ∨ s.link.silence ≠ some 0) : takeFrame f s =
    if s.run.measures ∧ s.powerIdle = true then detectFrame f (findingOf s.link.ref f.seq) (s.accepted f) else s.accepted f := by
  have hnew : ¬(s.link.ref.isSome = true ∧ s.link.silence = some 0) := by
    rintro ⟨href, hsilence⟩
    obtain h | h := h
    · rw [h] at href
      cases href
    · exact h hsilence
  unfold takeFrame
  rw [hworks, accepted_eq, finding_eq]
  exact (if_neg Bool.false_ne_true).trans (if_neg hnew)

theorem takeFrame_ignored (h : s.run.works = false ∨ (s.link.ref ≠ none ∧ s.link.silence = some 0)) : takeFrame f s = s := by
  unfold takeFrame
  obtain h | ⟨href, hsilence⟩ := h
  · rw [h]
    rfl
  · split
    · rfl
    · exact if_pos ⟨Option.isSome_iff_ne_none.mpr href, hsilence⟩

/-! ### The channels, the wake and the hits of a frame (R27, R28, R30, R175) -/

/-- What a channel does with a frame accepted now. -/
def State.frameResult (s : State) (f : Frame) (c : Chan) : ChanResult := s.channelResult f (findingOf s.link.ref f.seq) c

/-- The channels once each has taken the frame. -/
def State.frameChannels (s : State) (f : Frame) : Tab 16 ChanState :=
  (indices 16).foldl (fun t c => t.set c (s.frameResult f c).st) s.det.chans

theorem foldl_set_get {n : Nat} {α : Type} (g : Fin n → α) (l : List (Fin n)) (t : Tab n α) (i : Fin n) :
    (l.foldl (fun t j => t.set j (g j)) t).get i = if i ∈ l then g i else t.get i := by
  induction l generalizing t with
  | nil => rfl
  | cons j rest ih =>
    rw [List.foldl_cons, ih]
    by_cases hi : i ∈ rest
    · rw [if_pos hi, if_pos (List.mem_cons_of_mem j hi)]
    · rw [if_neg hi]
      by_cases hj : i = j
      · subst hj
        rw [if_pos List.mem_cons_self]
        exact Tab.get_set_same ..
      · rw [if_neg fun h => (List.mem_cons.mp h).elim hj hi]
        exact Tab.get_set_ne _ _ (Ne.symm hj)

theorem frameChannels_get (s : State) (f : Frame) (c : Chan) : (s.frameChannels f).get c = (s.frameResult f c).st :=
  (foldl_set_get ..).trans (if_pos (mem_indices 16 c))

/-- The part once each channel has taken the frame, the hits a BREAK lost being counted. -/
def State.driven (s : State) (f : Frame) : State :=
  { s.accepted f with
    det.chans := s.frameChannels f
    det.aborted := raised s.det.aborted ((indices 16).countP fun c => (s.frameResult f c).aborted) }

/-- The same, the wake made. -/
def State.woken (s : State) (f : Frame) : State :=
  if (indices 16).any (fun c => (s.frameResult f c).wake) then wake (s.driven f) else s.driven f

theorem detectFrame_eq (f : Frame) (s : State) : detectFrame f (findingOf s.link.ref f.seq) (s.accepted f)
    = timeMark s.clock ((indices 16).foldl (fun u c => settleHit c (s.frameResult f c) u) (s.woken f)) := by
  unfold detectFrame State.woken State.driven State.frameChannels
  dsimp only
  rw [List.foldl_map, List.foldl_map, List.any_map, List.countP_map, satAdd_eq]
  rfl

theorem frame_wakes : (indices 16).any (fun c => (s.frameResult f c).wake) = true ↔ ∃ c, (s.frameResult f c).wake = true := by
  rw [List.any_eq_true]
  exact ⟨fun ⟨c, _, h⟩ => ⟨c, h⟩, fun ⟨c, h⟩ => ⟨c, mem_indices 16 c, h⟩⟩

theorem woken_waking (hidle : s.powerIdle = true) (h : s.run = .quiet ∧ ∃ c, (s.frameResult f c).wake = true) :
    s.woken f = { s.driven f with run := .waking, ctrl.settle := some (0, s.ctrl.settleCount) } :=
  (if_pos (frame_wakes.mpr h.2)).trans (if_pos ⟨h.1, hidle⟩)

theorem woken_same (h : ¬(s.run = .quiet ∧ ∃ c, (s.frameResult f c).wake = true)) : s.woken f = s.driven f := by
  unfold State.woken
  split
  · rename_i hany
    exact if_neg fun hquiet => h ⟨hquiet.1, frame_wakes.mp hany⟩
  · rfl

/-- Outside a drain the frame leaves the channels as they took it, and the run state that the wake gave. -/
theorem framed_channel (f : Frame) (s : State) :
    ChannelFrame (s.woken f) (timeMark s.clock ((indices 16).foldl (fun u c => settleHit c (s.frameResult f c) u) (s.woken f))) :=
  (ChannelFrame.foldl _ (fun u c => settleHit_channel c (s.frameResult f c) u) _ _).trans (timeMark_channel ..)

theorem woken_frame (hidle : s.powerIdle = true) : (s.woken f).run
      = (if s.run = .quiet ∧ (∃ c, (s.frameResult f c).wake = true) then .waking else s.run)
    ∧ (s.woken f).det.chans = s.frameChannels f ∧ (s.woken f).link.ref = some (f.seq, s.clock) := by
  by_cases h : s.run = .quiet ∧ ∃ c, (s.frameResult f c).wake = true
  · rw [woken_waking hidle h, if_pos h]
    exact ⟨rfl, rfl, rfl⟩
  · rw [woken_same h, if_neg h]
    exact ⟨rfl, rfl, rfl⟩

theorem framed_traffic (f : Frame) (s : State) : TrafficFrame (s.woken f)
    (timeMark s.clock ((indices 16).foldl (fun u c => settleHit c (s.frameResult f c) u) (s.woken f))) :=
  (TrafficFrame.foldl _ (fun u c => settleHit_traffic c (s.frameResult f c) u) _ _).trans (timeMark_traffic ..)

theorem exec_sampleFrame (hworks : s.run.works = true) (h : s.link.ref = none ∨ s.link.silence ≠ some 0) (hmeasures : s.run.measures = true)
    (hidle : s.powerIdle = true) : exec (.sampleFrame f) s = .next (settleDown
      (timeMark s.clock ((indices 16).foldl (fun u c => settleHit c (s.frameResult f c) u) (s.woken f)))) :=
  answerNext_eq ((takeFrame_taken hworks h).trans ((if_pos ⟨hmeasures, hidle⟩).trans (detectFrame_eq f s)))

end

theorem works_of_measures {s : State} (h : s.run.measures = true) : s.run.works = true := by
  cases hrun : s.run <;> rw [hrun] at h <;> first | rfl | cases h

theorem not_measured {s : State} (h : s.measuring = false) : ¬(s.run.measures = true ∧ s.powerIdle = true) := fun ⟨hm, hidle⟩ => by
  unfold State.measuring at h
  rw [hm, hidle] at h
  cases h

theorem settleHit_eq (c : Chan) (r : ChanResult) (x : State) : settleHit c r x = match r.closed with
    | none => x
    | some (h, long) =>
      if x.run.measures then
        match h.record c long with
        | some g => enterHit g x
        | none => { x with det.aborted := raised x.det.aborted 1 }
      else x := by
  obtain ⟨st, closed, aborted, wake⟩ := r
  cases closed with
  | none => rfl
  | some p =>
    obtain ⟨h, long⟩ := p
    show (if x.run.measures then _ else x) = if x.run.measures then _ else x
    refine if_congr Iff.rfl ?_ rfl
    cases h.record c long with
    | none => exact congrArg (fun n => { x with det.aborted := n }) (satInc_eq _)
    | some g => rfl

/-- Settles O26: a frame where nothing is measured, one ignored, one that drives the channels, and the whole of a frame. -/
theorem framesDriveChannels : Obligations.FramesDriveChannels := by
  refine ⟨fun f s hworks hm h => ?_, fun f s h => answerNext_eq (takeFrame_ignored h), fun f s hrun hidle h => ?_,
    fun f s hmeasures hidle h => ?_⟩
  · refine answerNext_eq ((takeFrame_taken hworks h).trans ((if_neg (not_measured hm)).trans ?_))
    rw [accepted_eq]
    unfold Link.accept
    rw [finding_eq]
    cases findingOf s.link.ref f.seq <;> rfl
  · have hmeasures : s.run.measures = true := by obtain h | h | h := hrun <;> rw [h] <;> rfl
    have hset : (settleDown (takeFrame f s)).settings = s.settings := (settleDown_settings _).trans (takeFrame_settings f s)
    have htaken := (takeFrame_taken (works_of_measures hmeasures) h).trans ((if_pos ⟨hmeasures, hidle⟩).trans (detectFrame_eq f s))
    have hexec := exec_sampleFrame (f := f) (works_of_measures hmeasures) h hmeasures hidle
    obtain ⟨hwokenRun, hwokenChans, hwokenRef⟩ := woken_frame (f := f) hidle
    have hnot : (s.woken f).run ≠ .draining := by
      rw [hwokenRun]
      split
      · exact RunState.noConfusion
      · obtain h | h | h := hrun <;> rw [h] <;> exact RunState.noConfusion
    obtain ⟨hrun', hchans⟩ := (framed_channel f s).kept hnot
    have href := congrArg (fun u : State => u.link.ref) (framed_traffic f s)
    rw [htaken] at hset
    generalize timeMark s.clock _ = u at *
    refine ⟨_, hexec, hset, fun c => ?_, ?_, ?_⟩
    · rw [settleDown_det, hchans, hwokenChans]
      exact frameChannels_get s f c
    · rw [settleDown_run, hrun', hwokenRun]
      rfl
    · rw [settleDown_link, href]
      exact hwokenRef
  · intro res
    refine ⟨s.frameChannels f, frameChannels_get s f, ?_⟩
    intro u w closes
    have hw : s.woken f = w := by
      by_cases hwake : s.run = .quiet ∧ ∃ c, (s.frameResult f c).wake = true
      · exact (woken_waking hidle hwake).trans (if_pos hwake).symm
      · exact (woken_same hwake).trans (if_neg hwake).symm
    have hcloses : (fun x c => settleHit c (s.frameResult f c) x) = closes := by
      funext x c
      exact settleHit_eq c (s.frameResult f c) x
    refine (exec_sampleFrame (works_of_measures hmeasures) h hmeasures hidle).trans ?_
    rw [hw, hcloses]

end Sys2Proof.Machine
end

section
/-!
PROOFS. The probe line (R10, R11, R65).
-/

namespace Sys2Proof.Machine

section
variable {s : State}

/-! ### The second's close leaves the line and the probes (R65, R74) -/

theorem intervalCheck_temp (s : State) :
    ∃ m, (intervalCheck s).temp = { s.temp with summary := m } := by
  unfold intervalCheck
  dsimp only
  split
  · rw [createRecord_firing]
    exact ⟨_, rfl⟩
  · exact ⟨_, rfl⟩

/-- The rows as a second's close evaluates them. -/
def State.closedRows (s : State) : PerRow RowTemp :=
  { a := evalRow s.temp.probes s.temp.assign.a s.temp.holdLimit s.temp.rows.a
    b := evalRow s.temp.probes s.temp.assign.b s.temp.holdLimit s.temp.rows.b }

/-- The rows evaluated at the second's close, the round ended, and the row updates not yet handed on. -/
def State.rowsClosed (s : State) : State := { s with temp.rows := s.closedRows, temp.round := none }

theorem secondClose_eq (s : State) : secondClose s =
    (let u := updateRow .b s.closedRows.b (updateRow .a s.closedRows.a s.rowsClosed)
     intervalCheck { u with temp.summary := u.temp.accumulate }) := rfl

theorem secondClose_temp (s : State) : ∃ m, (secondClose s).temp = { s.temp with rows := s.closedRows, round := none, summary := m } := by
  obtain ⟨m, hm⟩ := intervalCheck_temp
    (let u := updateRow .b s.closedRows.b (updateRow .a s.closedRows.a s.rowsClosed)
     { u with temp.summary := u.temp.accumulate })
  refine ⟨m, ?_⟩
  rw [secondClose_eq, hm, updateRow_frame .b, updateRow_frame .a]
  rfl

/-! ### Rounds and answers (R10, R65) -/

variable {x : Polled} {o : ProbeOutcome}

/-- The probes once the outcome of an exchange is handled by its probe, unless it is to be discarded. -/
def State.probesTaken (s : State) (x : Polled) (o : ProbeOutcome) : Tab 6 ProbeState :=
  if x.discard then s.temp.probes else s.temp.probes.set x.probe (ProbeState.take s.temp.stepLimit o (s.temp.probes.get x.probe))

theorem deliver_eq (x : Polled) (o : ProbeOutcome) (s : State) : deliver x o s =
    match s.temp.round with
    | some l => pollNext l { s with temp.line := none, temp.probes := s.probesTaken x o }
    | none => { s with temp.line := none, temp.probes := s.probesTaken x o } := by
  unfold deliver State.probesTaken
  split <;> rfl

theorem signed16_toInt (r : BitVec 16) : signed16 r.toNat = r.toInt := by
  unfold signed16
  rw [BitVec.toInt_eq_toNat_cond]
  norm_num
  split <;> split <;> omega

/-- The outcome an answer gives its exchange. -/
def answerOutcome (a : Answer) : ProbeOutcome := if a.error then .probeError else .reading a.reading.toInt

theorem takeAnswer_valid {a : Answer} (hx : s.temp.line = some x) (hok : a.checkOk = true) (haddr : a.addr = x.probe) :
    takeAnswer a s = deliver x (answerOutcome a) s := by
  unfold takeAnswer answerOutcome
  rw [hx, signed16_toInt]
  exact if_pos ⟨hok, haddr⟩

theorem takeAnswer_invalid {a : Answer} (hx : s.temp.line = some x) (h : a.checkOk = false ∨ a.addr ≠ x.probe) : takeAnswer a s = s := by
  unfold takeAnswer
  rw [hx]
  refine if_neg fun ⟨hok, haddr⟩ => ?_
  obtain h | h := h
  · exact Bool.false_ne_true (h.symm.trans hok)
  · exact h haddr

theorem answerTimedOut_due (hx : s.temp.line = some x) (h : x.left = 0) : answerTimedOut s = deliver x .noAnswer s := by
  unfold answerTimedOut
  rw [hx]
  exact if_pos h

theorem answerTimedOut_early (hx : s.temp.line = some x) (h : x.left ≠ 0) : answerTimedOut s = s := by
  unfold answerTimedOut
  rw [hx]
  exact if_neg h

theorem deliver_next {q : Probe} {rest : List Probe} (hround : s.temp.round = some (q :: rest)) : deliver x o s =
    { s with
      temp.probes := s.probesTaken x o, temp.round := some rest, temp.line := some { probe := q, left := 164, discard := false } } := by
  rw [deliver_eq, hround]
  rfl

theorem deliver_closes (hround : s.temp.round = some []) :
    deliver x o s = secondClose { s with temp.line := none, temp.probes := s.probesTaken x o } := by
  rw [deliver_eq, hround]
  rfl

/-- What the end of a round leaves of the probe line and the rows. -/
theorem deliver_ends (hround : s.temp.round = some []) (x : Polled) (o : ProbeOutcome) :
    (deliver x o s).temp.probes = s.probesTaken x o ∧ (deliver x o s).temp.line = none ∧ (deliver x o s).temp.round = none
      ∧ (deliver x o s).temp.rows.a = evalRow (s.probesTaken x o) s.temp.assign.a s.temp.holdLimit s.temp.rows.a
      ∧ (deliver x o s).temp.rows.b = evalRow (s.probesTaken x o) s.temp.assign.b s.temp.holdLimit s.temp.rows.b := by
  obtain ⟨m, hm⟩ := secondClose_temp { s with temp.line := none, temp.probes := s.probesTaken x o }
  rw [deliver_closes hround, hm]
  exact ⟨rfl, rfl, rfl, rfl, rfl⟩

end

/-- Settles O30: a round's start, what is too early, an answer or a timeout with a probe to follow, with the exchange discarded,
at the round's end, and with no exchange. -/
theorem probeLineExchange : Obligations.ProbeLineExchange := by
  refine ⟨fun p rest s hworks hround hsec hused hlist => ?_, fun s h => ?_, fun a x q rest s hx hkeep hround => ?_,
    fun a x q rest s hx hdiscard hround => ?_, fun a x s hx hround => ?_, fun a s hx => ⟨?_, ?_⟩⟩
  · refine answerNext_eq ((if_pos ⟨hworks, hround, hsec, hused⟩).trans ?_)
    have hconfigured : (indices 6).filter s.configured = p :: rest := hlist
    rw [hconfigured]
    rfl
  · refine answerNext_eq (if_neg fun ⟨hworks, hround, hsec, hused⟩ => ?_)
    obtain h | h | h | h := h
    · exact Bool.false_ne_true (h.symm.trans hworks)
    · exact h hround
    · exact h hsec
    · exact Bool.false_ne_true (hused.symm.trans h)
  · intro next
    have hnext (o : ProbeOutcome) : settleDown (deliver x o s) = next o := by
      rw [deliver_next hround, State.probesTaken, hkeep]
      rfl
    refine ⟨fun hok haddr herr => ?_, fun hok haddr herr => ?_, fun h => answerNext_eq (takeAnswer_invalid hx h), fun h => ?_,
      fun h => answerNext_eq (answerTimedOut_early hx h)⟩
    · rw [← hnext]
      refine answerNext_eq ((takeAnswer_valid hx hok haddr).trans ?_)
      rw [answerOutcome, herr]
      rfl
    · rw [← hnext]
      refine answerNext_eq ((takeAnswer_valid hx hok haddr).trans ?_)
      rw [answerOutcome, herr]
      rfl
    · rw [← hnext]
      exact answerNext_eq (answerTimedOut_due hx h)
  · intro next
    have hnext (o : ProbeOutcome) : settleDown (deliver x o s) = next := by
      rw [deliver_next hround, State.probesTaken, hdiscard]
      rfl
    exact ⟨fun hok haddr => (answerNext_eq (takeAnswer_valid hx hok haddr)).trans (congrArg Host.Outcome.next (hnext _)),
      fun h => (answerNext_eq (answerTimedOut_due hx h)).trans (congrArg Host.Outcome.next (hnext _))⟩
  · intro ends
    have hends (o : ProbeOutcome) : ends (if x.discard then none else some o) (settleDown (deliver x o s)) := by
      have hprobes : (match (if x.discard then none else some o : Option ProbeOutcome) with
          | some r => s.temp.probes.set x.probe (ProbeState.take s.temp.stepLimit r (s.temp.probes.get x.probe))
          | none => s.temp.probes) = s.probesTaken x o := by
        unfold State.probesTaken
        cases x.discard <;> rfl
      obtain ⟨h1, h2, h3, h4, h5⟩ := deliver_ends hround x o
      have hset : (settleDown (deliver x o s)).settings = s.settings := (settleDown_settings _).trans (deliver_settings ..)
      rw [← settleDown_temp (deliver x o s)] at h1 h2 h3 h4 h5
      have hcloses := deliver_closes (x := x) (o := o) hround
      rw [← hprobes] at h1 h4 h5 hcloses
      exact ⟨h1, h2, h3, hset, h4, h5, congrArg settleDown hcloses⟩
    refine ⟨fun hok haddr => ⟨_, answerNext_eq (takeAnswer_valid hx hok haddr), ?_⟩,
      fun h => ⟨_, answerNext_eq (answerTimedOut_due hx h), hends _⟩⟩
    have h := hends (answerOutcome a)
    have houtcome : (if x.discard then none else if a.error then some .probeError else some (.reading a.reading.toInt))
        = (if x.discard then none else some (answerOutcome a) : Option ProbeOutcome) := by
      unfold answerOutcome
      cases a.error <;> rfl
    rw [houtcome]
    exact h
  · refine answerNext_eq ?_
    unfold takeAnswer
    rw [hx]
  · refine answerNext_eq ?_
    unfold answerTimedOut
    rw [hx]

end Sys2Proof.Machine
end

section
/-!
PROOFS. The second's close (R65, R72 to R74, R78, R80, R81) and the temperature record's words (10.4).
-/

namespace Sys2Proof.Machine

/-! ### A row at the close (R72, R73) -/

/-- An assigned probe is GOOD and reports `v` (R66). -/
def ReportsGood (probes : Tab 6 ProbeState) (p : Option Probe) (v : Int) : Prop :=
  ∃ n w1 w2 w3 f miss rej, p = some n ∧ probes.get n = .good w1 w2 w3 f miss rej ∧ v = (((f + 8) / 16 : Nat) : Int) - 400

theorem reported_eq (f : Nat) : reported f = (((f + 8) / 16 : Nat) : Int) - 400 := by
  unfold reported roundDiv
  omega

theorem assignedValue_eq_some {probes : Tab 6 ProbeState} {p : Option Probe} {v : Int} :
    assignedValue probes p = some v ↔ ReportsGood probes p v := by
  constructor
  · intro h
    obtain ⟨n, rfl, hn⟩ := Option.bind_eq_some_iff.mp h
    cases hg : probes.get n with
    | good w1 w2 w3 f miss rej =>
      rw [hg] at hn
      exact ⟨n, w1, w2, w3, f, miss, rej, rfl, hg, (Option.some.inj hn).symm.trans (reported_eq f)⟩
    | _ => rw [hg] at hn; cases hn
  · rintro ⟨n, w1, w2, w3, f, miss, rej, rfl, hg, rfl⟩
    exact (congrArg ProbeState.value? hg).trans (congrArg some (reported_eq f))

theorem assignedValue_eq_none {probes : Tab 6 ProbeState} {p : Option Probe} (h : ∀ v, ¬ReportsGood probes p v) :
    assignedValue probes p = none :=
  Option.eq_none_iff_forall_ne_some.mpr fun v hv => h v (assignedValue_eq_some.mp hv)

/-- A row with neither of its probes GOOD (R73). -/
theorem evalRow_unread {probes : Tab 6 ProbeState} {a : RowProbes} (ha : ∀ v, ¬ReportsGood probes a.primary v)
    (hb : ∀ v, ¬ReportsGood probes a.secondary v) (limit : Nat) (r : RowTemp) :
    evalRow probes a limit r = match r with
      | .none => .none
      | .live v => .held v 0
      | .secondary v => .held v 0
      | .held v h => holdOn limit v h false
      | .stale v h => holdOn limit v h true := by
  unfold evalRow
  rw [assignedValue_eq_none ha, assignedValue_eq_none hb] <;> rfl

theorem holdOn_held (limit : Nat) (v : Int) (h : Nat) :
    holdOn limit v h false = if limit ≤ satInc h then .stale v (satInc h) else .held v (satInc h) := by
  unfold holdOn
  simp only [Bool.false_or, decide_eq_true_eq]

theorem holdOn_stale (limit : Nat) (v : Int) (h : Nat) : holdOn limit v h true = .stale v (satInc h) := rfl

/-! ### The sums of the running summary (R80) -/

theorem sumProbe_eq (p : ProbeState) (m : ProbeSum) : sumProbe p m = summed p m := by
  cases p with
  | good w1 w2 w3 f miss rej =>
    unfold sumProbe summed
    dsimp only
    rw [reported_eq]
    cases m.range <;> rfl
  | _ => rfl

/-! ### Row updates handed on (R74) -/

/-- What a row update brings to the Trigger Unit. -/
theorem updateRow_trig (row : Row) (temp : RowTemp) (s : State) :
    (updateRow row temp s).trig = { s.trig with
      sets := s.trig.sets.map (TriggerSet.track row temp)
      waiting := if s.run.works then s.trig.waiting ++ [.temperature row temp (occurrences row temp s.trig.sets)] else s.trig.waiting } := by
  unfold updateRow
  rw [handEvent_eq]
  rfl

theorem updateRow_trig_congr (row : Row) (temp : RowTemp) {s t : State} (htrig : t.trig = s.trig) (hrun : t.run = s.run) :
    (updateRow row temp t).trig = (updateRow row temp s).trig := by
  rw [updateRow_trig, updateRow_trig, htrig, hrun]

theorem told_trig_congr (e : TrigEvent) {s t : State} (htrig : t.trig = s.trig) (hrun : t.run = s.run) :
    (t.told e).trig = (s.told e).trig := by
  unfold State.told
  rw [htrig, hrun]

/-! ### The interval check (R81) -/

section
variable {s : State} (ws : List Nat)

/-- A record of the other kind entering below the backlog and above it tells the Trigger Unit nothing (R153). -/
theorem createRecord_trig_quiet (k : RecKind) (h : s.rw.queue.length < 64) (hne : s.rw.queue.length ≠ 31) :
    (createRecord k ws s).trig = s.trig := by
  unfold createRecord
  dsimp only
  rw [enterRecord_free (s := { s with rw.created := s.rw.created + 1 }) h]
  dsimp only
  rw [if_neg hne]

theorem createRecord_trig_backlog (k : RecKind) (h : s.rw.queue.length = 31) :
    (createRecord k ws s).trig = (s.told (.backlog 32)).trig := by
  unfold createRecord
  dsimp only
  rw [enterRecord_free (s := { s with rw.created := s.rw.created + 1 }) (by show s.rw.queue.length < 64; omega)]
  dsimp only
  rw [if_pos h]
  rfl

theorem createRecord_other_lost (h : 64 ≤ s.rw.queue.length) :
    createRecord .other ws s = ({ s with rw.created := s.rw.created + 1 } : State).lost .other := by
  unfold createRecord
  dsimp only
  rw [enterRecord_full (s := { s with rw.created := s.rw.created + 1 }) h RecKind.noConfusion]

end

/-- The words of the record made at the boundary. -/
def State.summaryWords (s : State) : List Nat :=
  temperatureWords s.temp (s.clock / 8192) (s.temp.summary.short || decide (s.temp.summary.next < s.clock / 8192))

theorem intervalCheck_before {s : State} (h : s.clock / 8192 < s.temp.summary.next) : intervalCheck s = s :=
  if_neg (Nat.not_le.mpr h)

theorem intervalCheck_due {s : State} (h : s.temp.summary.next ≤ s.clock / 8192) : intervalCheck s =
    { createRecord .other s.summaryWords s with
      temp.summary := Summary.empty (s.clock / 8192) (nextBoundary s.temp.interval (s.clock / 8192)) false } :=
  if_pos h

/-! ### The second's close -/

/-- The rows handed on and the sums gathered, the interval not yet checked. -/
def State.summedUp (s : State) : State :=
  let u := updateRow .b s.closedRows.b (updateRow .a s.closedRows.a s.rowsClosed)
  { u with temp.summary := u.temp.accumulate }

/-- The sums of the rows. -/
def State.closedSums (s : State) : PerRow RowSum :=
  { a := sumRow s.closedRows.a s.temp.summary.rows.a, b := sumRow s.closedRows.b s.temp.summary.rows.b }

/-- The sums of the probes. -/
def State.probeSums (s : State) : Tab 6 ProbeSum := s.temp.probes.zipWith sumProbe s.temp.summary.probes

/-- The Trigger Unit with the two row updates of the close. -/
def State.rowUpdates (s : State) : State := updateRow .b s.closedRows.b (updateRow .a s.closedRows.a s)

/-- What `summedUp` is made of: the state's own parts, but for the rows, the sums and the two row updates. -/
structure SummedUp (s v : State) : Prop where
  run : v.run = s.run
  clock : v.clock = s.clock
  rw : v.rw = s.rw
  trig : v.trig = s.rowUpdates.trig
  temp : v.temp = { s.temp with
    rows := s.closedRows, round := none, summary := { s.temp.summary with probes := s.probeSums, rows := s.closedSums } }

theorem summedUp_spec (s : State) : SummedUp s s.summedUp where
  run := by unfold State.summedUp; rw [updateRow_frame .b, updateRow_frame .a]; rfl
  clock := by unfold State.summedUp; rw [updateRow_frame .b, updateRow_frame .a]; rfl
  rw := by unfold State.summedUp; rw [updateRow_frame .b, updateRow_frame .a]; rfl
  trig := updateRow_trig_congr .b _ (updateRow_trig_congr .a _ rfl rfl) (by rw [updateRow_run, updateRow_run]; rfl)
  temp := by unfold State.summedUp; rw [updateRow_frame .b, updateRow_frame .a]; rfl

theorem secondClose_summedUp (s : State) : secondClose s = intervalCheck s.summedUp := rfl

section
variable {s v : State}

/-- Before the boundary only the sums are gathered (R80). -/
theorem SummedUp.before (h : SummedUp s v) (hsec : s.clock / 8192 < s.temp.summary.next) :
    (intervalCheck v).temp.summary = { s.temp.summary with probes := s.probeSums, rows := s.closedSums }
      ∧ (intervalCheck v).rw = s.rw ∧ (intervalCheck v).trig = s.rowUpdates.trig := by
  have hnext : v.clock / 8192 < v.temp.summary.next := by rw [h.clock, h.temp]; exact hsec
  rw [intervalCheck_before hnext]
  exact ⟨congrArg TempUnit.summary h.temp, h.rw, h.trig⟩

/-- The words of the record as the close of `s` makes it. -/
def State.closedWords (s : State) : List Nat :=
  temperatureWords { s.temp with rows := s.closedRows, summary := { s.temp.summary with probes := s.probeSums, rows := s.closedSums } }
    (s.clock / 8192) (s.temp.summary.short || decide (s.temp.summary.next < s.clock / 8192))

theorem SummedUp.words (h : SummedUp s v) : v.summaryWords = s.closedWords := by
  unfold State.summaryWords
  rw [h.temp, h.clock]
  rfl

/-- At the boundary the record is made and the next interval begins (R81). -/
theorem SummedUp.due (h : SummedUp s v) (hsec : s.temp.summary.next ≤ s.clock / 8192) : intervalCheck v =
    { createRecord .other s.closedWords v with
      temp.summary := Summary.empty (s.clock / 8192) (nextBoundary s.temp.interval (s.clock / 8192)) false } := by
  have hnext : v.temp.summary.next ≤ v.clock / 8192 := by rw [h.clock, h.temp]; exact hsec
  rw [intervalCheck_due hnext, h.words, h.clock, congrArg TempUnit.interval h.temp]

theorem SummedUp.newRecord (h : SummedUp s v) (k : RecKind) (ws : List Nat) : v.newRecord k ws = s.newRecord k ws := by
  unfold State.newRecord
  rw [h.rw]

end

/-! ### The temperature record's words (10.4) -/

theorem probeWords_length (p : ProbeState) (m : ProbeSum) : (probeWords p m).length = 3 := by
  unfold probeWords
  split <;> rfl

theorem put_16 (v : Nat) : put 16 v = 65536 * v := put_eq 16 v

theorem probeWords_eq (p : ProbeState) (m : ProbeSum) : probeWords p m =
    (let w0 : Nat := (match p with
        | .absent => 0 | .starting .. => 1 | .good .. => 2 | .failed .. => 3) + 65536 * min m.good 65535
     match m.range with
      | some (lo, hi) => [w0, half lo + 65536 * half hi, half ((halfUp m.sumF (16 * m.good) : Int) - 400)]
      | none => [w0, 32768 + 65536 * 32768, 32768]) := by
  have hcode : p.code = match p with | .absent => 0 | .starting .. => 1 | .good .. => 2 | .failed .. => 3 := by
    cases p <;> rfl
  unfold probeWords sat16
  simp only [put_16, hcode]
  cases m.range <;> rfl

theorem rowWords_eq (r : RowTemp) (m : RowSum) : rowWords r m =
    [ (match r with
        | .none => 0 + 65536 * 32768
        | .live v => 1 + 65536 * half v
        | .secondary v => 2 + 65536 * half v
        | .held v _ => 3 + 65536 * half v
        | .stale v _ => 4 + 65536 * half v),
      min m.held 65535 + 65536 * min m.stale 65535 ] := by
  unfold rowWords sat16
  rw [put_16, put_16]
  cases r <;> rfl

section
variable (t : TempUnit) (sec : Nat) (short : Bool)

/-- The four words before the probes'. -/
def temperatureHeader : List Nat :=
  [2 + put 3 (b2n short) + put 4 (b2n t.curve.loaded), tickLow t.summary.start, tickLow sec, t.interval]

/-- The eighteen words of the probes, in threes. -/
def temperatureProbes : List Nat := (indices 6).flatMap fun p => probeWords (t.probes.get p) (t.summary.probes.get p)

theorem temperatureProbes_length : (temperatureProbes t).length = 18 :=
  threes_length (fun _ => probeWords_length ..) (indices 6)

theorem temperatureWords_eq : temperatureWords t sec short =
    temperatureHeader t sec short ++ (temperatureProbes t ++ (rowWords t.rows.a t.summary.rows.a ++ rowWords t.rows.b t.summary.rows.b)) := by
  have hprobes : (t.probes.zipWith probeWords t.summary.probes).items.flatten = temperatureProbes t := by
    rw [tab_items, ← List.flatMap_def]
    exact congrArg (List.flatMap · (indices 6)) (funext fun p => Tab.get_zipWith ..)
  unfold temperatureWords
  rw [hprobes, List.append_assoc, List.append_assoc]
  rfl

theorem temperatureWords_length : (temperatureWords t sec short).length = 26 := by
  rw [temperatureWords_eq, List.length_append, List.length_append, temperatureProbes_length]
  rfl

theorem temperatureWords_header : (temperatureWords t sec short).take 4 =
    [ 2 + 8 * (if short then 1 else 0) + 16 * (if t.curve.loaded then 1 else 0),
      t.summary.start % 4294967296, sec % 4294967296, t.interval ] := by
  rw [temperatureWords_eq]
  refine (List.take_left (l₁ := temperatureHeader t sec short)).trans ?_
  unfold temperatureHeader
  rw [put_eq, put_eq]
  rfl

theorem temperatureWords_probe (p : Probe) :
    ((temperatureWords t sec short).drop (4 + 3 * p.val)).take 3 = probeWords (t.probes.get p) (t.summary.probes.get p) := by
  have hp : (indices 6)[p.val]? = some p := by
    rw [indices_eq_finRange, List.getElem?_eq_getElem (by rw [List.length_finRange]; exact p.isLt), List.getElem_finRange]
    rfl
  rw [temperatureWords_eq, ← List.drop_drop]
  refine (congrArg (fun l => (List.drop (3 * p.val) l).take 3) (List.drop_left (l₁ := temperatureHeader t sec short))).trans ?_
  exact threes_get (f := fun p => probeWords (t.probes.get p) (t.summary.probes.get p)) (fun _ => probeWords_length ..) _ hp

theorem temperatureWords_rows : (temperatureWords t sec short).drop 22 =
    rowWords t.rows.a t.summary.rows.a ++ rowWords t.rows.b t.summary.rows.b := by
  rw [temperatureWords_eq, ← List.append_assoc]
  refine List.drop_left' ?_
  rw [List.length_append, temperatureProbes_length]
  rfl

end

/-! ### A second boundary with no probe (R65) -/

theorem startRound_unconfigured {s : State} (hworks : s.run.works = true) (hround : s.temp.round = none) (hsec : s.clock % 8192 = 0)
    (hused : s.temp.secondUsed = false) (habsent : ∀ p, s.temp.probes.get p = .absent) :
    startRound s = secondClose { s with temp.secondUsed := true } := by
  have hnone : (indices 6).filter s.configured = [] := by
    refine List.filter_eq_nil_iff.mpr fun p _ => ?_
    unfold State.configured
    rw [habsent p]
    decide
  unfold startRound
  rw [if_pos ⟨hworks, hround, hsec, hused⟩, hnone]
  rfl

/-! ### The obligation's clauses -/

section
variable (s : State)

theorem secondClose_rows : (secondClose s).temp.rows = s.closedRows ∧ (secondClose s).temp.round = none
    ∧ (secondClose s).temp.secondUsed = s.temp.secondUsed := by
  obtain ⟨m, hm⟩ := secondClose_temp s
  rw [hm]
  exact ⟨rfl, rfl, rfl⟩

variable {s}

theorem secondClose_before (hsec : s.clock / 8192 < s.temp.summary.next) :
    (secondClose s).temp.summary = { s.temp.summary with probes := s.probeSums, rows := s.closedSums }
      ∧ (secondClose s).rw = s.rw ∧ (secondClose s).trig = s.rowUpdates.trig := by
  rw [secondClose_summedUp]
  exact (summedUp_spec s).before hsec

theorem secondClose_due (hsec : s.temp.summary.next ≤ s.clock / 8192) : secondClose s =
    { createRecord .other s.closedWords s.summedUp with
      temp.summary := Summary.empty (s.clock / 8192) (nextBoundary s.temp.interval (s.clock / 8192)) false } := by
  rw [secondClose_summedUp]
  exact (summedUp_spec s).due hsec

/-- The Trigger Unit after the boundary's record (R153, R154). -/
theorem secondClose_due_trig (hsec : s.temp.summary.next ≤ s.clock / 8192) :
    (s.rw.queue.length < 64 → s.rw.queue.length ≠ 31 → (secondClose s).trig = s.rowUpdates.trig)
    ∧ (s.rw.queue.length = 31 → (secondClose s).trig = (s.rowUpdates.told (.backlog 32)).trig)
    ∧ (64 ≤ s.rw.queue.length → (secondClose s).trig = (s.rowUpdates.told (.recordLost false)).trig
      ∧ (secondClose s).rw.queue = s.rw.queue ∧ (secondClose s).rw.lostOther = raised s.rw.lostOther 1
      ∧ (secondClose s).rw.headerOther = s.rw.headerOther + 1) := by
  have hspec := summedUp_spec s
  have hrun : s.summedUp.run = s.rowUpdates.run := by
    rw [hspec.run, State.rowUpdates, updateRow_run, updateRow_run]
  rw [secondClose_due hsec]
  dsimp only
  rw [← hspec.rw]
  refine ⟨fun h hne => ?_, fun h => ?_, fun h => ?_⟩
  · rw [createRecord_trig_quiet _ _ h hne, hspec.trig]
  · rw [createRecord_trig_backlog _ _ h]
    exact told_trig_congr _ hspec.trig hrun
  · rw [createRecord_other_lost _ h]
    exact ⟨told_trig_congr (s := s.rowUpdates) (t := s.summedUp) _ hspec.trig hrun, rfl, rfl, rfl⟩

/-- The boundary's record enters a queue with room (R81). -/
theorem secondClose_due_queue (hsec : s.temp.summary.next ≤ s.clock / 8192) (h : s.rw.queue.length < 64) :
    (secondClose s).rw.queue = s.rw.queue ++ [s.newRecord .other s.closedWords] := by
  have hspec := summedUp_spec s
  rw [secondClose_due hsec]
  dsimp only
  rw [createRecord_queue_free _ _ (by rw [hspec.rw]; exact h), hspec.rw, hspec.newRecord]

theorem secondClose_due_created (hsec : s.temp.summary.next ≤ s.clock / 8192) :
    (secondClose s).rw.created = s.rw.created + 1 := by
  rw [secondClose_due hsec]
  exact (createRecord_created ..).trans (congrArg (·.created + 1) (summedUp_spec s).rw)

theorem secondClose_due_summary (hsec : s.temp.summary.next ≤ s.clock / 8192) :
    (secondClose s).temp.summary = Summary.empty (s.clock / 8192) (nextBoundary s.temp.interval (s.clock / 8192)) false := by
  rw [secondClose_due hsec]

end

/-- What the second's close, with what follows every command, leaves of the parts it touches. -/
theorem settledClose (s : State) :
    let t := settleDown (secondClose s)
    t.settings = s.settings ∧ t.temp.rows = s.closedRows ∧ t.temp.round = none ∧ t.temp.secondUsed = s.temp.secondUsed
    ∧ (s.clock / 8192 < s.temp.summary.next → t.trig = s.rowUpdates.trig ∧ t.rw.created = s.rw.created
      ∧ t.temp.summary.next = s.temp.summary.next)
    ∧ (s.temp.summary.next ≤ s.clock / 8192 → t.rw.created = s.rw.created + 1 ∧ t.temp.summary.start = s.clock / 8192
      ∧ t.temp.summary.next = (s.clock / 8192 / s.temp.interval + 1) * s.temp.interval ∧ t.temp.summary.short = false) := by
  obtain ⟨hrows, hround, hused⟩ := secondClose_rows s
  dsimp only
  rw [settleDown_temp, settleDown_trig, settleDown_rw_created]
  refine ⟨(settleDown_settings _).trans (secondClose_settings s), hrows, hround, hused, fun h => ?_, fun h => ?_⟩
  · obtain ⟨hsummary, hrw, htrig⟩ := secondClose_before h
    exact ⟨htrig, congrArg (·.created) hrw, by rw [hsummary]⟩
  · rw [secondClose_due_summary h]
    exact ⟨secondClose_due_created h, rfl, rfl, rfl⟩

/-- A HELD and a STALE row count their second, any other row none (R80). -/
theorem sumRow_eq (r : RowTemp) (x : RowSum) : sumRow r x = match r with
    | .held _ _ => { x with held := x.held + 1 }
    | .stale _ _ => { x with stale := x.stale + 1 }
    | _ => x := by
  cases r <;> rfl

/-- Settles O32: a row's evaluation, the second closed with no probe configured, bands, and what a close sums up, cuts and
records. -/
theorem secondCloseEvaluatesRows : Obligations.SecondCloseEvaluatesRows := by
  refine ⟨fun probes a limit r => ?_, fun s hworks hround hsec hused habsent => ?_, fun bounds t h => ?_, fun s => ?_⟩
  · intro shows up
    refine ⟨fun v hv => ?_, fun v hu hv => ?_, fun ha hb => ?_⟩
    · unfold evalRow
      rw [assignedValue_eq_some.mpr hv]
    · unfold evalRow
      rw [assignedValue_eq_none hu, assignedValue_eq_some.mpr hv]
    · rw [evalRow_unread ha hb]
      cases r with
      | held v h => exact holdOn_held limit v h
      | _ => rfl
  · intro a b
    have hexec : exec .pollRound s = .next (settleDown (secondClose { s with temp.secondUsed := true })) :=
      answerNext_eq (startRound_unconfigured hworks hround hsec hused habsent)
    obtain ⟨hset, hrows, hround', hused', hbefore, hdue⟩ := settledClose { s with temp.secondUsed := true }
    refine ⟨hexec, _, hexec, hset, hrows, hround', hused', fun h => ?_, hdue⟩
    obtain ⟨htrig, hkept⟩ := hbefore h
    exact ⟨htrig.trans (updateRow_trig_congr .b b (updateRow_trig_congr .a a rfl rfl) (by rw [updateRow_run, updateRow_run])), hkept⟩
  · exact Nat.min_eq_left (h ▸ List.length_filter_le ..)
  · intro m rows counted sec t handed
    obtain ⟨hrows, hround, _⟩ := secondClose_rows s
    refine ⟨hrows, hround, s.probeSums, fun p => (Tab.get_zipWith ..).trans (sumProbe_eq ..), ?_⟩
    intro sums
    have hsums : s.closedSums = sums :=
      congrArg₂ PerRow.mk (sumRow_eq rows.a m.rows.a) (sumRow_eq rows.b m.rows.b)
    refine ⟨fun h => ?_, fun h => ⟨secondClose_due_created h, ?_⟩⟩
    · obtain ⟨hsummary, hrw, htrig⟩ := secondClose_before h
      rw [hsums] at hsummary
      exact ⟨hsummary, hrw, htrig⟩
    · obtain ⟨hquiet, hbacklog, hlost⟩ := secondClose_due_trig h
      refine ⟨hquiet, hbacklog, hlost, secondClose_due_summary h,
        fun hq => ⟨_, secondClose_due_queue h hq, temperatureWords_length .., ?_, fun p => ?_, ?_⟩⟩
      · exact temperatureWords_header ..
      · exact (temperatureWords_probe ..).trans (probeWords_eq ..)
      · intro row
        rw [← hsums]
        exact (temperatureWords_rows ..).trans (congrArg₂ (· ++ ·) (rowWords_eq ..) (rowWords_eq ..))

end Sys2Proof.Machine
end
